-- ==== Sys2Proof/Word.lean ====
section
/-! DEFINITION. The word types of the device: bytes, 32-bit register and orrery words, 48-bit stamps and 64-bit device time. -/

namespace Sys2Proof

/-- A byte of memory or of a frame. -/
abbrev Byte := BitVec 8

/-- A register (R8) or an orrery core register (R338). -/
abbrev Word := BitVec 32

/-- Device time in dticks (R3). -/
abbrev Time := BitVec 64

end Sys2Proof
end

