-- ==== Sys2Proof/Syntax.lean ====
section
/-! DEFINITION. The commands of the device: one constructor of `Instr` for each row of spec/opcode_table.json, in the table's order,
with the operands the row's rule gives it. A command that stands for something the outside world does (an edge on a ball, a
sample, a packet, a host access) carries what the world supplies. -/

namespace Sys2Proof

/-- A line port LP0-LP5. -/
abbrev Port := Fin 6
/-- An orrery core OC0-OC7 (R338). -/
abbrev CoreId := Fin 8
/-- An orrery general register g0-g31 (R338). -/
abbrev GReg := Fin 32
/-- A reception identifier (R21). -/
abbrev Rxid := BitVec 8

/-- Who makes an access: the host (PCIe or SPI) or an orrery core. -/
inductive Agent where
  | host
  | core (k : CoreId)
deriving DecidableEq, Repr

/-- The operating modes (R36), coded as SYS_MODE_STAT.MODE. -/
inductive Mode where
  | head | follow | holdover | subordinate | survey | lastgasp | dormant | service
deriving DecidableEq, Repr

/-- The strap balls (R531). -/
structure Straps where
  bootSrc : BitVec 2
  hostSel : Bool
  cid     : BitVec 5
deriving DecidableEq, Repr

/-- What a march run finds in one bank (R392, R396): the faulty bit cells as (row, column), and whether the bank still fails after
repair. -/
structure BankFault where
  bank       : Fin 64
  cells      : List (Fin 512 × Fin 1024)
  stillFails : Bool
deriving DecidableEq, Repr

/-- How one MRAM word write ends (R402). -/
inductive MramOutcome where
  | verified
  | remapped
  | failed
deriving DecidableEq, Repr

/-- What the scrubber finds in one word (R402, R403). -/
inductive ScrubOutcome where
  | good
  | corrected
  | weak
  | uncorrectable
deriving DecidableEq, Repr

/-- A complex number of exact rational parts. -/
structure Cplx where
  re : Rat
  im : Rat
deriving DecidableEq, Repr, Inhabited

/-- What start-up reads from outside the digital device (R391, R395, R422): the PUF response, the march faults, whether the
mains input is deasserted, the QSPI contents of the two image copies, and the MRAM words it reads with an error (R402). -/
structure BootInputs where
  puf      : List Byte
  faults   : List BankFault
  mainsOk  : Bool
  imageA   : List Byte
  imageB   : List Byte
  mram     : List (Word × ScrubOutcome)
deriving DecidableEq, Repr

/-- What a tamper source watches (R439): the two supplies, the two clocks, the reference that both derive from (R529), the junction and the
mesh. -/
inductive TamperPart where
  | vddCore | vddAo | coreClock | lineClock | refclk | junction | mesh
deriving DecidableEq, Repr

/-- What a tamper source sees (R439): a supply in microvolts that has stood for some nanoseconds; a clock period, or the time without an edge,
in nominal periods; the junction in degrees; the mesh whole or not; the seal open. -/
inductive TamperSight where
  | seal
  | supply (ao : Bool) (uv : Nat) (ns : Rat)
  | clock (line : Bool) (periods : Rat)
  | junction (c : Int)
  | mesh (whole : Bool)
deriving DecidableEq, Repr

/-- The supplies whose fall the monitor of R544 sees. -/
inductive Supply where
  | groupA | vddCore | vddNv
deriving DecidableEq, Repr

/-- The clock domains in the order of R15. -/
inductive Domain where
  | ao | wake | line | dsp | core | ddr | pcie | ulir
deriving DecidableEq, Repr

/-- A JTAG access (R442). -/
inductive DebugKind where
  | boundaryScan
  | coreHalt (k : CoreId)
  | coreStep (k : CoreId)
  | regRead (k : CoreId) (r : GReg)
  | regWrite (k : CoreId) (r : GReg) (v : Word)
  | pcRead (k : CoreId)
  | pcWrite (k : CoreId) (v : Word)
  | memRead (addr : Word) (mram : ScrubOutcome)
  | memWrite (addr : Word) (v : Word)
deriving DecidableEq, Repr

/-- The raw values a re-plan run measures (R470-R472): per domain the counts of the stressed and the fresh ring oscillator, per port the ADC
reference in 1/256 dB (none where not measurable), the synthesiser's ratio offset in ppb, the largest passing MRAM shift, and the MRAM words of the
tables that read with an error (R402). -/
structure AgeRaw where
  ro      : List (Nat × Nat)
  adc     : List (Option Int)
  ulirPpb : Option Int
  mramM   : Nat
  mram    : List (Word × ScrubOutcome)
deriving DecidableEq, Repr

/-- What of the PCIe configuration space the device acts on: Bus Master Enable, and whether the host has put it in D3hot (R500). [PRESUMED, log 22] -/
structure Pci where
  busMaster : Bool
  d3hot     : Bool
deriving DecidableEq, Repr

/-- The DMA access that failed (R517): a write of the host event ring, the payload read of a submission ring's oldest incomplete
entry, or another access of a ring. -/
inductive DmaTarget where
  | eventRing
  | payload (r : Fin 8)
  | ring (r : Fin 8)
deriving DecidableEq, Repr

/-- The commands (spec/opcode_table.json), one constructor a row, in the table's order. -/
inductive Instr where
  -- resets, start-up, modes, supplies and clocks
  /-- POWER_ON_RESET (R530). -/
  | powerOnReset (straps : Straps)
  /-- SYSTEM_RESET (R530). -/
  | systemReset (agent : Agent) (v : Word)
  /-- HOST_RESET (R530). -/
  | hostReset
  /-- START_UP (R532). -/
  | startUp (inp : BootInputs)
  /-- START_UP_END (R37). -/
  | startUpEnd
  /-- MODE_REQUEST (R38). -/
  | modeRequest (agent : Agent) (v : Word)
  /-- MODE_TRANSITION (R43). -/
  | modeTransition
  /-- MAINS_LOSS (R40). -/
  | mainsLoss (zc : Bool)
  /-- MAINS_RETURN (R534). -/
  | mainsReturn
  /-- LASTGASP_FRAME_LAUNCH (R41). -/
  | lastgaspFrameLaunch
  /-- LASTGASP_FLUSH (R535). -/
  | lastgaspFlush
  /-- DORMANT_ENTRY (R536). -/
  | dormantEntry
  /-- WAKE_SOURCE (R537). -/
  | wakeSource (sources : BitVec 6)
  /-- SUPPLY_MONITOR (R544). -/
  | supplyMonitor (supply : Supply)
  /-- MRAM_FREEZE_LIFT (R544). -/
  | mramFreezeLift
  /-- REFCLK_LOST (R529). -/
  | refclkLost
  /-- REFCLK_RETURN (R529). -/
  | refclkReturn
  /-- PLL_UNLOCK (R529). -/
  | pllUnlock (domain : Domain)
  -- line ports
  /-- LP_PORT_ENABLE (R146). -/
  | lpPortEnable (n : Port)
  /-- LP_PORT_DISABLE (R146). -/
  | lpPortDisable (n : Port)
  /-- LP_PRESET_CHANGE (R122). -/
  | lpPresetChange (n : Port) (preset : BitVec 2)
  /-- LP_SYNC_RST (R146). -/
  | lpSyncRst (n : Port)
  /-- ADC_OVERLOAD (R123). -/
  | adcOverload (n : Port) (active : Bool)
  /-- AGC_ATTACK (R126). -/
  | agcAttack (n : Port) (x : Rat)
  /-- AGC_DECAY_WINDOW (R126). -/
  | agcDecayWindow (n : Port)
  /-- PGA_CODE_WRITE (R127). -/
  | pgaCodeWrite (n : Port) (v : Word)
  /-- NOTCH_COMMIT (R128). -/
  | notchCommit (n : Port) (j : Fin 4) (v : Word)
  /-- NOTCH_ENABLE (R129). -/
  | notchEnable (n : Port) (mask : BitVec 4)
  /-- FIR_SWAP_REQUEST (R132). -/
  | firSwapRequest (n : Port) (v : Word)
  /-- FIR_FADE_END (R133). -/
  | firFadeEnd (n : Port)
  /-- FIR_COEF_WRITE (R134). -/
  | firCoefWrite (n : Port) (bank : Bool) (t : Fin 96) (v : Word)
  /-- PEAK_READ (R135). -/
  | peakRead (n : Port)
  /-- RMS_WINDOW (R136). -/
  | rmsWindow (n : Port)
  /-- ZC_EDGE (R140). -/
  | zcEdge (n : Port) (level : Bool) (since : Time)
  /-- ZC_TIMEOUT (R142). -/
  | zcTimeout (n : Port)
  /-- NOISE_MAP_UPDATE (R144). -/
  | noiseMapUpdate (n : Port)
  /-- NMAP_CLEAR (R145). -/
  | nmapClear (n : Port)
  -- detection, decoding and commit
  /-- FFT_HOP (R150). -/
  | fftHop (n : Port) (samples first : List Rat)
  /-- NO_TIMING (R160). -/
  | noTiming (ctx : Fin 240)
  /-- VITERBI_DECODE (R172). -/
  | viterbiDecode (rxid : Rxid)
  /-- TAG_RESULT (R302). -/
  | tagResult (rxid : Rxid)
  /-- ACK_BOOKING (R202). -/
  | ackBooking (rxid : Rxid)
  /-- ACK_DECISION (R190). -/
  | ackDecision (rxid : Rxid)
  /-- COMMIT (R25). -/
  | commit (rxid : Rxid)
  /-- ACK_COMMIT_HORIZON (R31). -/
  | ackCommitHorizon (rxid : Rxid)
  /-- GATE_HORIZON (R262). -/
  | gateHorizon (index : Fin 256)
  /-- YOKE_CHANGE (R178). -/
  | yokeChange (v : BitVec 3)
  /-- DMD_PORT_DISABLE (R194). -/
  | dmdPortDisable (n : Port)
  /-- LOTEN_WRITE (R183). -/
  | lotenWrite (n : Port) (v : Word)
  /-- DIRECTED_WINDOW_OPEN (R179). -/
  | directedWindowOpen (id : Nat)
  /-- DIRECTED_WINDOW_END (R180). -/
  | directedWindowEnd (id : Nat)
  -- ledger paging
  /-- PAGE_IN (R284). -/
  | pageIn (addr : Word)
  /-- PAGE_IN_COMPLETE (R284). -/
  | pageInComplete (addr : Word) (mram : ScrubOutcome)
  /-- WRITE_BACK_COMPLETE (R285). -/
  | writeBackComplete (index : Nat)
  -- transmission
  /-- TX_CCM_START (R277). -/
  | txCcmStart (id : Nat)
  /-- TX_CCM_COMPLETE (R277). -/
  | txCcmComplete (id : Nat)
  /-- STREAM_TAKE (R210). -/
  | streamTake (id : Nat)
  /-- TXEN_ASSERT (R219). -/
  | txenAssert (id : Nat)
  /-- TX_LAUNCH (R218). -/
  | txLaunch (id : Nat)
  /-- TX_END (R35). -/
  | txEnd (id : Nat)
  /-- TXEN_RELEASE (R219). -/
  | txenRelease (n : Port)
  /-- TXH_END (R221). -/
  | txhEnd (n : Port)
  /-- GUARD_SYMBOL (R225). -/
  | guardSymbol (n : Port) (samples : List Rat)
  /-- UNMUTE (R226). -/
  | unmute (n : Port)
  /-- TX_PORT_DISABLE (R217). -/
  | txPortDisable (n : Port)
  /-- TX_CAL_START (R227). -/
  | txCalStart (v : Word)
  /-- TX_CAL_DONE (R227). -/
  | txCalDone (n : Port) (symbols : List (List Rat))
  /-- SHP_COEF_WRITE (R216). -/
  | shpCoefWrite (n : Port) (t : Fin 48) (v : Word)
  -- MAC engine
  /-- SUPERFRAME_START (R233). -/
  | superframeStart
  /-- SF_ORIGIN_WRITE (R231). -/
  | sfOriginWrite (agent : Agent) (lo : Word)
  /-- BEACON_BUILD (R234). -/
  | beaconBuild
  /-- ALMANAC_WALK (R239). -/
  | almanacWalk (slot : Fin 64)
  /-- WINDOW_CLOSE (R247). -/
  | windowClose (id : Nat)
  /-- WAKE_SETTLED (R248). -/
  | wakeSettled (id : Nat)
  /-- MASTER_BEACON_VERIFY (R266). -/
  | masterBeaconVerify (rxid : Rxid)
  /-- MASTER_BEACON_MISS (R269). -/
  | masterBeaconMiss
  /-- SUBMISSION_FETCH (R512). -/
  | submissionFetch (ring : Fin 8) (descOk payloadOk : Bool)
  /-- TQ_EXPIRED (R264). -/
  | tqExpired (index : Fin 256)
  -- ledger commands
  /-- LGR_LOOKUP (R293). -/
  | lgrLookup (agent : Agent)
  /-- LGR_IMPORT (R294). -/
  | lgrImport (agent : Agent) (mram : List (Word × ScrubOutcome))
  /-- LGR_EXPORT (R293). -/
  | lgrExport (agent : Agent)
  /-- LGR_FREE (R295). -/
  | lgrFree (agent : Agent)
  /-- LGR_PIN (R276). -/
  | lgrPin (agent : Agent)
  /-- LGR_UNPIN (R293). -/
  | lgrUnpin (agent : Agent)
  /-- LGR_CMD_COMPLETE (R293). -/
  | lgrCmdComplete
  /-- LGR_REBUILD (R292). -/
  | lgrRebuild (mram : List (Word × ScrubOutcome))
  /-- REBUILD_DONE (R292). -/
  | rebuildDone
  /-- LGR_SWEEP (R280). -/
  | lgrSweep
  /-- SWEEP_COMPLETE (R280). -/
  | sweepComplete
  /-- LEDGER_DISABLE (R287). -/
  | ledgerDisable
  -- key store, random source and cipher jobs
  /-- KEY_LOAD (R314). -/
  | keyLoad (slot : BitVec 13) (mram : List (Word × ScrubOutcome))
  /-- KEY_LOAD_STALL (R315). -/
  | keyLoadStall (mram : List (Word × ScrubOutcome))
  /-- GENMEM (R318). -/
  | genmem (slot : BitVec 13) (alg : BitVec 2)
  /-- KEY_ERASE (R321). -/
  | keyErase (slot : BitVec 13)
  /-- KEY_INFO (R318). -/
  | keyInfo (slot : BitVec 13)
  /-- KEY_CMD_COMPLETE (R318). -/
  | keyCmdComplete
  /-- RNG_RESEED (R310). -/
  | rngReseed
  /-- RNG_HEALTH_FAIL (R310). -/
  | rngHealthFail
  /-- KEY_RAND_READ (R310). -/
  | keyRandRead
  /-- CJOB_DONE (R306). -/
  | cjobDone (id : Nat)
  -- check-value contexts
  /-- CRC_INIT (R333). -/
  | crcInit (n : Fin 4) (v : Word)
  /-- CRC_DATA_WRITE (R334). -/
  | crcDataWrite (n : Fin 4) (v : Word)
  -- Orrery instructions
  /-- ADD (R346). -/
  | add (k : CoreId) (rd ra rb : GReg)
  /-- SUB (R346). -/
  | sub (k : CoreId) (rd ra rb : GReg)
  /-- AND (R346). -/
  | and (k : CoreId) (rd ra rb : GReg)
  /-- OR (R346). -/
  | or (k : CoreId) (rd ra rb : GReg)
  /-- XOR (R346). -/
  | xor (k : CoreId) (rd ra rb : GReg)
  /-- SLL (R346). -/
  | sll (k : CoreId) (rd ra rb : GReg)
  /-- SRL (R346). -/
  | srl (k : CoreId) (rd ra rb : GReg)
  /-- SRA (R346). -/
  | sra (k : CoreId) (rd ra rb : GReg)
  /-- MUL (R346). -/
  | mul (k : CoreId) (rd ra rb : GReg)
  /-- MULH (R346). -/
  | mulh (k : CoreId) (rd ra rb : GReg)
  /-- MIN (R346). -/
  | min (k : CoreId) (rd ra rb : GReg)
  /-- MAX (R346). -/
  | max (k : CoreId) (rd ra rb : GReg)
  /-- CLZ (R346). -/
  | clz (k : CoreId) (rd ra : GReg)
  /-- POPC (R346). -/
  | popc (k : CoreId) (rd ra : GReg)
  /-- BFX (R347). -/
  | bfx (k : CoreId) (rd ra : GReg) (signed : Bool) (lsb width : Nat)
  /-- BFI (R347). -/
  | bfi (k : CoreId) (rd ra : GReg) (lsb width : Nat)
  /-- ADDI (R346). -/
  | addi (k : CoreId) (rd ra : GReg) (imm : BitVec 16)
  /-- ANDI (R346). -/
  | andi (k : CoreId) (rd ra : GReg) (imm : BitVec 16)
  /-- ORI (R346). -/
  | ori (k : CoreId) (rd ra : GReg) (imm : BitVec 16)
  /-- XORI (R346). -/
  | xori (k : CoreId) (rd ra : GReg) (imm : BitVec 16)
  /-- SLLI (R346). -/
  | slli (k : CoreId) (rd ra : GReg) (sh : BitVec 5)
  /-- SRLI (R346). -/
  | srli (k : CoreId) (rd ra : GReg) (sh : BitVec 5)
  /-- SRAI (R346). -/
  | srai (k : CoreId) (rd ra : GReg) (sh : BitVec 5)
  /-- LUI (R346). -/
  | lui (k : CoreId) (rd : GReg) (imm : BitVec 16)
  /-- LW (R346). -/
  | lw (k : CoreId) (rd ra : GReg) (imm : BitVec 16)
  /-- LH (R346). -/
  | lh (k : CoreId) (rd ra : GReg) (imm : BitVec 16)
  /-- LHU (R346). -/
  | lhu (k : CoreId) (rd ra : GReg) (imm : BitVec 16)
  /-- LB (R346). -/
  | lb (k : CoreId) (rd ra : GReg) (imm : BitVec 16)
  /-- LBU (R346). -/
  | lbu (k : CoreId) (rd ra : GReg) (imm : BitVec 16)
  /-- SW (R346). -/
  | sw (k : CoreId) (rs ra : GReg) (imm : BitVec 16)
  /-- SH (R346). -/
  | sh (k : CoreId) (rs ra : GReg) (imm : BitVec 16)
  /-- SB (R346). -/
  | sb (k : CoreId) (rs ra : GReg) (imm : BitVec 16)
  /-- BEQ (R346). -/
  | beq (k : CoreId) (ra rb : GReg) (off : BitVec 16)
  /-- BNE (R346). -/
  | bne (k : CoreId) (ra rb : GReg) (off : BitVec 16)
  /-- BLT (R346). -/
  | blt (k : CoreId) (ra rb : GReg) (off : BitVec 16)
  /-- BGE (R346). -/
  | bge (k : CoreId) (ra rb : GReg) (off : BitVec 16)
  /-- BLTU (R346). -/
  | bltu (k : CoreId) (ra rb : GReg) (off : BitVec 16)
  /-- BGEU (R346). -/
  | bgeu (k : CoreId) (ra rb : GReg) (off : BitVec 16)
  /-- JAL (R348). -/
  | jal (k : CoreId) (off : BitVec 26)
  /-- JALR (R346). -/
  | jalr (k : CoreId) (rd ra : GReg) (imm : BitVec 16)
  /-- AMOADD (R361). -/
  | amoadd (k : CoreId) (rd ra rb : GReg)
  /-- AMOSWAP (R361). -/
  | amoswap (k : CoreId) (rd ra rb : GReg)
  /-- FENCE_M (R364). -/
  | fenceM (k : CoreId)
  /-- FENCE_IO (R364). -/
  | fenceIo (k : CoreId)
  /-- WAITT (R350). -/
  | waitt (k : CoreId) (e : Bool) (rd ra rb : GReg)
  /-- WAITT_TIME_REACHED (R350). -/
  | waittTimeReached (k : CoreId)
  /-- WAITE (R351). -/
  | waite (k : CoreId) (rd : GReg)
  /-- WAIT_EVENT_RESUME (R351). -/
  | waitEventResume (k : CoreId)
  /-- MFS (R349). -/
  | mfs (k : CoreId) (rd : GReg) (n : BitVec 8)
  /-- MTS (R349). -/
  | mts (k : CoreId) (n : BitVec 8) (ra : GReg)
  /-- EVPOP (R352). -/
  | evpop (k : CoreId) (rd ra : GReg)
  /-- TQADD (R261). -/
  | tqadd (k : CoreId) (rd ra : GReg)
  /-- TQCAN (R263). -/
  | tqcan (k : CoreId) (rd ra : GReg)
  /-- LSLD (R357). -/
  | lsld (k : CoreId) (rd ra : GReg) (imm : BitVec 16)
  /-- LSST (R356). -/
  | lsst (k : CoreId) (rs ra : GReg) (imm : BitVec 16)
  /-- LSLOCK (R355). -/
  | lslock (k : CoreId) (rd ra : GReg)
  /-- LSLOCK_GRANT (R355). -/
  | lslockGrant (k : CoreId)
  /-- LSUNL (R356). -/
  | lsunl (k : CoreId) (ra : GReg)
  /-- CJOB (R359). -/
  | cjob (k : CoreId) (rd ra : GReg)
  /-- CRCB (R360). -/
  | crcb (k : CoreId) (rd ra rb : GReg)
  -- orrery cores: completions, faults and control
  /-- LOAD_COMPLETE (R344). -/
  | loadComplete (k : CoreId) (mram : ScrubOutcome)
  /-- STORE_BUFFER_DRAIN (R362). -/
  | storeBufferDrain (k : CoreId)
  /-- LOCK_OVERRUN (R358). -/
  | lockOverrun (k : CoreId) (stall : BitVec 12)
  /-- WATCHDOG_EXPIRE (R367). -/
  | watchdogExpire (k : CoreId)
  /-- CORE_START (R368). -/
  | coreStart (agent : Agent) (mask : BitVec 8)
  /-- CORE_STOP (R369). -/
  | coreStop (agent : Agent) (mask : BitVec 8)
  /-- OCC_CFG_LOCK (R371). -/
  | occCfgLock (agent : Agent) (v : Word)
  /-- ITCM_WRITE (R342). -/
  | itcmWrite (agent : Agent) (core : CoreId) (off : BitVec 14) (w : Word)
  -- event collector and tally
  /-- EVENT_RECORD_WRITE (R379). -/
  | eventRecordWrite (dmaOk : Bool)
  /-- EVC_QCLR (R381). -/
  | evcQclr (mask : BitVec 8)
  /-- EVC_HR_CONS_WRITE (R382). -/
  | evcHrConsWrite (v : Word)
  /-- EVC_HR_ENABLE (R382). -/
  | evcHrEnable (v : Word)
  /-- TALLY_CLEAR (R384). -/
  | tallyClear
  -- memories
  /-- MARCH_REQUEST (R397). -/
  | marchRequest (v : Word)
  /-- MARCH_DONE (R397). -/
  | marchDone (faults : List BankFault)
  /-- MRAM_WRITE_LIMIT_RELEASE (R401). -/
  | mramWriteLimitRelease (addr : Word)
  /-- MRAM_WRITE_COMPLETE (R402). -/
  | mramWriteComplete (addr : Word) (outcome : MramOutcome)
  /-- MRAM_SCRUB (R403). -/
  | mramScrub (addr : Word) (outcome : ScrubOutcome)
  /-- PARTITION_WIPED (R391). -/
  | partitionWiped (mram : List (Word × ScrubOutcome))
  /-- DDR_TRAIN (R405). -/
  | ddrTrain (v : Word)
  /-- DDR_READY (R405). -/
  | ddrReady (ok : Bool) (density : BitVec 2)
  /-- DDR_RETRACK (R405). -/
  | ddrRetrack
  /-- DDR_REFRESH (R405). -/
  | ddrRefresh (rate : BitVec 3)
  /-- DDR_REGION_ENABLE (R407). -/
  | ddrRegionEnable (r : Fin 8) (v : Word)
  /-- DDR_REGION_READY (R407). -/
  | ddrRegionReady (r : Fin 8)
  /-- DDR_REGION_SWEEP (R408). -/
  | ddrRegionSweep (r : Fin 8)
  /-- DDR_SWEEP_COMPLETE (R408). -/
  | ddrSweepComplete (r : Fin 8)
  -- security and life-cycle
  /-- NONCE (R431). -/
  | nonce (agent : Agent)
  /-- STAGE (R417). -/
  | stage (agent : Agent)
  /-- UNSTAGE (R418). -/
  | unstage (agent : Agent)
  /-- DEPLOY (R417). -/
  | deploy (agent : Agent)
  /-- DEBUG (R432). -/
  | debug (agent : Agent)
  /-- ATTEST (R428). -/
  | attest (agent : Agent) (mram : List (Word × ScrubOutcome))
  /-- IDENT (R428). -/
  | ident (agent : Agent) (mram : List (Word × ScrubOutcome))
  /-- EXTEND (R429). -/
  | extend (agent : Agent)
  /-- ROLLBACK (R424). -/
  | rollback (agent : Agent)
  /-- REVOKE (R424). -/
  | revoke (agent : Agent)
  /-- END_LOCAL (R417). -/
  | endLocal (agent : Agent)
  /-- SEC_CMD_COMPLETE (R444). -/
  | secCmdComplete
  /-- PRESENCE_RELEASE (R434). -/
  | presenceRelease (holdMs : Nat)
  /-- PRESENCE_WINDOW_EXPIRE (R435). -/
  | presenceWindowExpire
  /-- SEAL_PULSE (R437). -/
  | sealPulse (width observed : Nat)
  /-- TAMPER_FIRE (R441). -/
  | tamperFire (sight : TamperSight)
  /-- TEST_MODE_ENTRY (R442). -/
  | testModeEntry
  -- Ulir ring and timing domain
  /-- ULIR_DISC (R452). -/
  | ulirDisc (seq : Byte) (list : List Byte)
  /-- ULIR_CAL (R455). -/
  | ulirCal (r : Nat)
  /-- ULIR_TIME (R457). -/
  | ulirTime (stamp : Rat) (payload : List Byte)
  /-- ULIR_FAULT (R453). -/
  | ulirFault (src : BitVec 5) (seq : Byte)
  /-- ULIR_LOOKUP_REQ (R461). -/
  | ulirLookupReq (src : BitVec 5) (seq : Byte) (addr : Word) (tag : Byte)
  /-- ULIR_LOOKUP_RSP (R461). -/
  | ulirLookupRsp (returned : Bool) (src : BitVec 5) (seq : Byte) (tag : Byte) (owner : Bool)
  /-- ULIR_BCN_REQ (R464). -/
  | ulirBcnReq (src : BitVec 5) (seq : Byte) (msg : List Byte) (tag : Byte)
  /-- ULIR_BCN_TAG (R464). -/
  | ulirBcnTag (tag : Byte) (mac : Option (List Byte))
  /-- ULIR_SEG (R463). -/
  | ulirSeg (src : BitVec 5) (rxid : Rxid) (seq : Byte) (bytes : List Byte)
  /-- ULIR_COMMIT (R463). -/
  | ulirCommit (src : BitVec 5) (rxid : Rxid) (seq : Byte) (flags : Byte)
  /-- ULIR_VOID (R200). -/
  | ulirVoid (src : BitVec 5) (rxid : Rxid) (seq : Byte) (reason : Byte)
  /-- ULIR_BAD_PACKET (R451). -/
  | ulirBadPacket (bytes : List Byte)
  /-- DISC_TIMER (R452). -/
  | discTimer
  /-- CAL_TIMER (R455). -/
  | calTimer
  /-- ULK_CAL (R455). -/
  | ulkCal
  /-- TIME_SEND (R456). -/
  | timeSend
  /-- LANE_FAULT (R453). -/
  | laneFault (comma : Bool) (violations : Nat)
  /-- TIME_PACKET_TIMEOUT (R453). -/
  | timePacketTimeout
  /-- ALIGNMENT_STEP (R457). -/
  | alignmentStep
  /-- LOOKUP_QUERY (R462). -/
  | lookupQuery (addr : Word)
  /-- LOOKUP_TIMEOUT (R461). -/
  | lookupTimeout (tag : Byte)
  /-- BCN_TAG_DEADLINE (R464). -/
  | bcnTagDeadline
  -- ageing
  /-- AGE_RUN (R473). -/
  | ageRun
  /-- AGE_RUN_DUE (R473). -/
  | ageRunDue
  /-- REPLAN (R474). -/
  | replan (raw : AgeRaw)
  /-- PPS_EDGE (R472). -/
  | ppsEdge
  /-- AGE_VID_WRITE (R479). -/
  | ageVidWrite (v : Word)
  /-- VID_STEP (R479). -/
  | vidStep
  -- serial ports
  /-- UART_CHAR_RECEIVED (R485): RXD's levels from the start edge on, each with its duration in WAKE cycles. -/
  | uartCharReceived (n : Fin 2) (start : Time) (levels : List (Bool × Rat))
  /-- UART_BREAK (R488). -/
  | uartBreak (n : Fin 2) (start : Time)
  /-- LINE_STUCK (R489). -/
  | lineStuck (n : Fin 2)
  /-- STUCK_CLEAR (R489). -/
  | stuckClear (n : Fin 2)
  /-- UART_RX_TIMEOUT (R487). -/
  | uartRxTimeout (n : Fin 2)
  /-- UART_RX_READ (R485). -/
  | uartRxRead (n : Fin 2)
  /-- UART_TX_WRITE (R490). -/
  | uartTxWrite (n : Fin 2) (v : Word)
  /-- UART_CHAR_SENT (R490). -/
  | uartCharSent (n : Fin 2)
  /-- UART_TXFLUSH (R498). -/
  | uartTxflush (n : Fin 2)
  /-- UART_RXFLUSH (R498). -/
  | uartRxflush (n : Fin 2)
  /-- FIFO_CTL_WRITE (R494). -/
  | fifoCtlWrite (n : Fin 2) (v : Word)
  /-- CTS_CHANGE (R493). -/
  | ctsChange (level : Bool)
  /-- UART_REARM (R497). -/
  | uartRearm (n : Fin 2)
  -- host interface and registers
  /-- SPI_WRITE (R503). -/
  | spiWrite (addr : Word) (data : List Byte)
  /-- SPI_READ (R503). -/
  | spiRead (addr : Word) (waits len : Nat) (mram : List (Word × ScrubOutcome))
  /-- A one-byte SPI transaction (R503, R504): SPI_STATUS's opcode, or another. -/
  | spiStatus (opcode : Byte)
  /-- RING_TAIL_WRITE (R506). -/
  | ringTailWrite (r : Fin 8) (v : Word)
  /-- RING_ENABLE (R523). -/
  | ringEnable (r : Fin 8) (v : Word)
  /-- RING_DISABLE (R523). -/
  | ringDisable (r : Fin 8)
  /-- DMA_ERROR (R517). -/
  | dmaError (target : DmaTarget)
  /-- IRQ_MODERATION_TIMER (R519). -/
  | irqModerationTimer (c : Fin 11)
  /-- HOST_BOOT_GO (R520). -/
  | hostBootGo (v : Word)
  /-- REG_LO_READ (R272). -/
  | regLoRead (addr : Word) (mram : List (Word × ScrubOutcome))
  /-- REGISTER_WRITE (R10). -/
  | registerWrite (agent : Agent) (addr : Word) (v : Word)
  /-- ILLEGAL_INSTRUCTION (R345). -/
  | illegalInstruction (k : CoreId) (w : Word)
  /-- BAR2_WRITE (R501). -/
  | bar2Write (off : Word) (data : List Byte)
  /-- REF_LOCK (R454). -/
  | refLock
  /-- LINK_UP (R500), with what the host's configuration writes have made of the configuration space. -/
  | linkUp (up : Bool) (speed width : BitVec 2) (pci : Pci)
  /-- DEBUG_ACCESS (R442). -/
  | debugAccess (kind : DebugKind)
  /-- GROUP_A_WITHIN_LIMITS (R525). -/
  | groupAWithinLimits
deriving DecidableEq, Repr

end Sys2Proof
end

