-- ==== Sys2Proof/Decode.lean ====
section
/-! DEFINITION. Words. The opcode table gives its rows no bits, so no table word spells a command. The Orrery instruction words of R345 to R347
are decoded and encoded here for the command that an illegal word makes (ILLEGAL_INSTRUCTION). -/

namespace Sys2Proof

/-- The command a word spells by the table's bits: the table gives none. [DESIGN CHOICE, log 3] -/
def decodeTableWord (_nbits _w : Nat) : Option Instr := none

/-! ### Orrery instruction words (R345) -/

/-- The field of `n` bits from bit `lo`. -/
def wordField (w : Word) (lo n : Nat) : BitVec n := w.extractLsb' lo n

/-- A register field. -/
def regField (w : Word) (lo : Nat) : GReg := (wordField w lo 5).toFin

/-- Formats A, I, B and J of R345 written out. -/
def formatA (op : BitVec 6) (fn : BitVec 11) (rd ra rb : GReg) : Word :=
  fn ++ BitVec.ofFin (w := 5) rb ++ BitVec.ofFin (w := 5) ra ++ BitVec.ofFin (w := 5) rd ++ op
def formatI (op : BitVec 6) (imm : BitVec 16) (rd ra : GReg) : Word :=
  imm ++ BitVec.ofFin (w := 5) ra ++ BitVec.ofFin (w := 5) rd ++ op
def formatB (op : BitVec 6) (off : BitVec 16) (ra rb : GReg) : Word :=
  off ++ BitVec.ofFin (w := 5) rb ++ BitVec.ofFin (w := 5) ra ++ op
def formatJ (op : BitVec 6) (off : BitVec 26) : Word := off ++ op

/-- The word of an Orrery instruction (R346, R347); `none` for a command that is no instruction and for a bit field outside the word. -/
def encodeOrrery : Instr → Option Word
  | .add _ rd ra rb => some (formatA 0x01 0x000 rd ra rb)
  | .sub _ rd ra rb => some (formatA 0x01 0x001 rd ra rb)
  | .and _ rd ra rb => some (formatA 0x01 0x002 rd ra rb)
  | .or _ rd ra rb => some (formatA 0x01 0x003 rd ra rb)
  | .xor _ rd ra rb => some (formatA 0x01 0x004 rd ra rb)
  | .sll _ rd ra rb => some (formatA 0x01 0x005 rd ra rb)
  | .srl _ rd ra rb => some (formatA 0x01 0x006 rd ra rb)
  | .sra _ rd ra rb => some (formatA 0x01 0x007 rd ra rb)
  | .mul _ rd ra rb => some (formatA 0x01 0x008 rd ra rb)
  | .mulh _ rd ra rb => some (formatA 0x01 0x009 rd ra rb)
  | .min _ rd ra rb => some (formatA 0x01 0x00A rd ra rb)
  | .max _ rd ra rb => some (formatA 0x01 0x00B rd ra rb)
  | .clz _ rd ra => some (formatA 0x01 0x00C rd ra 0)
  | .popc _ rd ra => some (formatA 0x01 0x00D rd ra 0)
  | .bfx _ rd ra sgn lsb width =>
    if 1 ≤ width ∧ lsb + width ≤ 32 then
      some (formatA 0x02 (BitVec.ofBool sgn ++ BitVec.ofNat 5 (width - 1) ++ BitVec.ofNat 5 lsb) rd ra 0) else none
  | .bfi _ rd ra lsb width =>
    if 1 ≤ width ∧ lsb + width ≤ 32 then
      some (formatA 0x03 (0#1 ++ BitVec.ofNat 5 (width - 1) ++ BitVec.ofNat 5 lsb) rd ra 0) else none
  | .addi _ rd ra imm => some (formatI 0x08 imm rd ra)
  | .andi _ rd ra imm => some (formatI 0x09 imm rd ra)
  | .ori _ rd ra imm => some (formatI 0x0A imm rd ra)
  | .xori _ rd ra imm => some (formatI 0x0B imm rd ra)
  | .slli _ rd ra sh => some (formatI 0x0C (0#11 ++ sh) rd ra)
  | .srli _ rd ra sh => some (formatI 0x0D (0#11 ++ sh) rd ra)
  | .srai _ rd ra sh => some (formatI 0x0E (0#11 ++ sh) rd ra)
  | .lui _ rd imm => some (formatI 0x0F imm rd 0)
  | .lw _ rd ra imm => some (formatI 0x10 imm rd ra)
  | .lh _ rd ra imm => some (formatI 0x11 imm rd ra)
  | .lhu _ rd ra imm => some (formatI 0x12 imm rd ra)
  | .lb _ rd ra imm => some (formatI 0x13 imm rd ra)
  | .lbu _ rd ra imm => some (formatI 0x14 imm rd ra)
  | .sw _ rs ra imm => some (formatI 0x18 imm rs ra)
  | .sh _ rs ra imm => some (formatI 0x19 imm rs ra)
  | .sb _ rs ra imm => some (formatI 0x1A imm rs ra)
  | .beq _ ra rb off => some (formatB 0x20 off ra rb)
  | .bne _ ra rb off => some (formatB 0x21 off ra rb)
  | .blt _ ra rb off => some (formatB 0x22 off ra rb)
  | .bge _ ra rb off => some (formatB 0x23 off ra rb)
  | .bltu _ ra rb off => some (formatB 0x24 off ra rb)
  | .bgeu _ ra rb off => some (formatB 0x25 off ra rb)
  | .jal _ off => some (formatJ 0x26 off)
  | .jalr _ rd ra imm => some (formatI 0x27 imm rd ra)
  | .amoadd _ rd ra rb => some (formatA 0x30 0x000 rd ra rb)
  | .amoswap _ rd ra rb => some (formatA 0x30 0x001 rd ra rb)
  | .fenceM _ => some (formatA 0x31 0x000 0 0 0)
  | .fenceIo _ => some (formatA 0x31 0x001 0 0 0)
  | .waitt _ e rd ra rb => some (formatA 0x32 (0#10 ++ BitVec.ofBool e) rd ra rb)
  | .mfs _ rd n => some (formatA 0x33 (0#3 ++ n) rd 0 0)
  | .mts _ n ra => some (formatA 0x34 (0#3 ++ n) 0 ra 0)
  | .waite _ rd => some (formatA 0x35 0x000 rd 0 0)
  | .evpop _ rd ra => some (formatA 0x36 0x000 rd ra 0)
  | .tqadd _ rd ra => some (formatA 0x37 0x000 rd ra 0)
  | .tqcan _ rd ra => some (formatA 0x38 0x000 rd ra 0)
  | .lsld _ rd ra imm => some (formatI 0x39 imm rd ra)
  | .lsst _ rs ra imm => some (formatI 0x3A imm rs ra)
  | .lslock _ rd ra => some (formatA 0x3B 0x000 rd ra 0)
  | .lsunl _ ra => some (formatA 0x3C 0x000 0 ra 0)
  | .cjob _ rd ra => some (formatA 0x3D 0x000 rd ra 0)
  | .crcb _ rd ra rb => some (formatA 0x3E 0x000 rd ra rb)
  | _ => none

/-- An `if` that yields an instruction only where fields that must be zero are zero (R345). -/
def onlyIf (c : Bool) (i : Instr) : Option Instr := if c then some i else none

/-- Register arithmetic, op 0x01. -/
def decodeAlu (k : CoreId) (fn : Nat) (rd ra rb : GReg) : Option Instr :=
  match fn with
  | 0x0 => some (.add k rd ra rb)
  | 0x1 => some (.sub k rd ra rb)
  | 0x2 => some (.and k rd ra rb)
  | 0x3 => some (.or k rd ra rb)
  | 0x4 => some (.xor k rd ra rb)
  | 0x5 => some (.sll k rd ra rb)
  | 0x6 => some (.srl k rd ra rb)
  | 0x7 => some (.sra k rd ra rb)
  | 0x8 => some (.mul k rd ra rb)
  | 0x9 => some (.mulh k rd ra rb)
  | 0xA => some (.min k rd ra rb)
  | 0xB => some (.max k rd ra rb)
  | 0xC => onlyIf (rb == 0) (.clz k rd ra)
  | 0xD => onlyIf (rb == 0) (.popc k rd ra)
  | _ => none

/-- Decode an instruction word of core k (R345-R347); `none` is an illegal instruction. -/
def decodeOrrery (k : CoreId) (w : Word) : Option Instr :=
  let fn := wordField w 21 11
  let rb := regField w 16
  let ra := regField w 11
  let rd := regField w 6
  let imm := wordField w 16 16
  let sh := wordField w 16 5
  let lsb := (wordField w 21 5).toNat
  let width := (wordField w 26 5).toNat + 1
  let shZero := wordField w 21 11 == 0
  match (wordField w 0 6).toNat with
  | 0x01 => decodeAlu k fn.toNat rd ra rb
  | 0x02 => onlyIf (rb == 0 && decide (lsb + width ≤ 32)) (.bfx k rd ra (w.getLsbD 31) lsb width)
  | 0x03 => onlyIf (rb == 0 && !w.getLsbD 31 && decide (lsb + width ≤ 32)) (.bfi k rd ra lsb width)
  | 0x08 => some (.addi k rd ra imm)
  | 0x09 => some (.andi k rd ra imm)
  | 0x0A => some (.ori k rd ra imm)
  | 0x0B => some (.xori k rd ra imm)
  | 0x0C => onlyIf shZero (.slli k rd ra sh)
  | 0x0D => onlyIf shZero (.srli k rd ra sh)
  | 0x0E => onlyIf shZero (.srai k rd ra sh)
  | 0x0F => onlyIf (ra == 0) (.lui k rd imm)
  | 0x10 => some (.lw k rd ra imm)
  | 0x11 => some (.lh k rd ra imm)
  | 0x12 => some (.lhu k rd ra imm)
  | 0x13 => some (.lb k rd ra imm)
  | 0x14 => some (.lbu k rd ra imm)
  | 0x18 => some (.sw k rd ra imm)
  | 0x19 => some (.sh k rd ra imm)
  | 0x1A => some (.sb k rd ra imm)
  | 0x20 => some (.beq k rd ra imm)
  | 0x21 => some (.bne k rd ra imm)
  | 0x22 => some (.blt k rd ra imm)
  | 0x23 => some (.bge k rd ra imm)
  | 0x24 => some (.bltu k rd ra imm)
  | 0x25 => some (.bgeu k rd ra imm)
  | 0x26 => some (.jal k (wordField w 6 26))
  | 0x27 => some (.jalr k rd ra imm)
  | 0x30 => if fn == 0 then some (.amoadd k rd ra rb) else onlyIf (fn == 1) (.amoswap k rd ra rb)
  | 0x31 =>
    if fn == 0 then onlyIf (rd == 0 && ra == 0 && rb == 0) (.fenceM k)
    else onlyIf (fn == 1 && rd == 0 && ra == 0 && rb == 0) (.fenceIo k)
  | 0x32 => onlyIf (wordField w 22 10 == 0) (.waitt k (w.getLsbD 21) rd ra rb)
  | 0x33 => onlyIf (wordField w 29 3 == 0 && ra == 0 && rb == 0) (.mfs k rd (wordField w 21 8))
  | 0x34 => onlyIf (wordField w 29 3 == 0 && rd == 0 && rb == 0) (.mts k (wordField w 21 8) ra)
  | 0x35 => onlyIf (fn == 0 && ra == 0 && rb == 0) (.waite k rd)
  | 0x36 => onlyIf (fn == 0 && rb == 0) (.evpop k rd ra)
  | 0x37 => onlyIf (fn == 0 && rb == 0) (.tqadd k rd ra)
  | 0x38 => onlyIf (fn == 0 && rb == 0) (.tqcan k rd ra)
  | 0x39 => some (.lsld k rd ra imm)
  | 0x3A => some (.lsst k rd ra imm)
  | 0x3B => onlyIf (fn == 0 && rb == 0) (.lslock k rd ra)
  | 0x3C => onlyIf (fn == 0 && rd == 0 && rb == 0) (.lsunl k ra)
  | 0x3D => onlyIf (fn == 0 && rb == 0) (.cjob k rd ra)
  | 0x3E => onlyIf (fn == 0) (.crcb k rd ra rb)
  | _ => none

end Sys2Proof
end

