-- ==== Sys2Proof/Config.lean ====
section
/-! DEFINITION. What an implementation fixes and the spec leaves open: constants with no body, so that no proof can see their value. -/

namespace Sys2Proof.Config

/-- The i-th free value of `w` bits (random draws, R310, R431; the CYCLE count, R349). [DESIGN CHOICE, log 9; DEDUCED, log 16] -/
opaque freeValue (w : Nat) (i : Nat) : BitVec w

/-- A uniformly described random byte string: `n` bytes of the i-th draw. [DESIGN CHOICE, log 9] -/
opaque freeBytes (n : Nat) (i : Nat) : List Byte

/-- Byte i of the LPDDR4X training record for a density: its layout is the controller's own (R405). [DESIGN CHOICE, log 12] -/
opaque trainingByte (density : BitVec 2) (i : Nat) : Byte

/-- Byte i of the boot ROM, whose contents the spec does not give. [DESIGN CHOICE, log 12] -/
opaque romByte (i : Nat) : Byte

/-- Which of two trellis paths of equal metric the Viterbi decoder keeps at a step and state (R172 gives no rule). [DESIGN CHOICE, log 11] -/
opaque viterbiTie (step state : Nat) : Bool

/-- A ratio over zero noise or zero power, where a formula of chapter 5 divides by a measured power that is zero. [DESIGN CHOICE, log 11] -/
opaque overZero (x : Rat) : Rat

/-- The phase slope the pilot fit of R167 takes when all its pilots lie on one tone: one point fixes no slope. [DESIGN CHOICE, log 11] -/
opaque lonePilotSlope (phi : Rat) : Rat

/-- The taps of the transmit interpolator at 6.144 MS/s, its middle tap at the reference: R215 bounds its passband and its
attenuation only. [DESIGN CHOICE, log 60] -/
opaque interpolator : List Rat

/-- Whether a start-up tests all banks under MARCH_POLICY 3, which R395 does not list. [DESIGN CHOICE, log 13] -/
opaque marchOther : Bool

/-- Whether two accesses of one word of the dual-port banks at one device time fall in one CORE cycle (R388, R389). [DESIGN CHOICE, log 59] -/
opaque sameCycle (i word : Nat) : Bool

end Sys2Proof.Config
end

