-- ==== Sys2Proof/Machine/Crc.lean ====
section
/-! DEFINITION. The four check values (R91, R92, R330, R331): the running register, its feeding by bytes, and the stored form. -/

namespace Sys2Proof.Machine

/-- The polynomials of R330, coded as CRC_CTXn_CTL.POLY. -/
inductive Poly where
  | crc8 | crc16 | crc24 | crc32c
deriving DecidableEq, Repr

/-- CRC_CTXn_CTL.POLY read as a polynomial. -/
def Poly.ofCode : Nat → Poly
  | 0 => .crc8
  | 1 => .crc16
  | 2 => .crc24
  | _ => .crc32c

/-- w of R330. -/
def Poly.width : Poly → Nat
  | .crc8 => 8
  | .crc16 => 16
  | .crc24 => 24
  | .crc32c => 32

/-- POLY of R330, for CRC-32C the reflected form R331 uses. -/
def Poly.poly : Poly → BitVec 32
  | .crc8 => 0x07
  | .crc16 => 0x1021
  | .crc24 => 0x864CFB
  | .crc32c => 0x82F63B78

/-- INIT of R330. -/
def Poly.init : Poly → BitVec 32
  | .crc8 => 0xFF
  | .crc16 => 0xFFFF
  | .crc24 => 0xB704CE
  | .crc32c => 0xFFFFFFFF

/-- The low `w` bits set. -/
def lowMask (w : Nat) : BitVec 32 := BitVec.ofNat 32 (2 ^ w - 1)

/-- One step of R331 for the line check values: message bit `b` enters at bit w-1. -/
def crcBit (p : Poly) (c : BitVec 32) (b : Bool) : BitVec 32 :=
  let fb := b ^^ c.getLsbD (p.width - 1)
  let sh := (c <<< 1) &&& lowMask p.width
  if fb then sh ^^^ p.poly else sh

/-- `n` steps of the reflected CRC-32C register (R331). -/
def crc32cShift : Nat → BitVec 32 → BitVec 32
  | 0, c => c
  | n + 1, c => crc32cShift n ((c >>> 1) ^^^ (if c.getLsbD 0 then Poly.crc32c.poly else 0))

/-- One byte into the running register (R331). -/
def crcByte (p : Poly) (c : BitVec 32) (v : Byte) : BitVec 32 :=
  match p with
  | .crc32c => crc32cShift 8 (c ^^^ v.setWidth 32)
  | _ => (List.range 8).foldl (fun c i => crcBit p c (v.getLsbD i)) c

/-- Many bytes, in order. -/
def crcBytes (p : Poly) (c : BitVec 32) (bs : List Byte) : BitVec 32 := bs.foldl (crcByte p) c

/-- Bits w-1 to 0 of `c` in reverse order. -/
def revBits (w : Nat) (c : BitVec 32) : BitVec 32 :=
  (List.range w).foldl (fun r i => if c.getLsbD (w - 1 - i) then r ||| BitVec.twoPow 32 i else r) 0

/-- RESULT of R331: the stored form, byte 0 in bits 7:0. -/
def crcResult (p : Poly) (c : BitVec 32) : BitVec 32 :=
  match p with
  | .crc32c => c ^^^ 0xFFFFFFFF
  | _ => revBits p.width c

/-- The stored check bytes over `bs`. -/
def crcStored (p : Poly) (bs : List Byte) : List Byte :=
  let r := (crcResult p (crcBytes p p.init bs)).toNat
  (List.range (p.width / 8)).map fun i => BitVec.ofNat 8 (r >>> (8 * i))

end Sys2Proof.Machine
end

