-- ==== Sys2Proof/Machine/Crypto.lean ====
section
/-! DEFINITION. The cipher arithmetic the spec names by its standards (R300, R308, R313, R315, R324, R325, R420, R429): AES-128 and AES-256
(FIPS 197), CTR, CCM, GCM, CMAC, key unwrap, XTS, the SP 800-108 counter KDF and SHA-384 (FIPS 180-4). -/

namespace Sys2Proof.Machine

/-- Zero bytes. -/
def zeros (n : Nat) : List Byte := List.replicate n 0

/-- The exclusive or of two byte strings, as long as the shorter. -/
def xorBytes (a b : List Byte) : List Byte := List.zipWith (· ^^^ ·) a b

/-- `n` bytes of `v`, least significant first (R6). -/
def leBytes : Nat → Nat → List Byte
  | 0, _ => []
  | n + 1, v => BitVec.ofNat 8 v :: leBytes n (v / 256)

/-- The number whose bytes are given, least significant first. -/
def leNat : List Byte → Nat
  | [] => 0
  | b :: bs => b.toNat + 256 * leNat bs

/-- `n` bytes of `v`, most significant first. -/
def beBytes (n v : Nat) : List Byte := (leBytes n v).reverse

/-- The number whose bytes are given, most significant first. -/
def beNat (bs : List Byte) : Nat := leNat bs.reverse

/-- The bytes `bs` cut into blocks of `n` (the last may be short); `fuel` bounds the number of blocks. -/
def chunks (n : Nat) : Nat → List Byte → List (List Byte)
  | 0, _ => []
  | _, [] => []
  | fuel + 1, bs => bs.take n :: chunks n fuel (bs.drop n)

/-- 16-byte blocks. -/
def blocks (bs : List Byte) : List (List Byte) := chunks 16 bs.length bs

/-- Zero bytes up to the next multiple of 16. -/
def pad16 (bs : List Byte) : List Byte := bs ++ zeros ((16 - bs.length % 16) % 16)

/-- The S-box of FIPS 197, byte `i` at bits 8i+7:8i. -/
def sboxBits : Nat :=
  (0x75b227ebe28012079a059618c323c7041531d871f1e5a534ccf73f362693fdb7c072a49cafa2d4adf04759fa7dc982ca76abd7fe2b670130c56f6bf27b777c63 <<< 0) |||
  (0xd2f3ff1021dab6bcf5389d928f40a351a89f3c507f02f94585334d43fbaaefd0cf584c4a39becb6a5bb1fc20ed00d153842fe329b3d63b52a05a6e1b1a2c8309 <<< 512) |||
  (0x8ae7a65eaf4566ca94ed58d6d37c8e779e4959162acd3c25c2406490a3a32e0db0b5ede14b8ee4688902a22dc4f816073195d643d7ea7c41744975fec130ccd <<< 1024) |||
  (0x16bb54b00f2d99416842e6bf0d89a18cdf2855cee9871e9b948ed9691198f8e19e1dc186b95735610ef6034866b53e708a8bbd4b1f74dde8c6b4a61c2e2578ba <<< 1536)

/-- The inverse S-box, likewise. -/
def invSboxBits : Nat :=
  (0x25d18b6d49a25b76b224d92866a12e084ec3fa420b954cee3d23c2a632947b54cbe9dec444438e3487ff2f9b8239e37cfbd7f3819ea340bf38a53630d56a0952 <<< 0) |||
  (0x6b8a130103bdafc1020f3fca8f1e2cd00645b3b80558e4f70ad3bc8c00abd890849d8da75746155edab9edfd5048706c92b6655dcc5ca4d41698688664f6f872 <<< 512) |||
  (0xf45acd78fec0db9a2079d2c64b3e56fc1bbe18aa0e62b76f89c5291d711af1476edf751ce837f9e28535ade72274ac9673e6b4f0cecff297eadc674f4111913a <<< 1024) |||
  (0x7d0c2155631469e126d677ba7e042b17619953833cbbebc8b0f52aae4d3be0a0ef9cc9939f7ae52d0d4ab519a97f51605fec8027591012b131c7078833a8dd1f <<< 1536)

def subByte (b : Byte) : Byte := BitVec.ofNat 8 (sboxBits >>> (8 * b.toNat))
def invSubByte (b : Byte) : Byte := BitVec.ofNat 8 (invSboxBits >>> (8 * b.toNat))

/-- Multiplication by x in GF(2^8). -/
def xtime (b : Byte) : Byte := (b <<< 1) ^^^ (if b.msb then 0x1B else 0)

/-- Multiplication in GF(2^8) by a constant of four bits. -/
def gfMul (c : Nat) (b : Byte) : Byte :=
  let b2 := xtime b
  let b4 := xtime b2
  let b8 := xtime b4
  (if c.testBit 0 then b else 0) ^^^ (if c.testBit 1 then b2 else 0) ^^^
  (if c.testBit 2 then b4 else 0) ^^^ (if c.testBit 3 then b8 else 0)

/-- One column times the circulant matrix whose first row is `a b c d`. -/
def mixColumn (a b c d : Nat) : List Byte → List Byte
  | [s0, s1, s2, s3] =>
    [gfMul a s0 ^^^ gfMul b s1 ^^^ gfMul c s2 ^^^ gfMul d s3,
     gfMul d s0 ^^^ gfMul a s1 ^^^ gfMul b s2 ^^^ gfMul c s3,
     gfMul c s0 ^^^ gfMul d s1 ^^^ gfMul a s2 ^^^ gfMul b s3,
     gfMul b s0 ^^^ gfMul c s1 ^^^ gfMul d s2 ^^^ gfMul a s3]
  | col => col

def mixColumns (a b c d : Nat) (st : List Byte) : List Byte :=
  ((chunks 4 4 st).map (mixColumn a b c d)).flatten

/-- Byte `r + 4c` of the shifted state is byte `r + 4((c + r) mod 4)`. -/
def shiftRows (st : List Byte) : List Byte :=
  (List.range 16).map fun i => st.getD (i % 4 + 4 * ((i / 4 + i % 4) % 4)) 0

def invShiftRows (st : List Byte) : List Byte :=
  (List.range 16).map fun i => st.getD (i % 4 + 4 * ((i / 4 + 4 - i % 4) % 4)) 0

/-- Key expansion, words newest first: `n` more words, `i` the next word's index, `nk` the key's words, `rc` the round constant. -/
def expandKey (nk : Nat) : Nat → Nat → Byte → List (List Byte) → List (List Byte)
  | 0, _, _, ws => ws
  | n + 1, i, rc, ws =>
    let t := ws.headD []
    let old := ws.getD (nk - 1) []
    if i % nk = 0 then
      let r := (t.drop 1 ++ t.take 1).map subByte
      expandKey nk n (i + 1) (xtime rc) (xorBytes old (xorBytes r [rc, 0, 0, 0]) :: ws)
    else if nk > 6 && i % nk = 4 then
      expandKey nk n (i + 1) rc (xorBytes old (t.map subByte) :: ws)
    else expandKey nk n (i + 1) rc (xorBytes old t :: ws)

/-- The round keys of an AES-128 (16-byte) or AES-256 (32-byte) key. -/
def roundKeys (key : List Byte) : List (List Byte) :=
  let nk := key.length / 4
  let words := (expandKey nk (4 * (nk + 7) - nk) nk 1 (chunks 4 nk key).reverse).reverse
  blocks words.flatten

def aesRounds : List (List Byte) → List Byte → List Byte
  | [], st => st
  | [k], st => xorBytes (shiftRows (st.map subByte)) k
  | k :: ks, st => aesRounds ks (xorBytes (mixColumns 2 3 1 1 (shiftRows (st.map subByte))) k)

/-- The forward cipher (R298). [PRESUMED, log 21] -/
def aesEnc (key blk : List Byte) : List Byte :=
  match roundKeys key with
  | [] => blk
  | k :: ks => aesRounds ks (xorBytes blk k)

def aesInvRounds : List (List Byte) → List Byte → List Byte
  | [], st => st
  | [k], st => xorBytes ((invShiftRows st).map invSubByte) k
  | k :: ks, st =>
    aesInvRounds ks (mixColumns 14 11 13 9 (xorBytes ((invShiftRows st).map invSubByte) k))

/-- The inverse cipher (R298). -/
def aesDec (key blk : List Byte) : List Byte :=
  match (roundKeys key).reverse with
  | [] => blk
  | k :: ks => aesInvRounds ks (xorBytes blk k)

/-- CTR key stream of `n` blocks from the 128-bit big-endian counter `c` (R300). -/
def ctrStream (key : List Byte) : Nat → Nat → List Byte
  | 0, _ => []
  | n + 1, c => aesEnc key (beBytes 16 c) ++ ctrStream key n (c + 1)

/-- CTR mode on `data` from initial counter block `icb`. -/
def ctrMode (key icb data : List Byte) : List Byte :=
  xorBytes data (ctrStream key ((data.length + 15) / 16) (beNat icb))

/-- CBC-MAC over whole blocks from `iv`. -/
def cbcMac (key : List Byte) : List Byte → List (List Byte) → List Byte
  | iv, [] => iv
  | iv, b :: bs => cbcMac key (aesEnc key (xorBytes iv b)) bs

/-- The encoding of the associated-data length of RFC 3610. -/
def ccmAlen (n : Nat) : List Byte :=
  if n < 0xFF00 then beBytes 2 n else [0xFF, 0xFE] ++ beBytes 4 n

/-- The CBC-MAC value of CCM (RFC 3610) before its encryption. -/
def ccmMac (key nonce aad msg : List Byte) (tagLen : Nat) : List Byte :=
  let l := 15 - nonce.length
  let flags := (if aad.isEmpty then 0 else 64) + 8 * ((tagLen - 2) / 2) + (l - 1)
  let b0 := BitVec.ofNat 8 flags :: nonce ++ beBytes l msg.length
  let a := if aad.isEmpty then [] else pad16 (ccmAlen aad.length ++ aad)
  cbcMac key (zeros 16) (b0 :: blocks a ++ blocks (pad16 msg))

/-- Counter block `i` of CCM. -/
def ccmCtr (nonce : List Byte) (i : Nat) : List Byte :=
  let l := 15 - nonce.length
  BitVec.ofNat 8 (l - 1) :: nonce ++ beBytes l i

/-- CCM encryption: ciphertext and tag. [PRESUMED, log 21] -/
def ccmSeal (key nonce aad msg : List Byte) (tagLen : Nat) : List Byte × List Byte :=
  (ctrMode key (ccmCtr nonce 1) msg,
   (xorBytes (ccmMac key nonce aad msg tagLen) (aesEnc key (ccmCtr nonce 0))).take tagLen)

/-- CCM decryption: the plaintext, and whether the tag verifies. -/
def ccmOpen (key nonce aad ct tag : List Byte) : List Byte × Bool :=
  let msg := ctrMode key (ccmCtr nonce 1) ct
  (msg, (xorBytes (ccmMac key nonce aad msg tag.length) (aesEnc key (ccmCtr nonce 0))).take tag.length == tag)

/-- Multiplication in the GCM field (SP 800-38D), bit 127 of the numeral the coefficient of x^0. -/
def ghashMul : Nat → BitVec 128 → BitVec 128 → BitVec 128 → BitVec 128
  | 0, _, _, z => z
  | n + 1, x, v, z =>
    ghashMul n (x <<< 1) (if v.getLsbD 0 then (v >>> 1) ^^^ (0xE1#128 <<< 120) else v >>> 1)
      (if x.msb then z ^^^ v else z)

def ghash (h : BitVec 128) : BitVec 128 → List (List Byte) → BitVec 128
  | y, [] => y
  | y, b :: bs => ghash h (ghashMul 128 (y ^^^ BitVec.ofNat 128 (beNat b)) h 0) bs

/-- The full 16-byte GCM tag over ciphertext `ct`. -/
def gcmTag (key iv aad ct : List Byte) : List Byte :=
  let h := BitVec.ofNat 128 (beNat (aesEnc key (zeros 16)))
  let s := ghash h 0 (blocks (pad16 aad) ++ blocks (pad16 ct) ++ [beBytes 8 (8 * aad.length) ++ beBytes 8 (8 * ct.length)])
  xorBytes (beBytes 16 s.toNat) (aesEnc key (iv ++ [0, 0, 0, 1]))

/-- The GCM counter mode (32-bit counter increments from 2; no message here comes near its wrap). -/
def gcmCtr (key iv data : List Byte) : List Byte := ctrMode key (iv ++ [0, 0, 0, 2]) data

/-- GCM encryption with a 96-bit IV. [PRESUMED, log 21] -/
def gcmSeal (key iv aad msg : List Byte) (tagLen : Nat) : List Byte × List Byte :=
  let ct := gcmCtr key iv msg
  (ct, (gcmTag key iv aad ct).take tagLen)

/-- GCM decryption: the plaintext, and whether the tag verifies. -/
def gcmOpen (key iv aad ct tag : List Byte) : List Byte × Bool :=
  (gcmCtr key iv ct, (gcmTag key iv aad ct).take tag.length == tag)

/-- Doubling in the CMAC field. -/
def cmacDouble (b : List Byte) : List Byte :=
  let n := BitVec.ofNat 128 (beNat b)
  beBytes 16 ((n <<< 1) ^^^ (if n.msb then 0x87 else 0)).toNat

/-- The 16-byte CMAC (RFC 4493, SP 800-38B). [PRESUMED, log 21] -/
def cmac (key msg : List Byte) : List Byte :=
  let k1 := cmacDouble (aesEnc key (zeros 16))
  let full := msg.length / 16 - (if msg.length % 16 = 0 && !msg.isEmpty then 1 else 0)
  let lastBlk := msg.drop (16 * full)
  let m := if lastBlk.length = 16 then xorBytes lastBlk k1
    else xorBytes (pad16 (lastBlk ++ [0x80])) (cmacDouble k1)
  cbcMac key (zeros 16) (blocks (msg.take (16 * full)) ++ [m])

/-- One unwrap step for `A` and the semiblock `r` under step number `t` (RFC 3394). -/
def unwrapStep (key a r : List Byte) (t : Nat) : List Byte × List Byte :=
  let b := aesDec key (xorBytes a (beBytes 8 t) ++ r)
  (b.take 8, b.drop 8)

/-- One pass over the semiblocks, last first; `t` is the step number of the last. -/
def unwrapPass (key : List Byte) : List (List Byte) → Nat → List Byte → List Byte × List (List Byte)
  | [], _, a => (a, [])
  | r :: rs, t, a =>
    let (a1, r1) := unwrapStep key a r t
    let (a2, rs2) := unwrapPass key rs (t - 1) a1
    (a2, r1 :: rs2)

/-- `j` passes, the semiblocks last first. -/
def unwrapPasses (key : List Byte) (n : Nat) : Nat → List Byte → List (List Byte) → List Byte × List (List Byte)
  | 0, a, rs => (a, rs)
  | j + 1, a, rs =>
    let (a1, rs1) := unwrapPass key rs (n * (j + 1)) a
    unwrapPasses key n j a1 rs1

/-- The inverse wrap (RFC 3394): the initial value and the plaintext. -/
def unwrap (key c : List Byte) : List Byte × List Byte :=
  let rs := (chunks 8 c.length (c.drop 8)).reverse
  let (a, out) := unwrapPasses key rs.length 6 (c.take 8) rs
  (a, out.reverse.flatten)

/-- RFC 5649 unwrap: the plaintext, when the alternative initial value, the length and the padding check. [PRESUMED, log 21] -/
def unwrapPad (key c : List Byte) : Option (List Byte) :=
  let (a, p) := if c.length = 16 then ((aesDec key c).take 8, (aesDec key c).drop 8) else unwrap key c
  let n := beNat (a.drop 4)
  if a.take 4 = [0xA6, 0x59, 0x59, 0xA6] ∧ n ≤ p.length ∧ p.length < n + 8 ∧ (p.drop n).all (· == 0)
  then some (p.take n) else none

/-- Multiplication of an XTS tweak by alpha (IEEE Std 1619, little-endian). -/
def xtsDouble (t : List Byte) : List Byte :=
  let n := BitVec.ofNat 128 (leNat t)
  leBytes 16 ((n <<< 1) ^^^ (if n.msb then 0x87 else 0)).toNat

def xtsBlocks (f : List Byte → List Byte) : List Byte → List (List Byte) → List Byte
  | _, [] => []
  | t, b :: bs => xorBytes (f (xorBytes b t)) t ++ xtsBlocks f (xtsDouble t) bs

/-- One XTS data unit under a 64-byte key (R324): `seq` is its sequence number. [PRESUMED, log 21] -/
def xtsEnc (key : List Byte) (seq : Nat) (data : List Byte) : List Byte :=
  xtsBlocks (aesEnc (key.take 32)) (aesEnc (key.drop 32) (leBytes 16 seq)) (blocks data)
def xtsDec (key : List Byte) (seq : Nat) (data : List Byte) : List Byte :=
  xtsBlocks (aesDec (key.take 32)) (aesEnc (key.drop 32) (leBytes 16 seq)) (blocks data)

/-- The SP 800-108 counter-mode KDF with AES-256-CMAC (R308): `bits` bits under `key`. [PRESUMED, log 21] -/
def kdf (key label context : List Byte) (bits : Nat) : List Byte :=
  ((List.range ((bits + 127) / 128)).map fun i =>
    cmac key ([BitVec.ofNat 8 (i + 1)] ++ label ++ [0] ++ context ++ beBytes 2 bits)).flatten.take (bits / 8)

/-! ### SHA-384 -/

/-- The round constants of SHA-512 and SHA-384, constant `i` at bits 64i+63:64i. -/
def shaKBits : Nat :=
  (0xab1c5ed5da6d8118923f82a4af194f9b59f111f1b605d0193956c25bf348b538e9b5dba58189dbbcb5c0fbcfec4d3b2f7137449123ef65cd428a2f98d728ae22 <<< 0) |||
  (0xc19bf174cf6926949bdc06a725c7123580deb1fe3b1696b172be5d74f27b896f550c7dc3d5ffb4e2243185be4ee4b28c12835b0145706fbed807aa98a3030242 <<< 512) |||
  (0x76f988da831153b55cb0a9dcbd41fbd44a7484aa6ea6e4832de92c6f592b0275240ca1cc77ac9c650fc19dc68b8cd5b5efbe4786384f25e3e49b69c19ef14ad2 <<< 1024) |||
  (0x142929670a0e6e7006ca6351e003826fd5a79147930aa725c6e00bf33da88fc2bf597fc7beef0ee4b00327c898fb213fa831c66d2db43210983e5152ee66dfab <<< 1536) |||
  (0x92722c851482353b81c2c92e47edaee6766a0abb3c77b2a8650a73548baf63de53380d139d95b3df4d2c6dfc5ac42aed2e1b21385c26c92627b70a8546d22ffc <<< 2048) |||
  (0x106aa07032bbd1b8f40e35855771202ad69906245565a910d192e819d6ef5218c76c51a30654be30c24b8b70d0f89791a81a664bbc423001a2bfe8a14cf10364 <<< 2560) |||
  (0x682e6ff3d6b2b8a35b9cca4f7763e3734ed8aa4ae3418acb391c0cb3c5c95a6334b0bcb5e19b48a82748774cdf8eeb991e376c085141ab5319a4c116b8d2d0c8 <<< 3072) |||
  (0xc67178f2e372532bbef9a3f7b2c67915a4506cebde82bde990befffa23631e288cc702081a6439ec84c87814a1f0ab7278a5636f43172f60748f82ee5defb2fc <<< 3584) |||
  (0x1b710b35131c471b113f9804bef90dae0a637dc5a2c898a606f067aa72176fbaf57d4f7fee6ed178eada7dd6cde0eb1ed186b8c721c0c207ca273eceea26619c <<< 4096) |||
  (0x6c44198c4a4758175fcb6fab3ad6faec597f299cfc657e2a4cc5d4becb3e42b6431d67c49c100d4c3c9ebe0a15c9bebc32caab7b40c7249328db77f523047d84 <<< 4608)

def shaK (i : Nat) : BitVec 64 := BitVec.ofNat 64 (shaKBits >>> (64 * i))

/-- Message-schedule words, newest first, `n` more. -/
def shaSchedule : Nat → List (BitVec 64) → List (BitVec 64)
  | 0, ws => ws
  | n + 1, ws =>
    let w2 := ws.getD 1 0
    let w15 := ws.getD 14 0
    let s0 := w15.rotateRight 1 ^^^ w15.rotateRight 8 ^^^ (w15 >>> 7)
    let s1 := w2.rotateRight 19 ^^^ w2.rotateRight 61 ^^^ (w2 >>> 6)
    shaSchedule n ((s1 + ws.getD 6 0 + s0 + ws.getD 15 0) :: ws)

/-- The eight working variables. -/
structure ShaVars where
  (a b c d e f g h : BitVec 64)
deriving DecidableEq, Repr

def shaRounds : Nat → List (BitVec 64) → ShaVars → ShaVars
  | _, [], v => v
  | i, w :: ws, v =>
    let s1 := v.e.rotateRight 14 ^^^ v.e.rotateRight 18 ^^^ v.e.rotateRight 41
    let ch := (v.e &&& v.f) ^^^ (~~~v.e &&& v.g)
    let t1 := v.h + s1 + ch + shaK i + w
    let s0 := v.a.rotateRight 28 ^^^ v.a.rotateRight 34 ^^^ v.a.rotateRight 39
    let mj := (v.a &&& v.b) ^^^ (v.a &&& v.c) ^^^ (v.b &&& v.c)
    shaRounds (i + 1) ws ⟨t1 + (s0 + mj), v.a, v.b, v.c, v.d + t1, v.e, v.f, v.g⟩

def shaBlock (v : ShaVars) (blk : List Byte) : ShaVars :=
  let w0 := (chunks 8 16 blk).map fun b => BitVec.ofNat 64 (beNat b)
  let r := shaRounds 0 (shaSchedule 64 w0.reverse).reverse v
  ⟨v.a + r.a, v.b + r.b, v.c + r.c, v.d + r.d, v.e + r.e, v.f + r.f, v.g + r.g, v.h + r.h⟩

def shaBlocks : List (List Byte) → ShaVars → ShaVars
  | [], v => v
  | b :: bs, v => shaBlocks bs (shaBlock v b)

/-- SHA-384 (FIPS 180-4). [PRESUMED, log 21] -/
def sha384 (msg : List Byte) : List Byte :=
  let padded := msg ++ [0x80] ++ zeros ((239 - msg.length % 128) % 128) ++ beBytes 16 (8 * msg.length)
  let v := shaBlocks (chunks 128 padded.length padded) ⟨0xcbbb9d5dc1059ed8, 0x629a292a367cd507, 0x9159015a3070dd17, 0x152fecd8f70e5939, 0x67332667ffc00b31, 0x8eb44a8768581511, 0xdb0c2e0d64f98fa7, 0x47b5481dbefa4fa4⟩
  ([v.a, v.b, v.c, v.d, v.e, v.f].map fun x => beBytes 8 x.toNat).flatten

end Sys2Proof.Machine
end

