-- ==== Sys2Proof/Machine/Coding.lean ====
section
/-! DEFINITION. The line signal's structure: tones, lots and plans (R44-R58), reference phases (R51), and the coding chain in both directions
(R60-R70, R172). -/

namespace Sys2Proof.Machine

/-! ### Tones, lots and plans -/

/-- The lot a tone lies in and its relative position (R45). -/
def toneLot (k : Nat) : Nat := (k - 8) / 16
def tonePos (k : Nat) : Nat := (k - 8) % 16

/-- Positions 3 and 12 are pilots (R46). -/
def isPilot (k : Nat) : Bool := tonePos k == 3 || tonePos k == 12

/-- The tones a plan permits (R53), the plan coded as TXP_PnCTL.PLAN. -/
def planTone (plan k : Nat) : Bool :=
  match plan with
  | 0 => decide (8 ≤ k ∧ k ≤ 63)
  | 1 => decide (64 ≤ k ∧ k ≤ 87)
  | 2 => decide (8 ≤ k ∧ k ≤ 327)
  | _ => decide (8 ≤ k ∧ k ≤ 295)

/-- Lot 3 is a split lot under both CENELEC plans (R54). -/
def splitLot (plan j : Nat) : Bool := j == 3 && decide (plan ≤ 1)

/-- Lots with a tone in the plan (R53). -/
def planLot (plan j : Nat) : Bool :=
  match plan with
  | 0 => decide (j ≤ 3)
  | 1 => j == 3 || j == 4
  | 2 => decide (j < 20)
  | _ => decide (j < 18)

/-- How many lots a preset receives (R48). -/
def presetLots (preset : Nat) : Nat :=
  match preset with
  | 0 => 20
  | 1 => 15
  | 2 => 7
  | _ => 3

/-- The plan's tones of lot j. -/
def lotTones (plan j : Nat) : List Nat := ((List.range 16).map fun r => 8 + 16 * j + r).filter (planTone plan)

/-- The lots named by a 20-bit set, ascending. -/
def lotsOf (n : Nat) : List Nat := (List.range 20).filter fun j => n.testBit j

/-- A lot list as a 20-bit set. -/
def lotBits (lots : List Nat) : Nat := lots.foldl (fun n j => n ||| 2 ^ j) 0

/-- Rank of a data tone among the 14 data positions of its lot (R95, TONEMASK). -/
def toneRank (k : Nat) : Nat := let r := tonePos k; r - (if r > 3 then 1 else 0) - (if r > 12 then 1 else 0)

/-- Data tones under the plan alone, in data-index order (R46). -/
def dataTones (plan : Nat) (lots : List Nat) : List Nat :=
  lots.flatMap fun j => (lotTones plan j).filter fun k => !isPilot k

/-- Pilots of a lot set, ascending. -/
def pilotTones (plan : Nat) (lots : List Nat) : List Nat := lots.flatMap fun j => (lotTones plan j).filter isPilot

/-- A mask bit of a 35-byte neighbour mask (R95). -/
def maskBit (mask : List Byte) (b : Nat) : Bool := (mask.getD (b / 8) 0).getLsbD (b % 8)

/-- Data tones of one lot under a neighbour mask: bits of a split half are ignored, and a whole lot left with fewer than 8 data tones
leaves the lot set (R56, R57). [DEDUCED, log 33] -/
def maskedLot (plan : Nat) (mask : List Byte) (j : Nat) : List Nat :=
  let ts := (lotTones plan j).filter fun k => !isPilot k
  if splitLot plan j then ts
  else
    let on := ts.filter fun k => !maskBit mask (14 * j + toneRank k)
    if on.length < 8 then [] else on

/-- Data tones of a payload under a neighbour mask. -/
def maskedTones (plan : Nat) (mask : List Byte) (lots : List Nat) : List Nat := lots.flatMap (maskedLot plan mask)

/-- Data tones of a payload under the neighbour mask in force, if one is (R56). -/
def payloadTones (plan : Nat) (mask : Option (List Byte)) (lots : List Nat) : List Nat :=
  match mask with
  | some m => maskedTones plan m lots
  | none => dataTones plan lots

/-- T(n) mod 4 (R51). -/
def triangle (n : Nat) : Nat := n * (n + 1) / 2 % 4

/-- The reference phase of a tone in quarter turns (R51). -/
def refPhase (k : Nat) : Nat := (triangle (toneLot k) + triangle (tonePos k)) % 4

/-! ### Classes (R75) -/

/-- Code rate as (kept outputs of a period, inputs of a period): 1/2, 2/3, 3/4. -/
inductive Rate where
  | half | twoThirds | threeQuarters
deriving DecidableEq, Repr

def mcRate (mc : Nat) : Rate := if mc ≤ 4 then .half else if mc = 5 then .twoThirds else .threeQuarters
def mcRep (mc : Nat) : Nat :=
  match mc with
  | 0 => 16
  | 1 => 8
  | 2 => 4
  | 3 => 2
  | _ => 1
/-- [DEDUCED, log 38] -/
def mcCopies (mc : Nat) : Nat :=
  match mc with
  | 0 => 8
  | 1 => 4
  | 2 => 2
  | _ => 1

/-- Coded bits for k inputs (R65). -/
def codedBits (rate : Rate) (k : Nat) : Nat :=
  match rate with
  | .half => 2 * k
  | .twoThirds => k + (k + 1) / 2
  | .threeQuarters => k + (k + 2) / 3

/-- Symbols of a block (R68). -/
def blockSyms (rep nc d : Nat) : Nat := (rep * nc + d - 1) / d

/-- One header copy on D data tones (R74, R90). -/
def headerSyms (sh : Bool) (d : Nat) : Nat := blockSyms 2 (if sh then 108 else 204) d

/-- The payload region for `len` payload bytes (R74). -/
def payloadSyms (mc len d : Nat) : Nat := blockSyms (mcRep mc) (codedBits (mcRate mc) (8 * (len + 3) + 6)) d

/-- The body of an ACK on D data tones (R110). -/
def ackSyms (d : Nat) : Nat := (120 + d - 1) / d

/-! ### Scrambler (R61, R62) -/

def hseed : BitVec 15 := 0x6B3A

/-- PSEED from the HCS and the six low bits of the source. -/
def pseed (hcs : Byte) (src : Nat) : BitVec 15 :=
  BitVec.ofNat 15 (0x4000 + 64 * hcs.toNat + src % 64)

def scramble : BitVec 15 → List Bool → List Bool
  | _, [] => []
  | st, b :: bs =>
    let y := st.getLsbD 14 ^^ st.getLsbD 13
    (b ^^ y) :: scramble ((st <<< 1) ||| (if y then 1 else 0)) bs

/-! ### Convolutional code (R63-R65) -/

/-- The outputs a, b for input d; state bit i holds h(i+1). -/
def convOut (st : Nat) (d : Bool) : Bool × Bool :=
  let h := fun i => st.testBit (i - 1)
  (d ^^ h 2 ^^ h 3 ^^ h 5 ^^ h 6, d ^^ h 1 ^^ h 2 ^^ h 3 ^^ h 6)

def convNext (st : Nat) (d : Bool) : Nat := (2 * st + d.toNat) % 64

/-- Which of a, b are kept for input i (R65). -/
def kept (rate : Rate) (i : Nat) : Bool × Bool :=
  match rate with
  | .half => (true, true)
  | .twoThirds => (true, i % 2 == 0)
  | .threeQuarters => (i % 3 != 2, i % 3 != 1)

def convEncode (rate : Rate) : Nat → Nat → List Bool → List Bool
  | _, _, [] => []
  | st, i, d :: ds =>
    let o := convOut st d
    let keep := kept rate i
    (if keep.1 then [o.1] else []) ++ (if keep.2 then [o.2] else []) ++ convEncode rate (convNext st d) (i + 1) ds

/-! ### Repetition, stagger and tone mapping (R66, R67) -/

/-- The symbol and column of copy c of coded bit b. -/
def placeOf (rep nc d c b : Nat) : Nat × Nat :=
  let full := nc / (5 * d)
  let f := nc - 5 * d * full
  if b < 5 * d * full then
    let g := b / (5 * d)
    let q := b % (5 * d)
    (5 * rep * g + 5 * c + q % 5, q / 5)
  else
    let q := c * f + (b - 5 * d * full)
    (5 * rep * full + q / d, q % d)

/-- The coded bit in column t of a symbol, `none` for a pad column. -/
def bitAt (rep nc d sym t : Nat) : Option Nat :=
  let full := nc / (5 * d)
  let f := nc - 5 * d * full
  if sym < 5 * rep * full then
    some (5 * d * (sym / (5 * rep)) + 5 * t + sym % (5 * rep) % 5)
  else
    let q := (sym - 5 * rep * full) * d + t
    if q < rep * f then some (5 * d * full + q % f) else none

/-- The stride of R67 and the data index of a column. -/
def stride (d : Nat) : Nat := if d % 23 = 0 then 29 else 23
def columnIndex (d t : Nat) : Nat := stride d * t % d

/-- A block's coded bits as symbols, each the bits of its data tones in index order. -/
def placeBits (rep d : Nat) (coded : List Bool) : List (List Bool) :=
  (List.range (blockSyms rep coded.length d)).map fun sym =>
    (List.range d).map fun u =>
      match (List.range d).find? fun t => columnIndex d t == u with
      | some t => (bitAt rep coded.length d sym t).any fun b => coded.getD b false
      | none => false

/-- Bytes as line-order bits (R77). -/
def byteBits (bs : List Byte) : List Bool := bs.flatMap fun b => (List.range 8).map b.getLsbD

/-- Line-order bits as bytes. -/
def bitsBytes (bits : List Bool) : List Byte :=
  (List.range (bits.length / 8)).map fun i =>
    (List.range 8).foldl (fun b m => if bits.getD (8 * i + m) false then b ||| BitVec.twoPow 8 m else b) 0

/-- A coded block (R60): scrambled, tailed, coded, placed. -/
def codeBlock (seed : BitVec 15) (rate : Rate) (rep d : Nat) (bytes : List Byte) : List (List Bool) :=
  placeBits rep d (convEncode rate 0 0 (scramble seed (byteBits bytes) ++ List.replicate 6 false))

/-! ### Decoding (R172) -/

/-- The sums of the soft values of every copy of each coded bit, from symbols of soft values in index order. -/
def softSums (rep nc d : Nat) (syms : List (List Int)) : List Int :=
  (List.range nc).map fun b =>
    (List.range rep).foldl (fun acc c =>
      let p := placeOf rep nc d c b
      acc + (syms.getD p.1 []).getD (columnIndex d p.2) 0) 0

/-- Clamp to ±127 (R172). -/
def clampSoft (v : Int) : Int := max (-127) (min 127 v)

/-- Outputs a, b of every input with 0 for the punctured ones (R172 step 2). -/
def depuncture (rate : Rate) : Nat → Nat → List Int → List (Int × Int)
  | 0, _, _ => []
  | n + 1, i, vs =>
    let keep := kept rate i
    let a := if keep.1 then vs.headD 0 else 0
    let vs := if keep.1 then vs.tail else vs
    let b := if keep.2 then vs.headD 0 else 0
    let vs := if keep.2 then vs.tail else vs
    (a, b) :: depuncture rate n (i + 1) vs

/-- A survivor: its metric and the inputs not yet released, newest first. -/
structure Path where
  metric : Int
  bits   : List Bool
deriving DecidableEq, Repr, Inhabited

/-- The better of two survivors; equal metrics are decided by the decoder's own tie rule, which the spec leaves open. [DESIGN CHOICE, log 11] -/
def pickPath (step st : Nat) (p q : Path) : Path :=
  if q.metric < p.metric then p else if p.metric < q.metric then q
  else if Config.viterbiTie step st then p else q

/-- One trellis step over the 64 states. -/
def viterbiStep (step : Nat) (ab : Int × Int) (paths : List Path) : List Path :=
  (List.range 64).map fun t =>
    let d := t % 2 == 1
    let from_ := fun st =>
      let p := paths.getD st default
      let o := convOut st d
      (⟨p.metric + (if o.1 then ab.1 else -ab.1) + (if o.2 then ab.2 else -ab.2), d :: p.bits⟩ : Path)
    pickPath step t (from_ (t / 2)) (from_ (t / 2 + 32))

/-- The survivor of the best metric. -/
def bestPath (step : Nat) (paths : List Path) : Path :=
  (paths.zipIdx.foldl (fun (b : Option Path) p =>
    match b with
    | none => some p.1
    | some q => some (pickPath step (64 + p.2) q p.1)) none).getD default

/-- 64-state decoding with traceback depth 48, ending in state 0 (R172 step 3). -/
def viterbiRun : Nat → List (Int × Int) → List Path → List Bool
  | _, [], paths => (paths.getD 0 default).bits.reverse
  | step, ab :: rest, paths =>
    let paths := viterbiStep step ab paths
    if (paths.getD 0 default).bits.length ≤ 48 then viterbiRun (step + 1) rest paths
    else
      let out := (bestPath step paths).bits.getLastD false
      out :: viterbiRun (step + 1) rest (paths.map fun p => { p with bits := p.bits.dropLast })

/-- The start of a block: state 0 alone. -/
def viterbiStart : List Path := (List.range 64).map fun st => ⟨if st = 0 then 0 else -1000000000, []⟩

/-- Decode a block of `n` bits from the clamped sums of its coded bits. -/
def decodeBits (seed : BitVec 15) (rate : Rate) (n : Nat) (sums : List Int) : List Bool :=
  scramble seed ((viterbiRun 0 (depuncture rate (n + 6) 0 (sums.map clampSoft)) viterbiStart).take n)

/-- Decode a block of bytes from its symbols. -/
def decodeBlock (seed : BitVec 15) (rate : Rate) (rep d n : Nat) (syms : List (List Int)) : List Byte :=
  bitsBytes (decodeBits seed rate (8 * n) (softSums rep (codedBits rate (8 * n + 6)) d syms))

end Sys2Proof.Machine
end

