-- ==== Sys2Proof/Machine/Signal.lean ====
section
/-! DEFINITION. Exact arithmetic on complex numbers and powers: quarter turns, comparisons in decibels, and the LOGP code (R138). -/

namespace Sys2Proof

/-! ### Complex numbers -/

def Cplx.zero : Cplx := ⟨0, 0⟩
def Cplx.add (a b : Cplx) : Cplx := ⟨a.re + b.re, a.im + b.im⟩
def Cplx.sub (a b : Cplx) : Cplx := ⟨a.re - b.re, a.im - b.im⟩
def Cplx.mul (a b : Cplx) : Cplx := ⟨a.re * b.re - a.im * b.im, a.re * b.im + a.im * b.re⟩
def Cplx.conj (a : Cplx) : Cplx := ⟨a.re, -a.im⟩
def Cplx.scale (r : Rat) (a : Cplx) : Cplx := ⟨r * a.re, r * a.im⟩
/-- |a| squared. -/
def Cplx.sq (a : Cplx) : Rat := a.re * a.re + a.im * a.im

end Sys2Proof

namespace Sys2Proof.Machine

/-- e^(j 2 pi q/4) for a whole number of quarter turns. -/
def quarterTurn (q : Nat) : Cplx :=
  match q % 4 with
  | 0 => ⟨1, 0⟩
  | 1 => ⟨0, 1⟩
  | 2 => ⟨-1, 0⟩
  | _ => ⟨0, -1⟩

/-! ### Irrational values, held to 64 fraction bits -/

/-- x rounded down to a multiple of 2^-64. [DESIGN CHOICE, log 10] -/
def fix64 (x : Rat) : Rat := mkRat (x * 18446744073709551616).floor 18446744073709551616

/-- The largest k below lo + 2^n, k - lo counted in bits from the top, that passes a test which only small numbers pass. -/
def bitSearch (test : Nat → Bool) : Nat → Nat → Nat
  | 0, lo => lo
  | n + 1, lo => if test (lo + 2 ^ n) then bitSearch test n (lo + 2 ^ n) else bitSearch test n lo

/-- The n-th root of a whole number, rounded down. -/
def natRoot (n x : Nat) : Nat := bitSearch (fun k => decide (k ^ n ≤ x)) (x.log2 / n + 1) 0

/-- The n-th root of a number that is not negative. [DESIGN CHOICE, log 10] -/
def rootRat (n : Nat) (x : Rat) : Rat := mkRat (natRoot n (x * (2 ^ (64 * n) : Nat)).floor.toNat) (2 ^ 64)

/-- The square root of a number that is not negative. -/
def sqrtRat (x : Rat) : Rat := rootRat 2 x

/-- The amplitude ratio of `q` quarter-decibels: 10^(q/80). -/
def quarterDb (q : Int) : Rat :=
  if q = 0 then 1 else if 0 ≤ q then rootRat 80 ((10 ^ q.toNat : Nat) : Rat) else rootRat 80 (mkRat 1 (10 ^ (-q).toNat))

/-- 2 pi to 40 digits. -/
def twoPi : Rat := mkRat 62831853071795864769252867665590057684 10000000000000000000000000000000000000

/-- The power series 1 - y/d1 (1 - y/d2 (...)) of y, the square of an angle. -/
def powerSeries (ds : List Nat) (y : Rat) : Rat := ds.foldr (fun (d : Nat) (acc : Rat) => 1 - y / (d : Rat) * acc) 1

/-- cos and sin of at most an eighth of a turn. [DESIGN CHOICE, log 10] -/
def cisEighth (x : Rat) : Cplx :=
  let a := twoPi * x
  let y := fix64 (a * a)
  ⟨fix64 (powerSeries [2, 12, 30, 56, 90, 132, 182, 240, 306] y), fix64 (a * powerSeries [6, 20, 42, 72, 110, 156, 210, 272, 342] y)⟩

/-- e^(j 2 pi x) for x turns. -/
def cis (x : Rat) : Cplx :=
  let q := x * 4
  let z := quarterTurn (q.floor % 4).toNat
  let r := q - q.floor
  if r = 0 then z
  else if r ≤ 1 / 2 then z.mul (cisEighth (r / 4))
  else let w := cisEighth ((1 - r) / 4); z.mul ⟨w.im, w.re⟩

/-- The quarter turn that takes a complex number other than zero into re > 0, im >= 0. -/
def quarterOf (z : Cplx) : Nat :=
  if 0 < z.re ∧ 0 ≤ z.im then 0 else if z.re ≤ 0 ∧ 0 < z.im then 1 else if z.re < 0 then 2 else 3

/-- The argument of a complex number other than zero, in turns, in (-1/2, 1/2]. [DESIGN CHOICE, log 10] -/
def argTurns (z : Cplx) : Rat :=
  let q := quarterOf z
  let w := z.mul (quarterTurn q).conj
  let k := bitSearch (fun k => let c := cis (mkRat k (2 ^ 48)); decide (0 ≤ c.re * w.im - c.im * w.re)) 46 0
  let x := mkRat q 4 + mkRat k (2 ^ 48)
  if 1 / 2 < x then x - 1 else x

/-- Multiply a vector, tone by tone, by conjugates. -/
def mulConj (a b : List Cplx) : List Cplx := List.zipWith (fun x y => x.mul y.conj) a b
def addVec (a b : List Cplx) : List Cplx := List.zipWith Cplx.add a b
def subVec (a b : List Cplx) : List Cplx := List.zipWith Cplx.sub a b
def sumVec (a : List Cplx) : Cplx := a.foldl Cplx.add Cplx.zero
def energy (a : List Cplx) : Rat := a.foldl (fun e x => e + x.sq) 0
def maxRat (l : List Rat) : Rat := l.foldl max 0
def sumRat (a : List Rat) : Rat := a.foldl (· + ·) 0

/-! ### Decibels -/

def powRat (x : Rat) (n : Nat) : Rat := mkRat (x.num ^ n) (x.den ^ n)

/-- a is at least b x 10^(q/40), for a, b not negative: q counts 0.25 dB of power. -/
def dbGe (a b : Rat) (q : Int) : Bool :=
  if 0 ≤ q then decide (powRat b 40 * (10 ^ q.toNat : Nat) ≤ powRat a 40)
  else decide (powRat b 40 ≤ powRat a 40 * (10 ^ (-q).toNat : Nat))

/-! ### LOGP (R138) -/

/-- The power, relative to a full-scale sine, has a code of at least k: 2560 log10 p + 32768 >= k - 1/2. -/
def logpAtLeast (p : Rat) (k : Nat) : Bool :=
  decide (10 ^ (2 * k - 1) * p.den ^ 5120 ≤ p.num.toNat ^ 5120 * 10 ^ 65536)

/-- The largest code below lo + 2^n that the power reaches. [DESIGN CHOICE, log 10] -/
def logpSearch (p : Rat) : Nat → Nat → Nat
  | 0, lo => lo
  | n + 1, lo => if logpAtLeast p (lo + 2 ^ n) then logpSearch p n (lo + 2 ^ n) else logpSearch p n lo

/-- The LOGP code of a power. [DESIGN CHOICE, log 10] -/
def logp (p : Rat) : Nat := if p ≤ 0 then 0 else logpSearch p 16 0

/-- A power ratio in 1/256 dB. -/
def ratioDb (p : Rat) : Int := (logp p : Int) - 32768

/-- The power a LOGP code stands for, in 1/256 dB below zero being 128 dB down, is compared only through `logp`; the mean of codes in linear
power is taken over the powers themselves. -/
def meanRat (a : List Rat) : Rat := if a.length = 0 then 0 else sumRat a / (a.length : Nat)

def absRat (x : Rat) : Rat := if x < 0 then -x else x
def clampRat (lo hi x : Rat) : Rat := max lo (min hi x)

/-- The nearest integer, halves away from zero (R169). -/
def roundAway (x : Rat) : Int := if 0 ≤ x then (x + 1 / 2).floor else -((-x + 1 / 2).floor)

/-- The nearest integer, halves upward. -/
def roundUp (x : Rat) : Int := (x + 1 / 2).floor

end Sys2Proof.Machine
end

