-- ==== Sys2Proof/Machine/RegTable.lean ====
section
/-! DEFINITION. The register table: every register of the block tables of spec/ (R149, R183, R229, R271, R296, R326,
R337, R373, R386, R412, R445, R469, R480, R498, R523, R540), with its device address (R522), the places where it repeats, its reset value (R9) and the
bits each access type of R10 covers. Bits in none of the three masks are RO, WO or RSV. -/

namespace Sys2Proof.Machine

/-- One row of a block's register table. `dims` lists (count, stride) of each index, widest stride first where it
matters; `rw`, `w1c` and `w1s` are the bits of those access types (R10). -/
structure RegRow where
  base  : Nat
  dims  : List (Nat × Nat)
  reset : BitVec 32
  rw    : BitVec 32
  w1c   : BitVec 32
  w1s   : BitVec 32
deriving DecidableEq, Repr

/-- A field of a register: its register's address and its bits, high and low (R5). -/
structure Field where
  addr : Nat
  hi   : Nat
  lo   : Nat
deriving DecidableEq, Repr

namespace R

def LPn_CTL (n : Nat) : Nat := 0x40010000 + 0x10000 * n
def LPn_STAT (n : Nat) : Nat := 0x40010004 + 0x10000 * n
def LPn_FLAGS (n : Nat) : Nat := 0x40010008 + 0x10000 * n
def LPn_PGA (n : Nat) : Nat := 0x40010010 + 0x10000 * n
def LPn_FIR_CTL (n : Nat) : Nat := 0x40010020 + 0x10000 * n
def LPn_NOTCH_CTL (n : Nat) : Nat := 0x40010030 + 0x10000 * n
def LPn_AGC_CTL (n : Nat) : Nat := 0x40010040 + 0x10000 * n
def LPn_AGC_LIM (n : Nat) : Nat := 0x40010044 + 0x10000 * n
def LPn_AGC_TIME (n : Nat) : Nat := 0x40010048 + 0x10000 * n
def LPn_DET_CTL (n : Nat) : Nat := 0x40010050 + 0x10000 * n
def LPn_PEAK (n : Nat) : Nat := 0x40010054 + 0x10000 * n
def LPn_RMS (n : Nat) : Nat := 0x40010058 + 0x10000 * n
def LPn_ENV (n : Nat) : Nat := 0x4001005C + 0x10000 * n
def LPn_ZC_CTL (n : Nat) : Nat := 0x40010060 + 0x10000 * n
def LPn_ZC_PERIOD (n : Nat) : Nat := 0x40010064 + 0x10000 * n
def LPn_ZC_PHASE (n : Nat) : Nat := 0x40010068 + 0x10000 * n
def LPn_ZC_EDGE (n : Nat) : Nat := 0x4001006C + 0x10000 * n
def LPn_NMAP_CTL (n : Nat) : Nat := 0x40010070 + 0x10000 * n
def LPn_NOTCHi (n i c : Nat) : Nat := 0x40010100 + 0x10000 * n + 0x20 * i + 0x4 * c
def LPn_NMAPb (n b : Nat) : Nat := 0x40010200 + 0x10000 * n + 0x4 * b
def LPn_FIRB0_Tt (n t : Nat) : Nat := 0x40010400 + 0x10000 * n + 0x4 * t
def LPn_FIRB1_Tt (n t : Nat) : Nat := 0x40010600 + 0x10000 * n + 0x4 * t
def DMD_CTL : Nat := 0x40080000
def DMD_STAT : Nat := 0x40080004
def DMD_FLAGS : Nat := 0x40080008
def DMD_TRIG : Nat := 0x40080010
def DMD_QUAL : Nat := 0x40080014
def DMD_MERGE : Nat := 0x40080018
def DMD_CAPT : Nat := 0x4008001C
def DMD_EQ : Nat := 0x40080020
def DMD_ERASE : Nat := 0x40080024
def DMD_LOTENn (n : Nat) : Nat := 0x40080030 + 0x4 * n
def DMD_NSEL : Nat := 0x40080050
def DMD_SURV_CTL : Nat := 0x40080054
def DMD_NOISEt (t : Nat) : Nat := 0x40080400 + 0x4 * t
def DMD_CTXc (c : Nat) : Nat := 0x40080C00 + 0x4 * c
def TXP_CTL : Nat := 0x40090000
def TXP_FLAGS : Nat := 0x40090008
def TXP_CAL_CTL : Nat := 0x40090040
def TXP_CAL_STAT : Nat := 0x40090044
def TXP_PAIRp (p : Nat) : Nat := 0x40090080 + 0x4 * p
def TXP_PnCTL (n : Nat) : Nat := 0x40090100 + 0x40 * n
def TXP_PnLVL (n : Nat) : Nat := 0x40090104 + 0x40 * n
def TXP_PnTXEN (n : Nat) : Nat := 0x40090108 + 0x40 * n
def TXP_PnGUARD (n : Nat) : Nat := 0x4009010C + 0x40 * n
def TXP_PnSTAT (n : Nat) : Nat := 0x40090110 + 0x40 * n
def TXP_PnSHP_CTL (n : Nat) : Nat := 0x40090114 + 0x40 * n
def TXP_PnACKBUSY (n : Nat) : Nat := 0x40090118 + 0x40 * n
def TXP_CALRESj (j : Nat) : Nat := 0x40090400 + 0x4 * j
def TXP_PnSHPt (n t : Nat) : Nat := 0x40090800 + 0x100 * n + 0x4 * t
def TXP_PnMASKt (n t : Nat) : Nat := 0x40091000 + 0x800 * n + 0x4 * t
def MAC_CTL : Nat := 0x400A0000
def MAC_STAT : Nat := 0x400A0004
def MAC_FLAGS : Nat := 0x400A0008
def MAC_SF_CTL : Nat := 0x400A0010
def MAC_SF_ORIGIN_LO : Nat := 0x400A0014
def MAC_SF_ORIGIN_HI : Nat := 0x400A0018
def MAC_SF_START_LO : Nat := 0x400A001C
def MAC_SF_START_HI : Nat := 0x400A0020
def MAC_BSN : Nat := 0x400A0024
def MAC_OPENMAP_LO : Nat := 0x400A0028
def MAC_OPENMAP_HI : Nat := 0x400A002C
def MAC_DOMAIN : Nat := 0x400A0030
def MAC_BCN_CTL : Nat := 0x400A0034
def MAC_BCN_LOTSn (n : Nat) : Nat := 0x400A0040 + 0x4 * n
def MAC_ALM_BASE : Nat := 0x400A0060
def MAC_ALM_CTL : Nat := 0x400A0064
def MAC_EPH_CTL : Nat := 0x400A0070
def MAC_EPH_LIM : Nat := 0x400A0074
def MAC_EPH_SEED : Nat := 0x400A0078
def MAC_GUARD : Nat := 0x400A007C
def MAC_GFLOOR : Nat := 0x400A0080
def MAC_SEARCH : Nat := 0x400A0084
def MAC_FOLLOW : Nat := 0x400A0090
def MAC_HOLD : Nat := 0x400A0094
def MAC_MEPH_XLO : Nat := 0x400A0098
def MAC_MEPH_XHI : Nat := 0x400A009C
def MAC_MEPH_V : Nat := 0x400A00A0
def MAC_MEPH_SIG : Nat := 0x400A00A4
def MAC_MSTAT : Nat := 0x400A00A8
def MAC_TQ_STAT : Nat := 0x400A00B0
def MAC_WIN_STAT : Nat := 0x400A00B4
def MAC_DLQ_STAT : Nat := 0x400A00B8
def LGR_CTL : Nat := 0x400B0000
def LGR_STAT : Nat := 0x400B0004
def LGR_FLAGS : Nat := 0x400B0008
def LGR_PIN_MAX : Nat := 0x400B0010
def LGR_COLD_BASE : Nat := 0x400B0014
def LGR_COLD_CNT : Nat := 0x400B0018
def LGR_DIR_BASE : Nat := 0x400B001C
def LGR_DIR_SALT : Nat := 0x400B0020
def LGR_COLD_USED : Nat := 0x400B0024
def LGR_TXFC : Nat := 0x400B0028
def LGR_VER : Nat := 0x400B002C
def LGR_GEN : Nat := 0x400B0030
def LGR_CMD : Nat := 0x400B0040
def LGR_CMD_ADDR : Nat := 0x400B0044
def LGR_CMD_BUF : Nat := 0x400B0048
def LGR_CMD_STAT : Nat := 0x400B004C
def LGR_REBUILD_STAT : Nat := 0x400B0050
def CPH_CTL : Nat := 0x400C0000
def CPH_STAT : Nat := 0x400C0004
def CPH_FLAGS : Nat := 0x400C0008
def CPH_ARB : Nat := 0x400C0010
def KEY_CTL : Nat := 0x400D0000
def KEY_STAT : Nat := 0x400D0004
def KEY_FLAGS : Nat := 0x400D0008
def KEY_CMD : Nat := 0x400D0010
def KEY_CMD_BUF : Nat := 0x400D0014
def KEY_CMD_ADDR : Nat := 0x400D0018
def KEY_CMD_STAT : Nat := 0x400D001C
def KEY_SLOT_INFO : Nat := 0x400D0020
def KEY_SLOT_TXFC : Nat := 0x400D0024
def KEY_RAND : Nat := 0x400D0028
def CRC_FLAGS : Nat := 0x400E0008
def CRC_CTXn_CTL (n : Nat) : Nat := 0x400E0100 + 0x20 * n
def CRC_CTXn_VALUE (n : Nat) : Nat := 0x400E0104 + 0x20 * n
def CRC_CTXn_DATA (n : Nat) : Nat := 0x400E0108 + 0x20 * n
def CRC_CTXn_RESULT (n : Nat) : Nat := 0x400E010C + 0x20 * n
def CRC_CTXn_STAT (n : Nat) : Nat := 0x400E0110 + 0x20 * n
def CRC_CTXn_WLO (n : Nat) : Nat := 0x400E0114 + 0x20 * n
def CRC_CTXn_WHI (n : Nat) : Nat := 0x400E0118 + 0x20 * n
def OCC_CTL : Nat := 0x40180000
def OCC_STAT : Nat := 0x40180004
def OCC_FLAGS : Nat := 0x40180008
def OCC_CFG : Nat := 0x4018000C
def OCC_BOOTk (k : Nat) : Nat := 0x40180040 + 0x10 * k
def OCC_EPCk (k : Nat) : Nat := 0x40180044 + 0x10 * k
def OCC_CAUSEk (k : Nat) : Nat := 0x40180048 + 0x10 * k
def OCC_FADDRk (k : Nat) : Nat := 0x4018004C + 0x10 * k
def EVC_CTL : Nat := 0x400F0000
def EVC_STAT : Nat := 0x400F0004
def EVC_FLAGS : Nat := 0x400F0008
def EVC_ROUTEr (r : Nat) : Nat := 0x400F0040 + 0x4 * r
def EVC_HR_BASE_LO : Nat := 0x400F0080
def EVC_HR_BASE_HI : Nat := 0x400F0084
def EVC_HR_PROD : Nat := 0x400F0088
def EVC_HR_CONS : Nat := 0x400F008C
def EVC_LOSTd (d : Nat) : Nat := 0x400F00C0 + 0x4 * d
def TAL_CTL : Nat := 0x40190000
def TAL_CNTi (i : Nat) : Nat := 0x40190100 + 0x4 * i
def TAL_SQn (n : Nat) : Nat := 0x40190400 + 0x4 * n
def TAL_EVCNTc (c : Nat) : Nat := 0x40194000 + 0x4 * c
def MEM_FLAGS : Nat := 0x40100008
def MEM_WCOLL_ADDR : Nat := 0x40100010
def MEM_MARCH_CTL : Nat := 0x40100020
def MEM_MARCH_STAT : Nat := 0x40100024
def MEM_BANK_FAIL_LO : Nat := 0x40100028
def MEM_BANK_FAIL_HI : Nat := 0x4010002C
def MEM_REPAIR_STAT : Nat := 0x40100030
def MEM_MRAM_STAT : Nat := 0x40100040
def MEM_MSCRUB : Nat := 0x40100044
def MEM_MRAM_ERR_ADDR : Nat := 0x40100048
def DDR_CTL : Nat := 0x40110000
def DDR_STAT : Nat := 0x40110004
def DDR_FLAGS : Nat := 0x40110008
def DDR_FAIL_ADDR : Nat := 0x4011000C
def DDR_RrCTL (r : Nat) : Nat := 0x40110100 + 0x20 * r
def DDR_RrBASE (r : Nat) : Nat := 0x40110104 + 0x20 * r
def DDR_RrSIZE (r : Nat) : Nat := 0x40110108 + 0x20 * r
def DDR_RrTAG (r : Nat) : Nat := 0x4011010C + 0x20 * r
def DDR_RrGEN (r : Nat) : Nat := 0x40110110 + 0x20 * r
def SEC_STAT : Nat := 0x40150000
def SEC_FLAGS : Nat := 0x40150008
def SEC_CMD : Nat := 0x40150010
def SEC_CMD_BUF : Nat := 0x40150014
def SEC_CMD_OUT : Nat := 0x40150018
def SEC_CMD_STAT : Nat := 0x4015001C
def SEC_UIDi (i : Nat) : Nat := 0x40150020 + 0x4 * i
def SEC_NONCEi (i : Nat) : Nat := 0x40150030 + 0x4 * i
def SEC_BOOT : Nat := 0x40150040
def SEC_LMS : Nat := 0x40150044
def SEC_PRES : Nat := 0x40150050
def SEC_TAMP_CFG : Nat := 0x40150060
def SEC_TAMP_FLAGS : Nat := 0x40150064
def SEC_TEMP_LIM : Nat := 0x40150068
def SEC_M0_i (i : Nat) : Nat := 0x40150080 + 0x4 * i
def SEC_M1_i (i : Nat) : Nat := 0x401500C0 + 0x4 * i
def ULK_CTL : Nat := 0x40130000
def ULK_STAT : Nat := 0x40130004
def ULK_FLAGS : Nat := 0x40130008
def ULK_RTT : Nat := 0x40130010
def ULK_TRIM : Nat := 0x40130014
def ULK_TERR : Nat := 0x40130018
def ULK_ERRCNT : Nat := 0x4013001C
def ULK_LKUP_ADDR : Nat := 0x40130020
def ULK_LKUP_STAT : Nat := 0x40130024
def ULK_MEMBERk (k : Nat) : Nat := 0x40130100 + 0x4 * k
def AGE_CTL : Nat := 0x40140000
def AGE_STAT : Nat := 0x40140004
def AGE_FLAGS : Nat := 0x40140008
def AGE_TBL_ADDR : Nat := 0x40140010
def AGE_VID : Nat := 0x40140014
def AGE_VIDCFG : Nat := 0x40140018
def AGE_XTAL : Nat := 0x4014001C
def AGE_GCFG : Nat := 0x40140020
def AGE_LIM : Nat := 0x40140024
def AGE_XOFS : Nat := 0x40140028
def UARTn_CTL (n : Nat) : Nat := 0x40120000 + 0x1000 * n
def UARTn_STAT (n : Nat) : Nat := 0x40120004 + 0x1000 * n
def UARTn_FLAGS (n : Nat) : Nat := 0x40120008 + 0x1000 * n
def UARTn_DIV (n : Nat) : Nat := 0x40120010 + 0x1000 * n
def UARTn_FMT (n : Nat) : Nat := 0x40120014 + 0x1000 * n
def UARTn_DATA (n : Nat) : Nat := 0x40120018 + 0x1000 * n
def UARTn_FIFO_CTL (n : Nat) : Nat := 0x4012001C + 0x1000 * n
def HIF_CTL : Nat := 0x40160000
def HIF_STAT : Nat := 0x40160004
def HIF_FLAGS : Nat := 0x40160008
def HIF_ID : Nat := 0x4016000C
def HIF_ISR : Nat := 0x40160010
def HIF_IER : Nat := 0x40160014
def HIF_BOOT : Nat := 0x40160020
def HIF_BOOT_LEN : Nat := 0x40160024
def HIF_IRQc (c : Nat) : Nat := 0x40160040 + 0x4 * c
def HIF_RINGr_CFG (r : Nat) : Nat := 0x40160100 + 0x40 * r
def HIF_RINGr_BASE_LO (r : Nat) : Nat := 0x40160104 + 0x40 * r
def HIF_RINGr_BASE_HI (r : Nat) : Nat := 0x40160108 + 0x40 * r
def HIF_RINGr_WB_LO (r : Nat) : Nat := 0x4016010C + 0x40 * r
def HIF_RINGr_WB_HI (r : Nat) : Nat := 0x40160110 + 0x40 * r
def HIF_RINGr_HEAD (r : Nat) : Nat := 0x40160114 + 0x40 * r
def HIF_RINGr_TAIL (r : Nat) : Nat := 0x40160118 + 0x40 * r
def HIF_RINGr_AUX (r : Nat) : Nat := 0x4016011C + 0x40 * r
def HIF_RINGr_FILT (r : Nat) : Nat := 0x40160120 + 0x40 * r
def HIF_RINGr_STAT (r : Nat) : Nat := 0x40160124 + 0x40 * r
def SYS_MODE_REQ : Nat := 0x40000000
def SYS_MODE_STAT : Nat := 0x40000004
def SYS_FLAGS : Nat := 0x40000008
def SYS_STAT : Nat := 0x40000010
def SYS_START : Nat := 0x40000014
def SYS_RST_CTL : Nat := 0x40000018
def SYS_MAINS_CTL : Nat := 0x40000020
def SYS_DORM_CTL : Nat := 0x40000024
def SYS_CLK_CTL : Nat := 0x40000028
def SYS_PAD_CTL : Nat := 0x40000030
def TMR_TIME_LO : Nat := 0x40170000
def TMR_TIME_HI : Nat := 0x40170004
def TMR_WAKE_LO : Nat := 0x40170008
def TMR_WAKE_HI : Nat := 0x4017000C
def TMR_DORM : Nat := 0x40170010
def MSIX_CTL (v : Nat) : Nat := 0x4016100C + 0x10 * v
def MSIX_PBA : Nat := 0x40161800

end R

/-- Rows of the register table, part 0. -/
def regRows0 : List RegRow :=
  [⟨0x40010000, [(6, 0x10000)], 0x00000000, 0x00000007, 0x00000000, 0x00000000⟩,  -- LPn_CTL
   ⟨0x40010004, [(6, 0x10000)], 0x00009000, 0x00000000, 0x00000000, 0x00000000⟩,  -- LPn_STAT
   ⟨0x40010008, [(6, 0x10000)], 0x00000000, 0x00000000, 0x0000001F, 0x00000000⟩,  -- LPn_FLAGS
   ⟨0x40010010, [(6, 0x10000)], 0x000C0C0C, 0x003F003F, 0x00000000, 0x00000000⟩,  -- LPn_PGA
   ⟨0x40010020, [(6, 0x10000)], 0x00400060, 0x00FF7F7F, 0x00000000, 0x00000000⟩,  -- LPn_FIR_CTL
   ⟨0x40010030, [(6, 0x10000)], 0x00000000, 0x0000000F, 0x00000000, 0x00000000⟩,  -- LPn_NOTCH_CTL
   ⟨0x40010040, [(6, 0x10000)], 0x00001200, 0x0000FF03, 0x00000000, 0x00000000⟩,  -- LPn_AGC_CTL
   ⟨0x40010044, [(6, 0x10000)], 0x04012000, 0x070F3F3F, 0x00000000, 0x00000000⟩,  -- LPn_AGC_LIM
   ⟨0x40010048, [(6, 0x10000)], 0x02EE05DC, 0xFFFFFFFF, 0x00000000, 0x00000000⟩,  -- LPn_AGC_TIME
   ⟨0x40010050, [(6, 0x10000)], 0x00000401, 0x00010F0F, 0x00000000, 0x00000000⟩,  -- LPn_DET_CTL
   ⟨0x40010054, [(6, 0x10000)], 0x00000000, 0x00000000, 0x00000000, 0x00000000⟩,  -- LPn_PEAK
   ⟨0x40010058, [(6, 0x10000)], 0x00000000, 0x00000000, 0x00000000, 0x00000000⟩,  -- LPn_RMS
   ⟨0x4001005C, [(6, 0x10000)], 0x00000000, 0x00000000, 0x00000000, 0x00000000⟩,  -- LPn_ENV
   ⟨0x40010060, [(6, 0x10000)], 0x00004030, 0xFFFFFF7F, 0x00000000, 0x00000000⟩,  -- LPn_ZC_CTL
   ⟨0x40010064, [(6, 0x10000)], 0x07800000, 0x00000000, 0x00000000, 0x00000000⟩,  -- LPn_ZC_PERIOD
   ⟨0x40010068, [(6, 0x10000)], 0x00000000, 0x00000000, 0x00000000, 0x00000000⟩,  -- LPn_ZC_PHASE
   ⟨0x4001006C, [(6, 0x10000)], 0x00000000, 0x00000000, 0x00000000, 0x00000000⟩,  -- LPn_ZC_EDGE
   ⟨0x40010070, [(6, 0x10000)], 0x00000800, 0x00000F03, 0x00000000, 0x00000000⟩,  -- LPn_NMAP_CTL
   ⟨0x40010100, [(6, 0x10000), (4, 0x20)], 0x00400000, 0x00FFFFFF, 0x00000000, 0x00000000⟩,  -- LPn_NOTCHi, c = 0
   ⟨0x40010100, [(6, 0x10000), (4, 0x20), (5, 0x4)], 0x00000000, 0x00FFFFFF, 0x00000000, 0x00000000⟩,  -- LPn_NOTCHi
   ⟨0x40010200, [(6, 0x10000), (64, 0x4)], 0x00000000, 0x00000000, 0x00000000, 0x00000000⟩,  -- LPn_NMAPb
   ⟨0x40010400, [(6, 0x10000)], 0x00010000, 0x0003FFFF, 0x00000000, 0x00000000⟩,  -- LPn_FIRB0_Tt, t = 0
   ⟨0x40010400, [(6, 0x10000), (96, 0x4)], 0x00000000, 0x0003FFFF, 0x00000000, 0x00000000⟩,  -- LPn_FIRB0_Tt
   ⟨0x40010600, [(6, 0x10000), (96, 0x4)], 0x00000000, 0x0003FFFF, 0x00000000, 0x00000000⟩]  -- LPn_FIRB1_Tt

/-- Rows of the register table, part 1. -/
def regRows1 : List RegRow :=
  [⟨0x40080000, [], 0x00030000, 0x0003073F, 0x00000000, 0x00000000⟩,  -- DMD_CTL
   ⟨0x40080004, [], 0x01000000, 0x00000000, 0x00000000, 0x00000000⟩,  -- DMD_STAT
   ⟨0x40080008, [], 0x00000000, 0x00000000, 0x0000000F, 0x00000000⟩,  -- DMD_FLAGS
   ⟨0x40080010, [], 0x1802062B, 0xFFFF07FF, 0x00000000, 0x00000000⟩,  -- DMD_TRIG
   ⟨0x40080014, [], 0x34800324, 0xFFFF0F3F, 0x00000000, 0x00000000⟩,  -- DMD_QUAL
   ⟨0x40080018, [], 0x30280080, 0xFFFF00FF, 0x00000000, 0x00000000⟩,  -- DMD_MERGE
   ⟨0x4008001C, [], 0x00020018, 0x000300FF, 0x00000000, 0x00000000⟩,  -- DMD_CAPT
   ⟨0x40080020, [], 0x14261000, 0xFFFFFF00, 0x00000000, 0x00000000⟩,  -- DMD_EQ
   ⟨0x40080024, [], 0x00000028, 0x000000FF, 0x00000000, 0x00000000⟩,  -- DMD_ERASE
   ⟨0x40080030, [(6, 0x4)], 0x000FFFFF, 0x000FFFFF, 0x00000000, 0x00000000⟩,  -- DMD_LOTENn
   ⟨0x40080050, [], 0x00000000, 0x00000007, 0x00000000, 0x00000000⟩,  -- DMD_NSEL
   ⟨0x40080054, [], 0x00000003, 0x00000003, 0x00000000, 0x00000000⟩,  -- DMD_SURV_CTL
   ⟨0x40080400, [(320, 0x4)], 0x00000000, 0x00000000, 0x00000000, 0x00000000⟩,  -- DMD_NOISEt
   ⟨0x40080C04, [(120, 0x8)], 0x00780000, 0x00000000, 0x00000000, 0x00000000⟩,  -- DMD_CTXc, odd c
   ⟨0x40080C00, [(240, 0x4)], 0x00700000, 0x00000000, 0x00000000, 0x00000000⟩,  -- DMD_CTXc
   ⟨0x40090000, [], 0x00000000, 0x0000003F, 0x00000000, 0x00000000⟩,  -- TXP_CTL
   ⟨0x40090008, [], 0x00000000, 0x00000000, 0x0000001F, 0x00000000⟩,  -- TXP_FLAGS
   ⟨0x40090040, [], 0x00008000, 0x0000F107, 0x00000000, 0x00000000⟩,  -- TXP_CAL_CTL
   ⟨0x40090044, [], 0x00000000, 0x00000000, 0x00000000, 0x00000000⟩,  -- TXP_CAL_STAT
   ⟨0x40090080, [(3, 0x4)], 0x00000000, 0x00FF3F03, 0x00000000, 0x00000000⟩,  -- TXP_PAIRp
   ⟨0x40090100, [(6, 0x40)], 0x00001010, 0x00001133, 0x00000000, 0x00000000⟩,  -- TXP_PnCTL
   ⟨0x40090104, [(6, 0x40)], 0x00000C98, 0x00000FFF, 0x00000000, 0x00000000⟩,  -- TXP_PnLVL
   ⟨0x40090108, [(6, 0x40)], 0x00001432, 0x0000FFFF, 0x00000000, 0x00000000⟩,  -- TXP_PnTXEN
   ⟨0x4009010C, [(6, 0x40)], 0x000102B4, 0x00010FFF, 0x00000000, 0x00000000⟩]  -- TXP_PnGUARD

/-- Rows of the register table, part 2. -/
def regRows2 : List RegRow :=
  [⟨0x40090110, [(6, 0x40)], 0x00000000, 0x00000000, 0x00000000, 0x00000000⟩,  -- TXP_PnSTAT
   ⟨0x40090114, [(6, 0x40)], 0x00000000, 0x0000003F, 0x00000000, 0x00000000⟩,  -- TXP_PnSHP_CTL
   ⟨0x40090118, [(6, 0x40)], 0x00000000, 0x00000000, 0x00000000, 0x00000000⟩,  -- TXP_PnACKBUSY
   ⟨0x40090400, [(20, 0x4)], 0x00000000, 0x00000000, 0x00000000, 0x00000000⟩,  -- TXP_CALRESj
   ⟨0x40090800, [(6, 0x100)], 0x00010000, 0x0003FFFF, 0x00000000, 0x00000000⟩,  -- TXP_PnSHPt, t = 0
   ⟨0x40090800, [(6, 0x100), (48, 0x4)], 0x00000000, 0x0003FFFF, 0x00000000, 0x00000000⟩,  -- TXP_PnSHPt
   ⟨0x40091000, [(6, 0x800), (320, 0x4)], 0x00000000, 0x000000FF, 0x00000000, 0x00000000⟩,  -- TXP_PnMASKt
   ⟨0x400A0000, [], 0x00000004, 0x00000007, 0x00000000, 0x00000000⟩,  -- MAC_CTL
   ⟨0x400A0004, [], 0x00000000, 0x00000000, 0x00000000, 0x00000000⟩,  -- MAC_STAT
   ⟨0x400A0008, [], 0x00000000, 0x00000000, 0x0000007F, 0x00000000⟩,  -- MAC_FLAGS
   ⟨0x400A0010, [], 0x50280180, 0xFFFF1FFF, 0x00000000, 0x00000000⟩,  -- MAC_SF_CTL
   ⟨0x400A0014, [], 0x00000000, 0xFFFFFFFF, 0x00000000, 0x00000000⟩,  -- MAC_SF_ORIGIN_LO
   ⟨0x400A0018, [], 0x00000000, 0xFFFFFFFF, 0x00000000, 0x00000000⟩,  -- MAC_SF_ORIGIN_HI
   ⟨0x400A001C, [], 0x00000000, 0x00000000, 0x00000000, 0x00000000⟩,  -- MAC_SF_START_LO
   ⟨0x400A0020, [], 0x00000000, 0x00000000, 0x00000000, 0x00000000⟩,  -- MAC_SF_START_HI
   ⟨0x400A0024, [], 0x00000000, 0x0000FFFF, 0x00000000, 0x00000000⟩,  -- MAC_BSN
   ⟨0x400A0028, [], 0x00000000, 0xFFFFFFFF, 0x00000000, 0x00000000⟩,  -- MAC_OPENMAP_LO
   ⟨0x400A002C, [], 0x00000000, 0xFFFFFFFF, 0x00000000, 0x00000000⟩,  -- MAC_OPENMAP_HI
   ⟨0x400A0030, [], 0x00FF0000, 0x00FF3FFF, 0x00000000, 0x00000000⟩,  -- MAC_DOMAIN
   ⟨0x400A0034, [], 0x00200000, 0x003FFF3F, 0x00000000, 0x00000000⟩,  -- MAC_BCN_CTL
   ⟨0x400A0040, [(6, 0x4)], 0x00000007, 0x000FFFFF, 0x00000000, 0x00000000⟩,  -- MAC_BCN_LOTSn
   ⟨0x400A0060, [], 0x00000000, 0xFFFFFFF8, 0x00000000, 0x00000000⟩,  -- MAC_ALM_BASE
   ⟨0x400A0064, [], 0x00000413, 0x00000F33, 0x00000000, 0x00000000⟩,  -- MAC_ALM_CTL
   ⟨0x400A0070, [], 0x18103331, 0xFFFFFFFF, 0x00000000, 0x00000000⟩]  -- MAC_EPH_CTL

/-- Rows of the register table, part 3. -/
def regRows3 : List RegRow :=
  [⟨0x400A0074, [], 0x00140019, 0xFFFFFFFF, 0x00000000, 0x00000000⟩,  -- MAC_EPH_LIM
   ⟨0x400A0078, [], 0x000007D0, 0x0000FFFF, 0x00000000, 0x00000000⟩,  -- MAC_EPH_SEED
   ⟨0x400A007C, [], 0x02000010, 0x03FF03FF, 0x00000000, 0x00000000⟩,  -- MAC_GUARD
   ⟨0x400A0080, [], 0x00000010, 0x000003FF, 0x00000000, 0x00000000⟩,  -- MAC_GFLOOR
   ⟨0x400A0084, [], 0x00400043, 0x007F00FF, 0x00000000, 0x00000000⟩,  -- MAC_SEARCH
   ⟨0x400A0090, [], 0x00000000, 0xFF3F3FFF, 0x00000000, 0x00000000⟩,  -- MAC_FOLLOW
   ⟨0x400A0094, [], 0x01000010, 0xFFFF03FF, 0x00000000, 0x00000000⟩,  -- MAC_HOLD
   ⟨0x400A0098, [], 0x00000000, 0x00000000, 0x00000000, 0x00000000⟩,  -- MAC_MEPH_XLO
   ⟨0x400A009C, [], 0x00000000, 0x00000000, 0x00000000, 0x00000000⟩,  -- MAC_MEPH_XHI
   ⟨0x400A00A0, [], 0x00000000, 0x00000000, 0x00000000, 0x00000000⟩,  -- MAC_MEPH_V
   ⟨0x400A00A4, [], 0x00000000, 0x00000000, 0x00000000, 0x00000000⟩,  -- MAC_MEPH_SIG
   ⟨0x400A00A8, [], 0x00000000, 0x00000000, 0x00000000, 0x00000000⟩,  -- MAC_MSTAT
   ⟨0x400A00B0, [], 0x00000000, 0x00000000, 0x00000000, 0x00000000⟩,  -- MAC_TQ_STAT
   ⟨0x400A00B4, [], 0x00000000, 0x00000000, 0x00000000, 0x00000000⟩,  -- MAC_WIN_STAT
   ⟨0x400A00B8, [], 0x00000000, 0x00000000, 0x00000000, 0x00000000⟩,  -- MAC_DLQ_STAT
   ⟨0x400B0000, [], 0x00000004, 0x00000007, 0x00000000, 0x00000000⟩,  -- LGR_CTL
   ⟨0x400B0004, [], 0x00000000, 0x00000000, 0x00000000, 0x00000000⟩,  -- LGR_STAT
   ⟨0x400B0008, [], 0x00000000, 0x00000000, 0x0000003F, 0x00000000⟩,  -- LGR_FLAGS
   ⟨0x400B0010, [], 0x00000E80, 0x00001FFF, 0x00000000, 0x00000000⟩,  -- LGR_PIN_MAX
   ⟨0x400B0014, [], 0x00000000, 0xFFFFFF80, 0x00000000, 0x00000000⟩,  -- LGR_COLD_BASE
   ⟨0x400B0018, [], 0x00000040, 0x0000007F, 0x00000000, 0x00000000⟩,  -- LGR_COLD_CNT
   ⟨0x400B001C, [], 0x00000000, 0xFFFFF000, 0x00000000, 0x00000000⟩,  -- LGR_DIR_BASE
   ⟨0x400B0020, [], 0x00000000, 0xFFFFFFFF, 0x00000000, 0x00000000⟩,  -- LGR_DIR_SALT
   ⟨0x400B0024, [], 0x00000000, 0x00000000, 0x00000000, 0x00000000⟩]  -- LGR_COLD_USED

/-- Rows of the register table, part 4. -/
def regRows4 : List RegRow :=
  [⟨0x400B0028, [], 0x00000100, 0x0000FFFF, 0x00000000, 0x00000000⟩,  -- LGR_TXFC
   ⟨0x400B002C, [], 0x00000000, 0x00000000, 0x00000000, 0x00000000⟩,  -- LGR_VER
   ⟨0x400B0030, [], 0x00000000, 0x00000000, 0x00000000, 0x00000000⟩,  -- LGR_GEN
   ⟨0x400B0040, [], 0x00000000, 0x00000000, 0x00000000, 0x00000000⟩,  -- LGR_CMD
   ⟨0x400B0044, [], 0x00000000, 0xFFFFFFFF, 0x00000000, 0x00000000⟩,  -- LGR_CMD_ADDR
   ⟨0x400B0048, [], 0x00000000, 0xFFFFFFFC, 0x00000000, 0x00000000⟩,  -- LGR_CMD_BUF
   ⟨0x400B004C, [], 0x00000000, 0x00000000, 0x00000000, 0x00000000⟩,  -- LGR_CMD_STAT
   ⟨0x400B0050, [], 0x00000000, 0x00000000, 0x00000000, 0x00000000⟩,  -- LGR_REBUILD_STAT
   ⟨0x400C0000, [], 0x00000001, 0x00000001, 0x00000000, 0x00000000⟩,  -- CPH_CTL
   ⟨0x400C0004, [], 0x00000000, 0x00000000, 0x00000000, 0x00000000⟩,  -- CPH_STAT
   ⟨0x400C0008, [], 0x00000000, 0x00000000, 0x0000000F, 0x00000000⟩,  -- CPH_FLAGS
   ⟨0x400C0010, [], 0x0000000E, 0x0000001F, 0x00000000, 0x00000000⟩,  -- CPH_ARB
   ⟨0x400D0000, [], 0x00000000, 0x00000000, 0x00000000, 0x00000000⟩,  -- KEY_CTL
   ⟨0x400D0004, [], 0x00000000, 0x00000000, 0x00000000, 0x00000000⟩,  -- KEY_STAT
   ⟨0x400D0008, [], 0x00000000, 0x00000000, 0x0000001F, 0x00000000⟩,  -- KEY_FLAGS
   ⟨0x400D0010, [], 0x00000000, 0x00000000, 0x00000000, 0x00000000⟩,  -- KEY_CMD
   ⟨0x400D0014, [], 0x00000000, 0xFFFFFFF8, 0x00000000, 0x00000000⟩,  -- KEY_CMD_BUF
   ⟨0x400D0018, [], 0x00000000, 0xFFFFFFFF, 0x00000000, 0x00000000⟩,  -- KEY_CMD_ADDR
   ⟨0x400D001C, [], 0x00000000, 0x00000000, 0x00000000, 0x00000000⟩,  -- KEY_CMD_STAT
   ⟨0x400D0020, [], 0x00000000, 0x00000000, 0x00000000, 0x00000000⟩,  -- KEY_SLOT_INFO
   ⟨0x400D0024, [], 0x00000000, 0x00000000, 0x00000000, 0x00000000⟩,  -- KEY_SLOT_TXFC
   ⟨0x400D0028, [], 0x00000000, 0x00000000, 0x00000000, 0x00000000⟩,  -- KEY_RAND
   ⟨0x400E0008, [], 0x00000000, 0x00000000, 0x00000F0F, 0x00000000⟩,  -- CRC_FLAGS
   ⟨0x400E0100, [(4, 0x20)], 0x00000000, 0x00FF3373, 0x00000000, 0x00000000⟩]  -- CRC_CTXn_CTL

/-- Rows of the register table, part 5. -/
def regRows5 : List RegRow :=
  [⟨0x400E0104, [(4, 0x20)], 0x00000000, 0xFFFFFFFF, 0x00000000, 0x00000000⟩,  -- CRC_CTXn_VALUE
   ⟨0x400E0108, [(4, 0x20)], 0x00000000, 0x00000000, 0x00000000, 0x00000000⟩,  -- CRC_CTXn_DATA
   ⟨0x400E010C, [(4, 0x20)], 0x00000000, 0x00000000, 0x00000000, 0x00000000⟩,  -- CRC_CTXn_RESULT
   ⟨0x400E0110, [(4, 0x20)], 0x00000000, 0x00FFFFFF, 0x00000000, 0x00000000⟩,  -- CRC_CTXn_STAT
   ⟨0x400E0114, [(4, 0x20)], 0x00000000, 0xFFFFFFFF, 0x00000000, 0x00000000⟩,  -- CRC_CTXn_WLO
   ⟨0x400E0118, [(4, 0x20)], 0x00000000, 0xFFFFFFFF, 0x00000000, 0x00000000⟩,  -- CRC_CTXn_WHI
   ⟨0x40180000, [], 0x00000000, 0x00000000, 0x00000000, 0x00000000⟩,  -- OCC_CTL
   ⟨0x40180004, [], 0x00000001, 0x00000000, 0x00000000, 0x00000000⟩,  -- OCC_STAT
   ⟨0x40180008, [], 0x00000000, 0x00000000, 0x0003FFFF, 0x00000000⟩,  -- OCC_FLAGS
   ⟨0x4018000C, [], 0x00000001, 0x00000001, 0x00000000, 0x00000002⟩,  -- OCC_CFG
   ⟨0x40180040, [], 0x00000000, 0xFFFFFFFC, 0x00000000, 0x00000000⟩,  -- OCC_BOOTk, k = 0
   ⟨0x40180040, [(8, 0x10)], 0x20100000, 0xFFFFFFFC, 0x00000000, 0x00000000⟩,  -- OCC_BOOTk
   ⟨0x40180044, [(8, 0x10)], 0x00000000, 0x00000000, 0x00000000, 0x00000000⟩,  -- OCC_EPCk
   ⟨0x40180048, [(8, 0x10)], 0x00000000, 0x00000000, 0x00000000, 0x00000000⟩,  -- OCC_CAUSEk
   ⟨0x4018004C, [(8, 0x10)], 0x00000000, 0x00000000, 0x00000000, 0x00000000⟩,  -- OCC_FADDRk
   ⟨0x400F0000, [], 0x00000800, 0x00000F01, 0x00000000, 0x00000000⟩,  -- EVC_CTL
   ⟨0x400F0004, [], 0x00000000, 0x00000000, 0x00000000, 0x00000000⟩,  -- EVC_STAT
   ⟨0x400F0008, [], 0x00000000, 0x00000000, 0x000007FF, 0x00000000⟩,  -- EVC_FLAGS
   ⟨0x400F0040, [(16, 0x4)], 0x00000101, 0x000001FF, 0x00000000, 0x00000000⟩,  -- EVC_ROUTEr
   ⟨0x400F0080, [], 0x00000000, 0xFFFFFFFF, 0x00000000, 0x00000000⟩,  -- EVC_HR_BASE_LO
   ⟨0x400F0084, [], 0x00000000, 0xFFFFFFFF, 0x00000000, 0x00000000⟩,  -- EVC_HR_BASE_HI
   ⟨0x400F0088, [], 0x00000000, 0x00000000, 0x00000000, 0x00000000⟩,  -- EVC_HR_PROD
   ⟨0x400F008C, [], 0x00000000, 0x0000FFFF, 0x00000000, 0x00000000⟩,  -- EVC_HR_CONS
   ⟨0x400F00C0, [(10, 0x4)], 0x00000000, 0x00000000, 0x00000000, 0x00000000⟩]  -- EVC_LOSTd

/-- Rows of the register table, part 6. -/
def regRows6 : List RegRow :=
  [⟨0x40190000, [], 0x00000000, 0x00000000, 0x00000000, 0x00000000⟩,  -- TAL_CTL
   ⟨0x40190100, [(64, 0x4)], 0x00000000, 0x00000000, 0x00000000, 0x00000000⟩,  -- TAL_CNTi
   ⟨0x40190400, [(32, 0x4)], 0x00000000, 0x00000000, 0x00000000, 0x00000000⟩,  -- TAL_SQn
   ⟨0x40194000, [(4096, 0x4)], 0x00000000, 0x00000000, 0x00000000, 0x00000000⟩,  -- TAL_EVCNTc
   ⟨0x40100008, [], 0x00000000, 0x00000000, 0x0000007F, 0x00000000⟩,  -- MEM_FLAGS
   ⟨0x40100010, [], 0x00000000, 0x00000000, 0x00000000, 0x00000000⟩,  -- MEM_WCOLL_ADDR
   ⟨0x40100020, [], 0x00000000, 0x000107FF, 0x00000000, 0x00000000⟩,  -- MEM_MARCH_CTL
   ⟨0x40100024, [], 0x00000000, 0x00000000, 0x00000000, 0x00000000⟩,  -- MEM_MARCH_STAT
   ⟨0x40100028, [], 0x00000000, 0x00000000, 0x00000000, 0x00000000⟩,  -- MEM_BANK_FAIL_LO
   ⟨0x4010002C, [], 0x00000000, 0x00000000, 0x00000000, 0x00000000⟩,  -- MEM_BANK_FAIL_HI
   ⟨0x40100030, [], 0x00000000, 0x00000000, 0x00000000, 0x00000000⟩,  -- MEM_REPAIR_STAT
   ⟨0x40100040, [], 0x00000000, 0x00000000, 0x00000000, 0x00000000⟩,  -- MEM_MRAM_STAT
   ⟨0x40100044, [], 0x00001801, 0x00FFFF01, 0x00000000, 0x00000000⟩,  -- MEM_MSCRUB
   ⟨0x40100048, [], 0x00000000, 0x00000000, 0x00000000, 0x00000000⟩,  -- MEM_MRAM_ERR_ADDR
   ⟨0x40110000, [], 0x00800000, 0x00FF0121, 0x00000000, 0x00000000⟩,  -- DDR_CTL
   ⟨0x40110004, [], 0x00000000, 0x00000000, 0x00000000, 0x00000000⟩,  -- DDR_STAT
   ⟨0x40110008, [], 0x00000000, 0x00000000, 0x0000003F, 0x00000000⟩,  -- DDR_FLAGS
   ⟨0x4011000C, [], 0x00000000, 0x00000000, 0x00000000, 0x00000000⟩,  -- DDR_FAIL_ADDR
   ⟨0x40110100, [(8, 0x20)], 0x00000000, 0x00FF1F31, 0x00000000, 0x00000000⟩,  -- DDR_RrCTL
   ⟨0x40110104, [(8, 0x20)], 0x00000000, 0xFFFFF000, 0x00000000, 0x00000000⟩,  -- DDR_RrBASE
   ⟨0x40110108, [(8, 0x20)], 0x00000000, 0xFFFFF000, 0x00000000, 0x00000000⟩,  -- DDR_RrSIZE
   ⟨0x4011010C, [(8, 0x20)], 0x00000000, 0xFFFFFF80, 0x00000000, 0x00000000⟩,  -- DDR_RrTAG
   ⟨0x40110110, [(8, 0x20)], 0x00000000, 0xFFFFFFFF, 0x00000000, 0x00000000⟩,  -- DDR_RrGEN
   ⟨0x40150000, [], 0x10000000, 0x00000000, 0x00000000, 0x00000000⟩]  -- SEC_STAT

/-- Rows of the register table, part 7. -/
def regRows7 : List RegRow :=
  [⟨0x40150008, [], 0x00000000, 0x00000000, 0x00000007, 0x00000000⟩,  -- SEC_FLAGS
   ⟨0x40150010, [], 0x00000000, 0x00000000, 0x00000000, 0x00000000⟩,  -- SEC_CMD
   ⟨0x40150014, [], 0x00000000, 0xFFFFFFFC, 0x00000000, 0x00000000⟩,  -- SEC_CMD_BUF
   ⟨0x40150018, [], 0x00000000, 0xFFFFFFFC, 0x00000000, 0x00000000⟩,  -- SEC_CMD_OUT
   ⟨0x4015001C, [], 0x00000000, 0x00000000, 0x00000000, 0x00000000⟩,  -- SEC_CMD_STAT
   ⟨0x40150020, [(4, 0x4)], 0x00000000, 0x00000000, 0x00000000, 0x00000000⟩,  -- SEC_UIDi
   ⟨0x40150030, [(4, 0x4)], 0x00000000, 0x00000000, 0x00000000, 0x00000000⟩,  -- SEC_NONCEi
   ⟨0x40150040, [], 0x00000000, 0x00000000, 0x00000000, 0x00000000⟩,  -- SEC_BOOT
   ⟨0x40150044, [], 0x00000000, 0x00000000, 0x00000000, 0x00000000⟩,  -- SEC_LMS
   ⟨0x40150050, [], 0x00000000, 0x00000000, 0x00000000, 0x00000000⟩,  -- SEC_PRES
   ⟨0x40150060, [], 0x00000000, 0x00000000, 0x00000000, 0x0000011F⟩,  -- SEC_TAMP_CFG
   ⟨0x40150064, [], 0x00000000, 0x00000000, 0x0000001F, 0x00000000⟩,  -- SEC_TAMP_FLAGS
   ⟨0x40150068, [], 0x007D00CE, 0x00FF00FF, 0x00000000, 0x00000000⟩,  -- SEC_TEMP_LIM
   ⟨0x40150080, [(12, 0x4)], 0x00000000, 0x00000000, 0x00000000, 0x00000000⟩,  -- SEC_M0_i
   ⟨0x401500C0, [(12, 0x4)], 0x00000000, 0x00000000, 0x00000000, 0x00000000⟩,  -- SEC_M1_i
   ⟨0x40130000, [], 0x00000000, 0x0000001F, 0x00000000, 0x00000000⟩,  -- ULK_CTL
   ⟨0x40130004, [], 0x00000000, 0x00000000, 0x00000000, 0x00000000⟩,  -- ULK_STAT
   ⟨0x40130008, [], 0x00000000, 0x00000000, 0x0000003F, 0x00000000⟩,  -- ULK_FLAGS
   ⟨0x40130010, [], 0x00000000, 0x00000000, 0x00000000, 0x00000000⟩,  -- ULK_RTT
   ⟨0x40130014, [], 0x00000000, 0x0000FFFF, 0x00000000, 0x00000000⟩,  -- ULK_TRIM
   ⟨0x40130018, [], 0x00000000, 0x00000000, 0x00000000, 0x00000000⟩,  -- ULK_TERR
   ⟨0x4013001C, [], 0x00000000, 0x00000000, 0x00000000, 0x00000000⟩,  -- ULK_ERRCNT
   ⟨0x40130020, [], 0x00000000, 0xFFFFFFFF, 0x00000000, 0x00000000⟩,  -- ULK_LKUP_ADDR
   ⟨0x40130024, [], 0x00000000, 0x00000000, 0x00000000, 0x00000000⟩]  -- ULK_LKUP_STAT

/-- Rows of the register table, part 8. -/
def regRows8 : List RegRow :=
  [⟨0x40130104, [(31, 0x4)], 0x00000000, 0x01FF3FFF, 0x00000000, 0x00000000⟩,  -- ULK_MEMBERk
   ⟨0x40140000, [], 0x00180004, 0x00FF000D, 0x00000000, 0x00000000⟩,  -- AGE_CTL
   ⟨0x40140004, [], 0x00000000, 0x00000000, 0x00000000, 0x00000000⟩,  -- AGE_STAT
   ⟨0x40140008, [], 0x00000000, 0x00000000, 0x0000000F, 0x00000000⟩,  -- AGE_FLAGS
   ⟨0x40140010, [], 0x00000000, 0xFFFFFE00, 0x00000000, 0x00000000⟩,  -- AGE_TBL_ADDR
   ⟨0x40140014, [], 0x00640808, 0x00FF000F, 0x00000000, 0x00000000⟩,  -- AGE_VID
   ⟨0x40140018, [], 0x13880008, 0xFFFF000F, 0x00000000, 0x00000000⟩,  -- AGE_VIDCFG
   ⟨0x4014001C, [], 0x00000000, 0x00000003, 0x00000000, 0x00000000⟩,  -- AGE_XTAL
   ⟨0x40140020, [], 0x00000E10, 0x00FFFFFF, 0x00000000, 0x00000000⟩,  -- AGE_GCFG
   ⟨0x40140024, [], 0x02044E20, 0x0FFFFFFF, 0x00000000, 0x00000000⟩,  -- AGE_LIM
   ⟨0x40140028, [], 0x80000000, 0x00000000, 0x00000000, 0x00000000⟩,  -- AGE_XOFS
   ⟨0x40120000, [(2, 0x1000)], 0x00000000, 0x0000007F, 0x00000000, 0x00000000⟩,  -- UARTn_CTL
   ⟨0x40120004, [(2, 0x1000)], 0x00000000, 0x00000000, 0x00000000, 0x00000000⟩,  -- UARTn_STAT
   ⟨0x40120008, [(2, 0x1000)], 0x00000000, 0x00000000, 0x000000FF, 0x00000000⟩,  -- UARTn_FLAGS
   ⟨0x40120010, [(2, 0x1000)], 0x000001A1, 0x000FFFFF, 0x00000000, 0x00000000⟩,  -- UARTn_DIV
   ⟨0x40120014, [(2, 0x1000)], 0x00000000, 0x0000000F, 0x00000000, 0x00000000⟩,  -- UARTn_FMT
   ⟨0x40120018, [(2, 0x1000)], 0x80000000, 0x00000000, 0x00000000, 0x00000000⟩,  -- UARTn_DATA
   ⟨0x4012001C, [(2, 0x1000)], 0x40301020, 0xFF7F3F7F, 0x00000000, 0x00000000⟩,  -- UARTn_FIFO_CTL
   ⟨0x40160000, [], 0x00000000, 0x00000001, 0x00000000, 0x00000000⟩,  -- HIF_CTL
   ⟨0x40160004, [], 0x00000000, 0x00000000, 0x00000000, 0x00000000⟩,  -- HIF_STAT
   ⟨0x40160008, [], 0x00000000, 0x00000000, 0x0000001F, 0x00000000⟩,  -- HIF_FLAGS
   ⟨0x4016000C, [], 0x64060100, 0x00000000, 0x00000000, 0x00000000⟩,  -- HIF_ID
   ⟨0x40160010, [], 0x00000000, 0x00000000, 0x000007FF, 0x00000000⟩,  -- HIF_ISR
   ⟨0x40160014, [], 0x00000000, 0x000007FF, 0x00000000, 0x00000000⟩]  -- HIF_IER

/-- Rows of the register table, part 9. -/
def regRows9 : List RegRow :=
  [⟨0x40160020, [], 0x00000000, 0x00000000, 0x00000000, 0x00000000⟩,  -- HIF_BOOT
   ⟨0x40160024, [], 0x00000000, 0x001FFFFF, 0x00000000, 0x00000000⟩,  -- HIF_BOOT_LEN
   ⟨0x40160044, [], 0x00000101, 0xFFFFFF1F, 0x00000000, 0x00000000⟩,  -- HIF_IRQc, c = 1
   ⟨0x40160048, [], 0x00000102, 0xFFFFFF1F, 0x00000000, 0x00000000⟩,  -- HIF_IRQc, c = 2
   ⟨0x4016004C, [], 0x00000103, 0xFFFFFF1F, 0x00000000, 0x00000000⟩,  -- HIF_IRQc, c = 3
   ⟨0x40160050, [], 0x00000104, 0xFFFFFF1F, 0x00000000, 0x00000000⟩,  -- HIF_IRQc, c = 4
   ⟨0x40160054, [], 0x00000105, 0xFFFFFF1F, 0x00000000, 0x00000000⟩,  -- HIF_IRQc, c = 5
   ⟨0x40160058, [], 0x00000106, 0xFFFFFF1F, 0x00000000, 0x00000000⟩,  -- HIF_IRQc, c = 6
   ⟨0x4016005C, [], 0x00000107, 0xFFFFFF1F, 0x00000000, 0x00000000⟩,  -- HIF_IRQc, c = 7
   ⟨0x40160060, [], 0x00000108, 0xFFFFFF1F, 0x00000000, 0x00000000⟩,  -- HIF_IRQc, c = 8
   ⟨0x40160064, [], 0x00000109, 0xFFFFFF1F, 0x00000000, 0x00000000⟩,  -- HIF_IRQc, c = 9
   ⟨0x40160068, [], 0x0000010A, 0xFFFFFF1F, 0x00000000, 0x00000000⟩,  -- HIF_IRQc, c = 10
   ⟨0x40160040, [(11, 0x4)], 0x00000100, 0xFFFFFF1F, 0x00000000, 0x00000000⟩,  -- HIF_IRQc
   ⟨0x40160100, [(8, 0x40)], 0x00000000, 0x00FFFF03, 0x00000000, 0x00000000⟩,  -- HIF_RINGr_CFG
   ⟨0x40160104, [(8, 0x40)], 0x00000000, 0xFFFFFFFF, 0x00000000, 0x00000000⟩,  -- HIF_RINGr_BASE_LO
   ⟨0x40160108, [(8, 0x40)], 0x00000000, 0xFFFFFFFF, 0x00000000, 0x00000000⟩,  -- HIF_RINGr_BASE_HI
   ⟨0x4016010C, [(8, 0x40)], 0x00000000, 0xFFFFFFFF, 0x00000000, 0x00000000⟩,  -- HIF_RINGr_WB_LO
   ⟨0x40160110, [(8, 0x40)], 0x00000000, 0xFFFFFFFF, 0x00000000, 0x00000000⟩,  -- HIF_RINGr_WB_HI
   ⟨0x40160114, [(8, 0x40)], 0x00000000, 0x00000000, 0x00000000, 0x00000000⟩,  -- HIF_RINGr_HEAD
   ⟨0x40160118, [(8, 0x40)], 0x00000000, 0x0000FFFF, 0x00000000, 0x00000000⟩,  -- HIF_RINGr_TAIL
   ⟨0x4016011C, [(8, 0x40)], 0x00000000, 0x00000000, 0x00000000, 0x00000000⟩,  -- HIF_RINGr_AUX
   ⟨0x40160120, [], 0x033F7F3F, 0x033F7F3F, 0x00000000, 0x00000000⟩,  -- HIF_RINGr_FILT, r = 0
   ⟨0x40160160, [], 0x033F7F3F, 0x033F7F3F, 0x00000000, 0x00000000⟩,  -- HIF_RINGr_FILT, r = 1
   ⟨0x401601A0, [], 0x033F7F3F, 0x033F7F3F, 0x00000000, 0x00000000⟩]  -- HIF_RINGr_FILT, r = 2

/-- Rows of the register table, part 10. -/
def regRows10 : List RegRow :=
  [⟨0x401601E0, [], 0x033F7F3F, 0x033F7F3F, 0x00000000, 0x00000000⟩,  -- HIF_RINGr_FILT, r = 3
   ⟨0x40160120, [(8, 0x40)], 0x00000000, 0x033F7F3F, 0x00000000, 0x00000000⟩,  -- HIF_RINGr_FILT
   ⟨0x40160124, [(8, 0x40)], 0x00000001, 0x00000000, 0x00000000, 0x00000000⟩,  -- HIF_RINGr_STAT
   ⟨0x40000000, [], 0x00000000, 0x00000000, 0x00000000, 0x00000000⟩,  -- SYS_MODE_REQ
   ⟨0x40000004, [], 0x00000004, 0x00000000, 0x00000000, 0x00000000⟩,  -- SYS_MODE_STAT
   ⟨0x40000008, [], 0x00000000, 0x00000000, 0x00000007, 0x00000000⟩,  -- SYS_FLAGS
   ⟨0x40000010, [], 0x00000000, 0x00000000, 0x00000000, 0x00000000⟩,  -- SYS_STAT
   ⟨0x40000014, [], 0x00000000, 0x00000000, 0x00000000, 0x00000000⟩,  -- SYS_START
   ⟨0x40000018, [], 0x00000000, 0x00000000, 0x00000000, 0x00000000⟩,  -- SYS_RST_CTL
   ⟨0x40000020, [], 0x80641400, 0xF7FFFF01, 0x00000000, 0x00000000⟩,  -- SYS_MAINS_CTL
   ⟨0x40000024, [], 0x0014003C, 0x00FF003C, 0x00000000, 0x00000000⟩,  -- SYS_DORM_CTL
   ⟨0x40000028, [], 0x00000001, 0x00000001, 0x00000000, 0x00000000⟩,  -- SYS_CLK_CTL
   ⟨0x40000030, [], 0x00001111, 0x00007777, 0x00000000, 0x00000000⟩,  -- SYS_PAD_CTL
   ⟨0x40170000, [], 0x00000000, 0x00000000, 0x00000000, 0x00000000⟩,  -- TMR_TIME_LO
   ⟨0x40170004, [], 0x00000000, 0x00000000, 0x00000000, 0x00000000⟩,  -- TMR_TIME_HI
   ⟨0x40170008, [], 0xFFFFFFFF, 0xFFFFFFFF, 0x00000000, 0x00000000⟩,  -- TMR_WAKE_LO
   ⟨0x4017000C, [], 0xFFFFFFFF, 0xFFFFFFFF, 0x00000000, 0x00000000⟩,  -- TMR_WAKE_HI
   ⟨0x40170010, [], 0x00000000, 0x00000000, 0x00000000, 0x00000000⟩,  -- TMR_DORM
   ⟨0x40161000, [(32, 0x10), (3, 0x4)], 0x00000000, 0xFFFFFFFF, 0x00000000, 0x00000000⟩,  -- MSI-X table: address low, address high, data (R501)
   ⟨0x4016100C, [(32, 0x10)], 0x00000001, 0x00000001, 0x00000000, 0x00000000⟩,  -- MSI-X table: vector control, bit 0 mask (R501; reset 1 by the PCIe base specification, PRESUMED)
   ⟨0x40161800, [], 0x00000000, 0x00000000, 0x00000000, 0x00000000⟩]  -- MSI-X pending bits (R501)

/-- The whole register table (R522). [PRESUMED, log 22] -/
def regTable : List RegRow :=
  regRows0 ++ regRows1 ++ regRows2 ++ regRows3 ++ regRows4 ++ regRows5 ++ regRows6 ++ regRows7 ++ regRows8 ++ regRows9 ++ regRows10

/-- `o` bytes past a row's base are one of its registers. -/
def regOffsetIn : List (Nat × Nat) → Nat → Bool
  | [], o => o == 0
  | (n, st) :: ds, o => o / st < n && regOffsetIn ds (o % st)

/-- The row whose register stands at an address, if any (R522: others read zero and discard writes). -/
def regRow? (a : Nat) : Option RegRow :=
  regTable.find? fun r => r.base ≤ a && regOffsetIn r.dims (a - r.base)

/-- What a register reads as after power-on reset, before anything has changed it (R9). [DESIGN CHOICE, log 61] -/
def regReset (a : Nat) : BitVec 32 :=
  match regRow? a with
  | some r => r.reset
  | none => 0

end Sys2Proof.Machine
end

