-- ==== Sys2Proof/Machine/RegFields.lean ====
section
/-! DEFINITION. The named fields of the registers, from the register descriptions of spec/: register, high bit, low bit. -/

namespace Sys2Proof.Machine.F

def LPn_CTL_SYNC_RST (n : Nat) : Field := ⟨R.LPn_CTL n, 4, 4⟩
def LPn_CTL_PRESET (n : Nat) : Field := ⟨R.LPn_CTL n, 2, 1⟩
def LPn_CTL_EN (n : Nat) : Field := ⟨R.LPn_CTL n, 0, 0⟩
def LPn_STAT_SETTLE_N (n : Nat) : Field := ⟨R.LPn_STAT n, 15, 8⟩
def LPn_STAT_TX_HOLD (n : Nat) : Field := ⟨R.LPn_STAT n, 6, 6⟩
def LPn_STAT_SWAP_PEND (n : Nat) : Field := ⟨R.LPn_STAT n, 5, 5⟩
def LPn_STAT_FADE_BUSY (n : Nat) : Field := ⟨R.LPn_STAT n, 4, 4⟩
def LPn_STAT_FIR_ACTIVE (n : Nat) : Field := ⟨R.LPn_STAT n, 3, 3⟩
def LPn_STAT_MAP_VALID (n : Nat) : Field := ⟨R.LPn_STAT n, 2, 2⟩
def LPn_STAT_ZC_LOCK (n : Nat) : Field := ⟨R.LPn_STAT n, 1, 1⟩
def LPn_STAT_SETTLED (n : Nat) : Field := ⟨R.LPn_STAT n, 0, 0⟩
def LPn_FLAGS_AGC_LIMIT (n : Nat) : Field := ⟨R.LPn_FLAGS n, 4, 4⟩
def LPn_FLAGS_ZC_JUMP (n : Nat) : Field := ⟨R.LPn_FLAGS n, 3, 3⟩
def LPn_FLAGS_ZC_LOST (n : Nat) : Field := ⟨R.LPn_FLAGS n, 2, 2⟩
def LPn_FLAGS_BANK_BUSY (n : Nat) : Field := ⟨R.LPn_FLAGS n, 1, 1⟩
def LPn_FLAGS_ADC_OVL (n : Nat) : Field := ⟨R.LPn_FLAGS n, 0, 0⟩
def LPn_PGA_REF (n : Nat) : Field := ⟨R.LPn_PGA n, 21, 16⟩
def LPn_PGA_CUR (n : Nat) : Field := ⟨R.LPn_PGA n, 13, 8⟩
def LPn_PGA_CODE (n : Nat) : Field := ⟨R.LPn_PGA n, 5, 0⟩
def LPn_FIR_CTL_SWAP_REQ (n : Nat) : Field := ⟨R.LPn_FIR_CTL n, 25, 24⟩
def LPn_FIR_CTL_FADE_LEN (n : Nat) : Field := ⟨R.LPn_FIR_CTL n, 23, 16⟩
def LPn_FIR_CTL_FIR_DLY (n : Nat) : Field := ⟨R.LPn_FIR_CTL n, 14, 8⟩
def LPn_FIR_CTL_ACTIVE_TAPS (n : Nat) : Field := ⟨R.LPn_FIR_CTL n, 6, 0⟩
def LPn_NOTCH_CTL_EN (n : Nat) : Field := ⟨R.LPn_NOTCH_CTL n, 3, 0⟩
def LPn_AGC_CTL_TARGET (n : Nat) : Field := ⟨R.LPn_AGC_CTL n, 15, 8⟩
def LPn_AGC_CTL_FREEZE (n : Nat) : Field := ⟨R.LPn_AGC_CTL n, 1, 1⟩
def LPn_AGC_CTL_EN (n : Nat) : Field := ⟨R.LPn_AGC_CTL n, 0, 0⟩
def LPn_AGC_LIM_STEP_DN (n : Nat) : Field := ⟨R.LPn_AGC_LIM n, 26, 24⟩
def LPn_AGC_LIM_PK_HI (n : Nat) : Field := ⟨R.LPn_AGC_LIM n, 19, 16⟩
def LPn_AGC_LIM_MAX_CODE (n : Nat) : Field := ⟨R.LPn_AGC_LIM n, 13, 8⟩
def LPn_AGC_LIM_MIN_CODE (n : Nat) : Field := ⟨R.LPn_AGC_LIM n, 5, 0⟩
def LPn_AGC_TIME_HOLD_US (n : Nat) : Field := ⟨R.LPn_AGC_TIME n, 31, 16⟩
def LPn_AGC_TIME_DECAY_US (n : Nat) : Field := ⟨R.LPn_AGC_TIME n, 15, 0⟩
def LPn_DET_CTL_PEAK_MODE (n : Nat) : Field := ⟨R.LPn_DET_CTL n, 16, 16⟩
def LPn_DET_CTL_ENV_TC (n : Nat) : Field := ⟨R.LPn_DET_CTL n, 11, 8⟩
def LPn_DET_CTL_RMS_SYM (n : Nat) : Field := ⟨R.LPn_DET_CTL n, 3, 0⟩
def LPn_PEAK_LEVEL (n : Nat) : Field := ⟨R.LPn_PEAK n, 15, 0⟩
def LPn_RMS_LEVEL (n : Nat) : Field := ⟨R.LPn_RMS n, 15, 0⟩
def LPn_ENV_LEVEL (n : Nat) : Field := ⟨R.LPn_ENV n, 15, 0⟩
def LPn_ZC_CTL_PHASE_OFS (n : Nat) : Field := ⟨R.LPn_ZC_CTL n, 31, 16⟩
def LPn_ZC_CTL_GLITCH (n : Nat) : Field := ⟨R.LPn_ZC_CTL n, 15, 8⟩
def LPn_ZC_CTL_TC (n : Nat) : Field := ⟨R.LPn_ZC_CTL n, 6, 4⟩
def LPn_ZC_CTL_POL (n : Nat) : Field := ⟨R.LPn_ZC_CTL n, 3, 3⟩
def LPn_ZC_CTL_NOM (n : Nat) : Field := ⟨R.LPn_ZC_CTL n, 2, 2⟩
def LPn_ZC_CTL_REF (n : Nat) : Field := ⟨R.LPn_ZC_CTL n, 1, 1⟩
def LPn_ZC_CTL_EN (n : Nat) : Field := ⟨R.LPn_ZC_CTL n, 0, 0⟩
def LPn_ZC_PERIOD_T (n : Nat) : Field := ⟨R.LPn_ZC_PERIOD n, 27, 0⟩
def LPn_ZC_PHASE_VALID (n : Nat) : Field := ⟨R.LPn_ZC_PHASE n, 31, 31⟩
def LPn_ZC_PHASE_BIN (n : Nat) : Field := ⟨R.LPn_ZC_PHASE n, 21, 16⟩
def LPn_ZC_PHASE_PHASE (n : Nat) : Field := ⟨R.LPn_ZC_PHASE n, 15, 0⟩
def LPn_ZC_EDGE_T_EDGE (n : Nat) : Field := ⟨R.LPn_ZC_EDGE n, 31, 0⟩
def LPn_NMAP_CTL_TC (n : Nat) : Field := ⟨R.LPn_NMAP_CTL n, 11, 8⟩
def LPn_NMAP_CTL_CLEAR (n : Nat) : Field := ⟨R.LPn_NMAP_CTL n, 2, 2⟩
def LPn_NMAP_CTL_FREEZE (n : Nat) : Field := ⟨R.LPn_NMAP_CTL n, 1, 1⟩
def LPn_NMAP_CTL_EN (n : Nat) : Field := ⟨R.LPn_NMAP_CTL n, 0, 0⟩
def LPn_NOTCHi_COEF (n i c : Nat) : Field := ⟨R.LPn_NOTCHi n i c, 23, 0⟩
def LPn_NMAPb_POWER (n b : Nat) : Field := ⟨R.LPn_NMAPb n b, 15, 0⟩
def LPn_FIRB0_Tt_H (n t : Nat) : Field := ⟨R.LPn_FIRB0_Tt n t, 17, 0⟩
def LPn_FIRB1_Tt_H (n t : Nat) : Field := ⟨R.LPn_FIRB1_Tt n t, 17, 0⟩
def DMD_CTL_KEEP_ERASE : Field := ⟨R.DMD_CTL, 17, 17⟩
def DMD_CTL_ERASE_EN : Field := ⟨R.DMD_CTL, 16, 16⟩
def DMD_CTL_YOKE : Field := ⟨R.DMD_CTL, 10, 8⟩
def DMD_CTL_PORT_EN : Field := ⟨R.DMD_CTL, 5, 0⟩
def DMD_STAT_RXID_FREE : Field := ⟨R.DMD_STAT, 24, 16⟩
def DMD_STAT_CTX_BUSY : Field := ⟨R.DMD_STAT, 15, 8⟩
def DMD_STAT_YOKED : Field := ⟨R.DMD_STAT, 2, 0⟩
def DMD_FLAGS_CTX_FULL : Field := ⟨R.DMD_FLAGS, 3, 3⟩
def DMD_FLAGS_RXID_EXH : Field := ⟨R.DMD_FLAGS, 2, 2⟩
def DMD_FLAGS_VIT_LATE : Field := ⟨R.DMD_FLAGS, 1, 1⟩
def DMD_FLAGS_YOKE_ERR : Field := ⟨R.DMD_FLAGS, 0, 0⟩
def DMD_TRIG_PEAK_R : Field := ⟨R.DMD_TRIG, 31, 24⟩
def DMD_TRIG_HOP_DROP : Field := ⟨R.DMD_TRIG, 23, 16⟩
def DMD_TRIG_TRIG_SYM : Field := ⟨R.DMD_TRIG, 10, 8⟩
def DMD_TRIG_TRIG_D : Field := ⟨R.DMD_TRIG, 7, 0⟩
def DMD_QUAL_QUAL_D : Field := ⟨R.DMD_QUAL, 31, 24⟩
def DMD_QUAL_B_THR : Field := ⟨R.DMD_QUAL, 23, 16⟩
def DMD_QUAL_QUAL_SYM : Field := ⟨R.DMD_QUAL, 11, 8⟩
def DMD_QUAL_B_WAIT : Field := ⟨R.DMD_QUAL, 5, 0⟩
def DMD_MERGE_MERGE_DB : Field := ⟨R.DMD_MERGE, 31, 24⟩
def DMD_MERGE_MERGE_TOL : Field := ⟨R.DMD_MERGE, 23, 16⟩
def DMD_MERGE_MERGE_FRAC : Field := ⟨R.DMD_MERGE, 7, 0⟩
def DMD_CAPT_CAP_OPEN : Field := ⟨R.DMD_CAPT, 17, 17⟩
def DMD_CAPT_CAP_ASSIGNED : Field := ⟨R.DMD_CAPT, 16, 16⟩
def DMD_CAPT_CAPTURE_MARGIN : Field := ⟨R.DMD_CAPT, 7, 0⟩
def DMD_EQ_THR_K : Field := ⟨R.DMD_EQ, 31, 24⟩
def DMD_EQ_PIL_TC : Field := ⟨R.DMD_EQ, 23, 20⟩
def DMD_EQ_NTC : Field := ⟨R.DMD_EQ, 19, 16⟩
def DMD_EQ_LLR_SCALE : Field := ⟨R.DMD_EQ, 15, 8⟩
def DMD_ERASE_ERASE_DB : Field := ⟨R.DMD_ERASE, 7, 0⟩
def DMD_LOTENn_LOT (n : Nat) : Field := ⟨R.DMD_LOTENn n, 19, 0⟩
def DMD_NSEL_PORT : Field := ⟨R.DMD_NSEL, 2, 0⟩
def DMD_SURV_CTL_REC : Field := ⟨R.DMD_SURV_CTL, 1, 1⟩
def DMD_SURV_CTL_EN : Field := ⟨R.DMD_SURV_CTL, 0, 0⟩
def DMD_NOISEt_POWER (t : Nat) : Field := ⟨R.DMD_NOISEt t, 15, 0⟩
def DMD_CTXc_RXID (c : Nat) : Field := ⟨R.DMD_CTXc c, 31, 24⟩
def DMD_CTXc_STATE (c : Nat) : Field := ⟨R.DMD_CTXc c, 23, 20⟩
def DMD_CTXc_ROLE (c : Nat) : Field := ⟨R.DMD_CTXc c, 19, 19⟩
def DMD_CTXc_LEVEL (c : Nat) : Field := ⟨R.DMD_CTXc c, 15, 0⟩
def TXP_CTL_PORT_EN : Field := ⟨R.TXP_CTL, 5, 0⟩
def TXP_FLAGS_CAL_REFUSED : Field := ⟨R.TXP_FLAGS, 4, 4⟩
def TXP_FLAGS_TX_CONFLICT : Field := ⟨R.TXP_FLAGS, 3, 3⟩
def TXP_FLAGS_SHP_BUSY : Field := ⟨R.TXP_FLAGS, 2, 2⟩
def TXP_FLAGS_MASK_VIOL : Field := ⟨R.TXP_FLAGS, 1, 1⟩
def TXP_FLAGS_TX_CLIP : Field := ⟨R.TXP_FLAGS, 0, 0⟩
def TXP_CAL_CTL_START : Field := ⟨R.TXP_CAL_CTL, 16, 16⟩
def TXP_CAL_CTL_CAL_SYM : Field := ⟨R.TXP_CAL_CTL, 15, 12⟩
def TXP_CAL_CTL_DRV : Field := ⟨R.TXP_CAL_CTL, 8, 8⟩
def TXP_CAL_CTL_PORT : Field := ⟨R.TXP_CAL_CTL, 2, 0⟩
def TXP_CAL_STAT_DONE : Field := ⟨R.TXP_CAL_STAT, 1, 1⟩
def TXP_CAL_STAT_BUSY : Field := ⟨R.TXP_CAL_STAT, 0, 0⟩
def TXP_PAIRp_ATT_HI (p : Nat) : Field := ⟨R.TXP_PAIRp p, 23, 16⟩
def TXP_PAIRp_DLY (p : Nat) : Field := ⟨R.TXP_PAIRp p, 13, 8⟩
def TXP_PAIRp_BOTH (p : Nat) : Field := ⟨R.TXP_PAIRp p, 1, 1⟩
def TXP_PAIRp_SEL (p : Nat) : Field := ⟨R.TXP_PAIRp p, 0, 0⟩
def TXP_PnCTL_UNMUTE (n : Nat) : Field := ⟨R.TXP_PnCTL n, 16, 16⟩
def TXP_PnCTL_MASK_ACT (n : Nat) : Field := ⟨R.TXP_PnCTL n, 12, 12⟩
def TXP_PnCTL_MON_SRC (n : Nat) : Field := ⟨R.TXP_PnCTL n, 8, 8⟩
def TXP_PnCTL_BLK_LOTS (n : Nat) : Field := ⟨R.TXP_PnCTL n, 5, 4⟩
def TXP_PnCTL_PLAN (n : Nat) : Field := ⟨R.TXP_PnCTL n, 1, 0⟩
def TXP_PnLVL_TAPER (n : Nat) : Field := ⟨R.TXP_PnLVL n, 11, 8⟩
def TXP_PnLVL_TONE_DB (n : Nat) : Field := ⟨R.TXP_PnLVL n, 7, 0⟩
def TXP_PnTXEN_LAG_US (n : Nat) : Field := ⟨R.TXP_PnTXEN n, 15, 8⟩
def TXP_PnTXEN_LEAD_US (n : Nat) : Field := ⟨R.TXP_PnTXEN n, 7, 0⟩
def TXP_PnGUARD_EN (n : Nat) : Field := ⟨R.TXP_PnGUARD n, 16, 16⟩
def TXP_PnGUARD_VIOL_N (n : Nat) : Field := ⟨R.TXP_PnGUARD n, 11, 8⟩
def TXP_PnGUARD_GUARD_DB (n : Nat) : Field := ⟨R.TXP_PnGUARD n, 7, 0⟩
def TXP_PnSTAT_VIOL_BIN (n : Nat) : Field := ⟨R.TXP_PnSTAT n, 24, 16⟩
def TXP_PnSTAT_TXH (n : Nat) : Field := ⟨R.TXP_PnSTAT n, 6, 6⟩
def TXP_PnSTAT_MUTED (n : Nat) : Field := ⟨R.TXP_PnSTAT n, 5, 5⟩
def TXP_PnSTAT_TXEN (n : Nat) : Field := ⟨R.TXP_PnSTAT n, 4, 4⟩
def TXP_PnSTAT_STREAM_BUSY (n : Nat) : Field := ⟨R.TXP_PnSTAT n, 3, 0⟩
def TXP_PnSHP_CTL_SHP_DLY (n : Nat) : Field := ⟨R.TXP_PnSHP_CTL n, 5, 0⟩
def TXP_PnACKBUSY_ACK_BUSY (n : Nat) : Field := ⟨R.TXP_PnACKBUSY n, 19, 0⟩
def TXP_CALRESj_GAIN (j : Nat) : Field := ⟨R.TXP_CALRESj j, 15, 0⟩
def TXP_PnSHPt_S (n t : Nat) : Field := ⟨R.TXP_PnSHPt n t, 17, 0⟩
def TXP_PnMASKt_ATT (n t : Nat) : Field := ⟨R.TXP_PnMASKt n t, 7, 0⟩
def MAC_CTL_SEARCH_EN : Field := ⟨R.MAC_CTL, 2, 2⟩
def MAC_CTL_BCN_EN : Field := ⟨R.MAC_CTL, 1, 1⟩
def MAC_CTL_WALK_EN : Field := ⟨R.MAC_CTL, 0, 0⟩
def MAC_STAT_BSN : Field := ⟨R.MAC_STAT, 31, 16⟩
def MAC_STAT_IN_BCN : Field := ⟨R.MAC_STAT, 8, 8⟩
def MAC_STAT_SLOT : Field := ⟨R.MAC_STAT, 5, 0⟩
def MAC_FLAGS_DLQ_FULL : Field := ⟨R.MAC_FLAGS, 6, 6⟩
def MAC_FLAGS_BCN_TRUNC : Field := ⟨R.MAC_FLAGS, 5, 5⟩
def MAC_FLAGS_MSLOT_DIFF : Field := ⟨R.MAC_FLAGS, 4, 4⟩
def MAC_FLAGS_ALM_MISMATCH : Field := ⟨R.MAC_FLAGS, 3, 3⟩
def MAC_FLAGS_WIN_FULL : Field := ⟨R.MAC_FLAGS, 2, 2⟩
def MAC_FLAGS_TQ_FULL : Field := ⟨R.MAC_FLAGS, 1, 1⟩
def MAC_FLAGS_SF_CFG_ERR : Field := ⟨R.MAC_FLAGS, 0, 0⟩
def MAC_SF_CTL_WALK_LEAD : Field := ⟨R.MAC_SF_CTL, 31, 24⟩
def MAC_SF_CTL_BCN_LEAD : Field := ⟨R.MAC_SF_CTL, 23, 16⟩
def MAC_SF_CTL_SLOTLEN : Field := ⟨R.MAC_SF_CTL, 12, 0⟩
def MAC_SF_ORIGIN_LO_ORIGIN : Field := ⟨R.MAC_SF_ORIGIN_LO, 31, 0⟩
def MAC_SF_ORIGIN_HI_ORIGIN : Field := ⟨R.MAC_SF_ORIGIN_HI, 31, 0⟩
def MAC_SF_START_LO_START : Field := ⟨R.MAC_SF_START_LO, 31, 0⟩
def MAC_SF_START_HI_START : Field := ⟨R.MAC_SF_START_HI, 31, 0⟩
def MAC_BSN_BSN_NEXT : Field := ⟨R.MAC_BSN, 15, 0⟩
def MAC_OPENMAP_LO_OPEN : Field := ⟨R.MAC_OPENMAP_LO, 31, 0⟩
def MAC_OPENMAP_HI_OPEN : Field := ⟨R.MAC_OPENMAP_HI, 31, 0⟩
def MAC_DOMAIN_RANK : Field := ⟨R.MAC_DOMAIN, 23, 16⟩
def MAC_DOMAIN_DOMAIN : Field := ⟨R.MAC_DOMAIN, 13, 0⟩
def MAC_BCN_CTL_NPEND_MAX : Field := ⟨R.MAC_BCN_CTL, 21, 16⟩
def MAC_BCN_CTL_KEYSLOT : Field := ⟨R.MAC_BCN_CTL, 15, 8⟩
def MAC_BCN_CTL_PORTS : Field := ⟨R.MAC_BCN_CTL, 5, 0⟩
def MAC_BCN_LOTSn_LOTS (n : Nat) : Field := ⟨R.MAC_BCN_LOTSn n, 19, 0⟩
def MAC_ALM_BASE_BASE : Field := ⟨R.MAC_ALM_BASE, 31, 3⟩
def MAC_ALM_CTL_DL_RETRY : Field := ⟨R.MAC_ALM_CTL, 11, 8⟩
def MAC_ALM_CTL_DL_HYP : Field := ⟨R.MAC_ALM_CTL, 5, 4⟩
def MAC_ALM_CTL_UL_HYP : Field := ⟨R.MAC_ALM_CTL, 1, 0⟩
def MAC_EPH_CTL_SEARCH_K : Field := ⟨R.MAC_EPH_CTL, 31, 24⟩
def MAC_EPH_CTL_K_SIGMA : Field := ⟨R.MAC_EPH_CTL, 23, 16⟩
def MAC_EPH_CTL_SV_TC : Field := ⟨R.MAC_EPH_CTL, 15, 12⟩
def MAC_EPH_CTL_SX_TC : Field := ⟨R.MAC_EPH_CTL, 11, 8⟩
def MAC_EPH_CTL_B : Field := ⟨R.MAC_EPH_CTL, 7, 4⟩
def MAC_EPH_CTL_A : Field := ⟨R.MAC_EPH_CTL, 3, 0⟩
def MAC_EPH_LIM_RATE_FLOOR : Field := ⟨R.MAC_EPH_LIM, 31, 16⟩
def MAC_EPH_LIM_SIG_MEAS : Field := ⟨R.MAC_EPH_LIM, 15, 0⟩
def MAC_EPH_SEED_SEED_RATE : Field := ⟨R.MAC_EPH_SEED, 15, 0⟩
def MAC_GUARD_G_MAX : Field := ⟨R.MAC_GUARD, 25, 16⟩
def MAC_GUARD_G_BASE : Field := ⟨R.MAC_GUARD, 9, 0⟩
def MAC_GFLOOR_GUARD_FLOOR : Field := ⟨R.MAC_GFLOOR, 9, 0⟩
def MAC_SEARCH_SEARCH_MAX : Field := ⟨R.MAC_SEARCH, 22, 16⟩
def MAC_SEARCH_SEARCH_LIMIT : Field := ⟨R.MAC_SEARCH, 7, 4⟩
def MAC_SEARCH_MISS_LIMIT : Field := ⟨R.MAC_SEARCH, 3, 0⟩
def MAC_FOLLOW_MKEYSLOT : Field := ⟨R.MAC_FOLLOW, 31, 24⟩
def MAC_FOLLOW_BCN_OFS : Field := ⟨R.MAC_FOLLOW, 21, 16⟩
def MAC_FOLLOW_MASTER_DOMAIN : Field := ⟨R.MAC_FOLLOW, 13, 0⟩
def MAC_HOLD_SLEW_MAX : Field := ⟨R.MAC_HOLD, 31, 16⟩
def MAC_HOLD_UNC_MAX : Field := ⟨R.MAC_HOLD, 9, 0⟩
def MAC_MEPH_XLO_X : Field := ⟨R.MAC_MEPH_XLO, 31, 0⟩
def MAC_MEPH_XHI_X : Field := ⟨R.MAC_MEPH_XHI, 31, 0⟩
def MAC_MEPH_V_V : Field := ⟨R.MAC_MEPH_V, 31, 0⟩
def MAC_MEPH_SIG_SV : Field := ⟨R.MAC_MEPH_SIG, 31, 16⟩
def MAC_MEPH_SIG_SX : Field := ⟨R.MAC_MEPH_SIG, 15, 0⟩
def MAC_MSTAT_TLOST : Field := ⟨R.MAC_MSTAT, 2, 2⟩
def MAC_MSTAT_MISSED : Field := ⟨R.MAC_MSTAT, 1, 0⟩
def MAC_TQ_STAT_ACK_USED : Field := ⟨R.MAC_TQ_STAT, 23, 16⟩
def MAC_TQ_STAT_USED : Field := ⟨R.MAC_TQ_STAT, 8, 0⟩
def MAC_WIN_STAT_ARMED : Field := ⟨R.MAC_WIN_STAT, 8, 0⟩
def MAC_DLQ_STAT_USED : Field := ⟨R.MAC_DLQ_STAT, 10, 0⟩
def LGR_CTL_SWEEP : Field := ⟨R.LGR_CTL, 9, 9⟩
def LGR_CTL_REBUILD : Field := ⟨R.LGR_CTL, 8, 8⟩
def LGR_CTL_AUTO_ALLOC : Field := ⟨R.LGR_CTL, 2, 2⟩
def LGR_CTL_COLD_EN : Field := ⟨R.LGR_CTL, 1, 1⟩
def LGR_CTL_EN : Field := ⟨R.LGR_CTL, 0, 0⟩
def LGR_STAT_SWEEP_BUSY : Field := ⟨R.LGR_STAT, 31, 31⟩
def LGR_STAT_REBUILD_BUSY : Field := ⟨R.LGR_STAT, 30, 30⟩
def LGR_STAT_PINNED : Field := ⟨R.LGR_STAT, 28, 16⟩
def LGR_STAT_HOT_USED : Field := ⟨R.LGR_STAT, 12, 0⟩
def LGR_FLAGS_CMD_OVR : Field := ⟨R.LGR_FLAGS, 5, 5⟩
def LGR_FLAGS_INTEGRITY : Field := ⟨R.LGR_FLAGS, 4, 4⟩
def LGR_FLAGS_RO_WRITE : Field := ⟨R.LGR_FLAGS, 3, 3⟩
def LGR_FLAGS_VER_HIGH : Field := ⟨R.LGR_FLAGS, 2, 2⟩
def LGR_FLAGS_LEDGER_BUSY : Field := ⟨R.LGR_FLAGS, 1, 1⟩
def LGR_FLAGS_LEDGER_FULL : Field := ⟨R.LGR_FLAGS, 0, 0⟩
def LGR_PIN_MAX_PIN_MAX : Field := ⟨R.LGR_PIN_MAX, 12, 0⟩
def LGR_COLD_BASE_BASE : Field := ⟨R.LGR_COLD_BASE, 31, 7⟩
def LGR_COLD_CNT_CNT : Field := ⟨R.LGR_COLD_CNT, 6, 0⟩
def LGR_DIR_BASE_BASE : Field := ⟨R.LGR_DIR_BASE, 31, 12⟩
def LGR_DIR_SALT_SALT : Field := ⟨R.LGR_DIR_SALT, 31, 0⟩
def LGR_COLD_USED_USED : Field := ⟨R.LGR_COLD_USED, 18, 0⟩
def LGR_TXFC_STEP : Field := ⟨R.LGR_TXFC, 15, 0⟩
def LGR_VER_VER_MAX : Field := ⟨R.LGR_VER, 15, 0⟩
def LGR_GEN_GEN : Field := ⟨R.LGR_GEN, 31, 0⟩
def LGR_CMD_OP : Field := ⟨R.LGR_CMD, 3, 0⟩
def LGR_CMD_ADDR_ADDR : Field := ⟨R.LGR_CMD_ADDR, 31, 0⟩
def LGR_CMD_BUF_BUF : Field := ⟨R.LGR_CMD_BUF, 31, 2⟩
def LGR_CMD_STAT_BUSY : Field := ⟨R.LGR_CMD_STAT, 31, 31⟩
def LGR_CMD_STAT_RESULT : Field := ⟨R.LGR_CMD_STAT, 19, 16⟩
def LGR_CMD_STAT_STALL : Field := ⟨R.LGR_CMD_STAT, 11, 0⟩
def LGR_REBUILD_STAT_DONE : Field := ⟨R.LGR_REBUILD_STAT, 31, 31⟩
def LGR_REBUILD_STAT_FOUND : Field := ⟨R.LGR_REBUILD_STAT, 18, 0⟩
def CPH_CTL_CJOB_EN : Field := ⟨R.CPH_CTL, 0, 0⟩
def CPH_STAT_CJOB_QUEUED : Field := ⟨R.CPH_STAT, 13, 8⟩
def CPH_STAT_BUSY : Field := ⟨R.CPH_STAT, 1, 0⟩
def CPH_FLAGS_CJOB_FULL : Field := ⟨R.CPH_FLAGS, 3, 3⟩
def CPH_FLAGS_JOB_ERR : Field := ⟨R.CPH_FLAGS, 2, 2⟩
def CPH_FLAGS_POLICY : Field := ⟨R.CPH_FLAGS, 1, 1⟩
def CPH_FLAGS_TAG_FAIL : Field := ⟨R.CPH_FLAGS, 0, 0⟩
def CPH_ARB_MEM_RUN : Field := ⟨R.CPH_ARB, 4, 0⟩
def KEY_CTL_RESEED : Field := ⟨R.KEY_CTL, 0, 0⟩
def KEY_STAT_KEKS_READY : Field := ⟨R.KEY_STAT, 31, 31⟩
def KEY_STAT_RNG_OK : Field := ⟨R.KEY_STAT, 30, 30⟩
def KEY_STAT_REPROV : Field := ⟨R.KEY_STAT, 23, 16⟩
def KEY_STAT_LCCLASS : Field := ⟨R.KEY_STAT, 9, 8⟩
def KEY_STAT_RETIRE_USED : Field := ⟨R.KEY_STAT, 6, 0⟩
def KEY_FLAGS_CMD_OVR : Field := ⟨R.KEY_FLAGS, 4, 4⟩
def KEY_FLAGS_RNG_FAIL : Field := ⟨R.KEY_FLAGS, 3, 3⟩
def KEY_FLAGS_ROLLBACK : Field := ⟨R.KEY_FLAGS, 2, 2⟩
def KEY_FLAGS_BAD_BLOB : Field := ⟨R.KEY_FLAGS, 1, 1⟩
def KEY_FLAGS_ZEROISED : Field := ⟨R.KEY_FLAGS, 0, 0⟩
def KEY_CMD_SLOT : Field := ⟨R.KEY_CMD, 28, 16⟩
def KEY_CMD_ALG : Field := ⟨R.KEY_CMD, 9, 8⟩
def KEY_CMD_OP : Field := ⟨R.KEY_CMD, 3, 0⟩
def KEY_CMD_BUF_BUF : Field := ⟨R.KEY_CMD_BUF, 31, 3⟩
def KEY_CMD_ADDR_ADDR : Field := ⟨R.KEY_CMD_ADDR, 31, 0⟩
def KEY_CMD_STAT_BUSY : Field := ⟨R.KEY_CMD_STAT, 31, 31⟩
def KEY_CMD_STAT_RESULT : Field := ⟨R.KEY_CMD_STAT, 19, 16⟩
def KEY_SLOT_INFO_VALID : Field := ⟨R.KEY_SLOT_INFO, 31, 31⟩
def KEY_SLOT_INFO_POLICY : Field := ⟨R.KEY_SLOT_INFO, 30, 28⟩
def KEY_SLOT_INFO_ALG : Field := ⟨R.KEY_SLOT_INFO, 27, 26⟩
def KEY_SLOT_INFO_FLAGS : Field := ⟨R.KEY_SLOT_INFO, 25, 24⟩
def KEY_SLOT_INFO_RETIRING : Field := ⟨R.KEY_SLOT_INFO, 23, 16⟩
def KEY_SLOT_INFO_KVER : Field := ⟨R.KEY_SLOT_INFO, 15, 0⟩
def KEY_SLOT_TXFC_TXFC : Field := ⟨R.KEY_SLOT_TXFC, 31, 0⟩
def KEY_RAND_RAND : Field := ⟨R.KEY_RAND, 31, 0⟩
def CRC_FLAGS_FEED_ERR : Field := ⟨R.CRC_FLAGS, 11, 8⟩
def CRC_FLAGS_CHK_FAIL : Field := ⟨R.CRC_FLAGS, 3, 0⟩
def CRC_CTXn_CTL_INIT (n : Nat) : Field := ⟨R.CRC_CTXn_CTL n, 31, 31⟩
def CRC_CTXn_CTL_SEL (n : Nat) : Field := ⟨R.CRC_CTXn_CTL n, 23, 16⟩
def CRC_CTXn_CTL_DLEN (n : Nat) : Field := ⟨R.CRC_CTXn_CTL n, 13, 12⟩
def CRC_CTXn_CTL_MODE (n : Nat) : Field := ⟨R.CRC_CTXn_CTL n, 9, 8⟩
def CRC_CTXn_CTL_SRC (n : Nat) : Field := ⟨R.CRC_CTXn_CTL n, 6, 4⟩
def CRC_CTXn_CTL_POLY (n : Nat) : Field := ⟨R.CRC_CTXn_CTL n, 1, 0⟩
def CRC_CTXn_VALUE_C (n : Nat) : Field := ⟨R.CRC_CTXn_VALUE n, 31, 0⟩
def CRC_CTXn_DATA_D (n : Nat) : Field := ⟨R.CRC_CTXn_DATA n, 31, 0⟩
def CRC_CTXn_RESULT_R (n : Nat) : Field := ⟨R.CRC_CTXn_RESULT n, 31, 0⟩
def CRC_CTXn_STAT_ABORT (n : Nat) : Field := ⟨R.CRC_CTXn_STAT n, 27, 27⟩
def CRC_CTXn_STAT_ARMED (n : Nat) : Field := ⟨R.CRC_CTXn_STAT n, 26, 26⟩
def CRC_CTXn_STAT_VERDICT (n : Nat) : Field := ⟨R.CRC_CTXn_STAT n, 25, 24⟩
def CRC_CTXn_STAT_BYTES (n : Nat) : Field := ⟨R.CRC_CTXn_STAT n, 23, 0⟩
def CRC_CTXn_WLO_ADDR (n : Nat) : Field := ⟨R.CRC_CTXn_WLO n, 31, 0⟩
def CRC_CTXn_WHI_ADDR (n : Nat) : Field := ⟨R.CRC_CTXn_WHI n, 31, 0⟩
def OCC_CTL_STOP : Field := ⟨R.OCC_CTL, 23, 16⟩
def OCC_CTL_START : Field := ⟨R.OCC_CTL, 7, 0⟩
def OCC_STAT_LOCKS : Field := ⟨R.OCC_STAT, 31, 16⟩
def OCC_STAT_STATE : Field := ⟨R.OCC_STAT, 15, 0⟩
def OCC_FLAGS_HOST_REFUSED : Field := ⟨R.OCC_FLAGS, 17, 17⟩
def OCC_FLAGS_ITCM_WP : Field := ⟨R.OCC_FLAGS, 16, 16⟩
def OCC_FLAGS_LOCK_LONG : Field := ⟨R.OCC_FLAGS, 15, 8⟩
def OCC_FLAGS_FAULT : Field := ⟨R.OCC_FLAGS, 7, 0⟩
def OCC_CFG_LOCK : Field := ⟨R.OCC_CFG, 1, 1⟩
def OCC_CFG_HOST_CTL : Field := ⟨R.OCC_CFG, 0, 0⟩
def OCC_BOOTk_PC (k : Nat) : Field := ⟨R.OCC_BOOTk k, 31, 2⟩
def OCC_EPCk_EPC (k : Nat) : Field := ⟨R.OCC_EPCk k, 31, 0⟩
def OCC_CAUSEk_CAUSE (k : Nat) : Field := ⟨R.OCC_CAUSEk k, 3, 0⟩
def OCC_FADDRk_FADDR (k : Nat) : Field := ⟨R.OCC_FADDRk k, 31, 0⟩
def EVC_CTL_QCLR : Field := ⟨R.EVC_CTL, 23, 16⟩
def EVC_CTL_HR_LOG2 : Field := ⟨R.EVC_CTL, 11, 8⟩
def EVC_CTL_HR_EN : Field := ⟨R.EVC_CTL, 0, 0⟩
def EVC_STAT_STAGED : Field := ⟨R.EVC_STAT, 20, 16⟩
def EVC_STAT_NONEMPTY : Field := ⟨R.EVC_STAT, 7, 0⟩
def EVC_FLAGS_HR_ERR : Field := ⟨R.EVC_FLAGS, 10, 10⟩
def EVC_FLAGS_SRC_OVF : Field := ⟨R.EVC_FLAGS, 9, 9⟩
def EVC_FLAGS_HOVF : Field := ⟨R.EVC_FLAGS, 8, 8⟩
def EVC_FLAGS_QOVF : Field := ⟨R.EVC_FLAGS, 7, 0⟩
def EVC_ROUTEr_HOST (r : Nat) : Field := ⟨R.EVC_ROUTEr r, 8, 8⟩
def EVC_ROUTEr_CORES (r : Nat) : Field := ⟨R.EVC_ROUTEr r, 7, 0⟩
def EVC_HR_BASE_LO_BASE : Field := ⟨R.EVC_HR_BASE_LO, 31, 0⟩
def EVC_HR_BASE_HI_BASE : Field := ⟨R.EVC_HR_BASE_HI, 31, 0⟩
def EVC_HR_PROD_PROD : Field := ⟨R.EVC_HR_PROD, 15, 0⟩
def EVC_HR_CONS_CONS : Field := ⟨R.EVC_HR_CONS, 15, 0⟩
def EVC_LOSTd_COUNT (d : Nat) : Field := ⟨R.EVC_LOSTd d, 31, 0⟩
def TAL_CTL_CLEAR : Field := ⟨R.TAL_CTL, 0, 0⟩
def TAL_CNTi_COUNT (i : Nat) : Field := ⟨R.TAL_CNTi i, 31, 0⟩
def TAL_SQn_COUNT (n : Nat) : Field := ⟨R.TAL_SQn n, 31, 0⟩
def TAL_EVCNTc_COUNT (c : Nat) : Field := ⟨R.TAL_EVCNTc c, 31, 0⟩
def MEM_FLAGS_REPAIR_REC : Field := ⟨R.MEM_FLAGS, 6, 6⟩
def MEM_FLAGS_MRAM_WP : Field := ⟨R.MEM_FLAGS, 5, 5⟩
def MEM_FLAGS_MRAM_ERR : Field := ⟨R.MEM_FLAGS, 4, 4⟩
def MEM_FLAGS_MRAM_CORR : Field := ⟨R.MEM_FLAGS, 3, 3⟩
def MEM_FLAGS_MARCH_REFUSED : Field := ⟨R.MEM_FLAGS, 2, 2⟩
def MEM_FLAGS_BANK_FAIL : Field := ⟨R.MEM_FLAGS, 1, 1⟩
def MEM_FLAGS_WCOLL : Field := ⟨R.MEM_FLAGS, 0, 0⟩
def MEM_WCOLL_ADDR_ADDR : Field := ⟨R.MEM_WCOLL_ADDR, 31, 0⟩
def MEM_MARCH_CTL_START : Field := ⟨R.MEM_MARCH_CTL, 31, 31⟩
def MEM_MARCH_CTL_MODE : Field := ⟨R.MEM_MARCH_CTL, 16, 16⟩
def MEM_MARCH_CTL_GROUP : Field := ⟨R.MEM_MARCH_CTL, 10, 8⟩
def MEM_MARCH_CTL_MASK : Field := ⟨R.MEM_MARCH_CTL, 7, 0⟩
def MEM_MARCH_STAT_BUSY : Field := ⟨R.MEM_MARCH_STAT, 31, 31⟩
def MEM_MARCH_STAT_RESULT : Field := ⟨R.MEM_MARCH_STAT, 18, 16⟩
def MEM_MARCH_STAT_GROUP : Field := ⟨R.MEM_MARCH_STAT, 10, 8⟩
def MEM_MARCH_STAT_MASK : Field := ⟨R.MEM_MARCH_STAT, 7, 0⟩
def MEM_BANK_FAIL_LO_FAIL : Field := ⟨R.MEM_BANK_FAIL_LO, 31, 0⟩
def MEM_BANK_FAIL_HI_FAIL : Field := ⟨R.MEM_BANK_FAIL_HI, 31, 0⟩
def MEM_REPAIR_STAT_PENDING : Field := ⟨R.MEM_REPAIR_STAT, 31, 24⟩
def MEM_REPAIR_STAT_ROWS : Field := ⟨R.MEM_REPAIR_STAT, 23, 16⟩
def MEM_REPAIR_STAT_COLS : Field := ⟨R.MEM_REPAIR_STAT, 6, 0⟩
def MEM_MRAM_STAT_REMAP : Field := ⟨R.MEM_MRAM_STAT, 31, 16⟩
def MEM_MRAM_STAT_CORR : Field := ⟨R.MEM_MRAM_STAT, 15, 0⟩
def MEM_MSCRUB_MARGIN : Field := ⟨R.MEM_MSCRUB, 23, 16⟩
def MEM_MSCRUB_PERIOD_H : Field := ⟨R.MEM_MSCRUB, 15, 8⟩
def MEM_MSCRUB_EN : Field := ⟨R.MEM_MSCRUB, 0, 0⟩
def MEM_MRAM_ERR_ADDR_ADDR : Field := ⟨R.MEM_MRAM_ERR_ADDR, 31, 0⟩
def DDR_CTL_RETRAIN_MS : Field := ⟨R.DDR_CTL, 23, 16⟩
def DDR_CTL_SSC : Field := ⟨R.DDR_CTL, 8, 8⟩
def DDR_CTL_RESTORE : Field := ⟨R.DDR_CTL, 5, 5⟩
def DDR_CTL_TRAIN : Field := ⟨R.DDR_CTL, 4, 4⟩
def DDR_CTL_EN : Field := ⟨R.DDR_CTL, 0, 0⟩
def DDR_STAT_READY : Field := ⟨R.DDR_STAT, 31, 31⟩
def DDR_STAT_TRAINING : Field := ⟨R.DDR_STAT, 30, 30⟩
def DDR_STAT_TEMP : Field := ⟨R.DDR_STAT, 10, 8⟩
def DDR_STAT_SIZE : Field := ⟨R.DDR_STAT, 1, 0⟩
def DDR_FLAGS_UNMAPPED : Field := ⟨R.DDR_FLAGS, 5, 5⟩
def DDR_FLAGS_SWEEP : Field := ⟨R.DDR_FLAGS, 4, 4⟩
def DDR_FLAGS_TRAIN_FAIL : Field := ⟨R.DDR_FLAGS, 3, 3⟩
def DDR_FLAGS_CFG_ERR : Field := ⟨R.DDR_FLAGS, 2, 2⟩
def DDR_FLAGS_KEYLOST : Field := ⟨R.DDR_FLAGS, 1, 1⟩
def DDR_FLAGS_TAG_FAIL : Field := ⟨R.DDR_FLAGS, 0, 0⟩
def DDR_FAIL_ADDR_ADDR : Field := ⟨R.DDR_FAIL_ADDR, 31, 0⟩
def DDR_RrCTL_KEYLOST (r : Nat) : Field := ⟨R.DDR_RrCTL r, 30, 30⟩
def DDR_RrCTL_SWEEPING (r : Nat) : Field := ⟨R.DDR_RrCTL r, 29, 29⟩
def DDR_RrCTL_READY (r : Nat) : Field := ⟨R.DDR_RrCTL r, 28, 28⟩
def DDR_RrCTL_SLOT (r : Nat) : Field := ⟨R.DDR_RrCTL r, 23, 16⟩
def DDR_RrCTL_VOFS (r : Nat) : Field := ⟨R.DDR_RrCTL r, 12, 8⟩
def DDR_RrCTL_MODE (r : Nat) : Field := ⟨R.DDR_RrCTL r, 5, 4⟩
def DDR_RrCTL_SWEEP (r : Nat) : Field := ⟨R.DDR_RrCTL r, 1, 1⟩
def DDR_RrCTL_EN (r : Nat) : Field := ⟨R.DDR_RrCTL r, 0, 0⟩
def DDR_RrBASE_VALUE (r : Nat) : Field := ⟨R.DDR_RrBASE r, 31, 12⟩
def DDR_RrSIZE_VALUE (r : Nat) : Field := ⟨R.DDR_RrSIZE r, 31, 12⟩
def DDR_RrTAG_BASE (r : Nat) : Field := ⟨R.DDR_RrTAG r, 31, 7⟩
def DDR_RrGEN_GEN (r : Nat) : Field := ⟨R.DDR_RrGEN r, 31, 0⟩
def SEC_STAT_LC : Field := ⟨R.SEC_STAT, 31, 29⟩
def SEC_STAT_STEPS_LEFT : Field := ⟨R.SEC_STAT, 28, 23⟩
def SEC_STAT_REPROV : Field := ⟨R.SEC_STAT, 22, 16⟩
def SEC_STAT_PENDING : Field := ⟨R.SEC_STAT, 15, 15⟩
def SEC_STAT_PEND_TO : Field := ⟨R.SEC_STAT, 14, 12⟩
def SEC_STAT_ROM_CLOSED : Field := ⟨R.SEC_STAT, 11, 11⟩
def SEC_STAT_PRESENT : Field := ⟨R.SEC_STAT, 10, 10⟩
def SEC_STAT_SEAL_OK : Field := ⟨R.SEC_STAT, 9, 9⟩
def SEC_STAT_WINDOW : Field := ⟨R.SEC_STAT, 8, 8⟩
def SEC_STAT_IDK_READY : Field := ⟨R.SEC_STAT, 7, 7⟩
def SEC_STAT_DEBUG : Field := ⟨R.SEC_STAT, 6, 4⟩
def SEC_STAT_LMS_OUT : Field := ⟨R.SEC_STAT, 3, 3⟩
def SEC_FLAGS_TOKEN_FAIL : Field := ⟨R.SEC_FLAGS, 2, 2⟩
def SEC_FLAGS_TAMPER : Field := ⟨R.SEC_FLAGS, 1, 1⟩
def SEC_FLAGS_CMD_OVR : Field := ⟨R.SEC_FLAGS, 0, 0⟩
def SEC_CMD_OP : Field := ⟨R.SEC_CMD, 3, 0⟩
def SEC_CMD_BUF_ADDR : Field := ⟨R.SEC_CMD_BUF, 31, 2⟩
def SEC_CMD_OUT_ADDR : Field := ⟨R.SEC_CMD_OUT, 31, 2⟩
def SEC_CMD_STAT_BUSY : Field := ⟨R.SEC_CMD_STAT, 31, 31⟩
def SEC_CMD_STAT_RESULT : Field := ⟨R.SEC_CMD_STAT, 3, 0⟩
def SEC_UIDi_VALUE (i : Nat) : Field := ⟨R.SEC_UIDi i, 31, 0⟩
def SEC_NONCEi_VALUE (i : Nat) : Field := ⟨R.SEC_NONCEi i, 31, 0⟩
def SEC_BOOT_C : Field := ⟨R.SEC_BOOT, 31, 24⟩
def SEC_BOOT_SVN : Field := ⟨R.SEC_BOOT, 23, 16⟩
def SEC_BOOT_SOURCE : Field := ⟨R.SEC_BOOT, 13, 12⟩
def SEC_BOOT_KEYIDX : Field := ⟨R.SEC_BOOT, 9, 8⟩
def SEC_BOOT_CODE : Field := ⟨R.SEC_BOOT, 3, 0⟩
def SEC_LMS_Q : Field := ⟨R.SEC_LMS, 16, 0⟩
def SEC_PRES_LEFT : Field := ⟨R.SEC_PRES, 7, 0⟩
def SEC_TAMP_CFG_TLOCK : Field := ⟨R.SEC_TAMP_CFG, 8, 8⟩
def SEC_TAMP_CFG_WIPE : Field := ⟨R.SEC_TAMP_CFG, 4, 0⟩
def SEC_TAMP_FLAGS_FIRED : Field := ⟨R.SEC_TAMP_FLAGS, 4, 0⟩
def SEC_TEMP_LIM_HI : Field := ⟨R.SEC_TEMP_LIM, 23, 16⟩
def SEC_TEMP_LIM_LO : Field := ⟨R.SEC_TEMP_LIM, 7, 0⟩
def SEC_M0_i_VALUE (i : Nat) : Field := ⟨R.SEC_M0_i i, 31, 0⟩
def SEC_M1_i_VALUE (i : Nat) : Field := ⟨R.SEC_M1_i i, 31, 0⟩
def ULK_CTL_CAL : Field := ⟨R.ULK_CTL, 8, 8⟩
def ULK_CTL_BCN_RELAY : Field := ⟨R.ULK_CTL, 4, 4⟩
def ULK_CTL_LOOKUP : Field := ⟨R.ULK_CTL, 3, 3⟩
def ULK_CTL_COLLECT : Field := ⟨R.ULK_CTL, 2, 2⟩
def ULK_CTL_REF : Field := ⟨R.ULK_CTL, 1, 1⟩
def ULK_CTL_EN : Field := ⟨R.ULK_CTL, 0, 0⟩
def ULK_STAT_ALIGNED : Field := ⟨R.ULK_STAT, 31, 31⟩
def ULK_STAT_LOAD_WAIT : Field := ⟨R.ULK_STAT, 30, 30⟩
def ULK_STAT_REF_LOCK : Field := ⟨R.ULK_STAT, 29, 29⟩
def ULK_STAT_RING_UP : Field := ⟨R.ULK_STAT, 28, 28⟩
def ULK_STAT_N : Field := ⟨R.ULK_STAT, 21, 16⟩
def ULK_STAT_CID : Field := ⟨R.ULK_STAT, 12, 8⟩
def ULK_STAT_MASTER : Field := ⟨R.ULK_STAT, 0, 0⟩
def ULK_FLAGS_LKUP_TO : Field := ⟨R.ULK_FLAGS, 5, 5⟩
def ULK_FLAGS_ORDER_ERR : Field := ⟨R.ULK_FLAGS, 4, 4⟩
def ULK_FLAGS_CAL_FAIL : Field := ⟨R.ULK_FLAGS, 3, 3⟩
def ULK_FLAGS_SEQ_GAP : Field := ⟨R.ULK_FLAGS, 2, 2⟩
def ULK_FLAGS_CRC_ERR : Field := ⟨R.ULK_FLAGS, 1, 1⟩
def ULK_FLAGS_RING_FAULT : Field := ⟨R.ULK_FLAGS, 0, 0⟩
def ULK_RTT_R : Field := ⟨R.ULK_RTT, 31, 0⟩
def ULK_TRIM_TRIM : Field := ⟨R.ULK_TRIM, 15, 0⟩
def ULK_TERR_E : Field := ⟨R.ULK_TERR, 31, 0⟩
def ULK_ERRCNT_VIOL : Field := ⟨R.ULK_ERRCNT, 31, 16⟩
def ULK_ERRCNT_PKT : Field := ⟨R.ULK_ERRCNT, 15, 0⟩
def ULK_LKUP_ADDR_ADDR : Field := ⟨R.ULK_LKUP_ADDR, 31, 0⟩
def ULK_LKUP_STAT_BUSY : Field := ⟨R.ULK_LKUP_STAT, 31, 31⟩
def ULK_LKUP_STAT_FOUND : Field := ⟨R.ULK_LKUP_STAT, 30, 30⟩
def ULK_LKUP_STAT_TIMEOUT : Field := ⟨R.ULK_LKUP_STAT, 29, 29⟩
def ULK_LKUP_STAT_OWNER : Field := ⟨R.ULK_LKUP_STAT, 4, 0⟩
def ULK_MEMBERk_BCN_EN (k : Nat) : Field := ⟨R.ULK_MEMBERk k, 24, 24⟩
def ULK_MEMBERk_KEYSLOT (k : Nat) : Field := ⟨R.ULK_MEMBERk k, 23, 16⟩
def ULK_MEMBERk_DOMAIN (k : Nat) : Field := ⟨R.ULK_MEMBERk k, 13, 0⟩
def AGE_CTL_PERIOD_H : Field := ⟨R.AGE_CTL, 23, 16⟩
def AGE_CTL_REBASE : Field := ⟨R.AGE_CTL, 3, 3⟩
def AGE_CTL_LB_EN : Field := ⟨R.AGE_CTL, 2, 2⟩
def AGE_CTL_RUN : Field := ⟨R.AGE_CTL, 1, 1⟩
def AGE_CTL_EN : Field := ⟨R.AGE_CTL, 0, 0⟩
def AGE_STAT_BUSY : Field := ⟨R.AGE_STAT, 31, 31⟩
def AGE_STAT_LAST : Field := ⟨R.AGE_STAT, 16, 16⟩
def AGE_STAT_RUN : Field := ⟨R.AGE_STAT, 15, 0⟩
def AGE_FLAGS_PPS_REJ : Field := ⟨R.AGE_FLAGS, 3, 3⟩
def AGE_FLAGS_RUN_OVR : Field := ⟨R.AGE_FLAGS, 2, 2⟩
def AGE_FLAGS_TBL_ERR : Field := ⟨R.AGE_FLAGS, 1, 1⟩
def AGE_FLAGS_ALERT : Field := ⟨R.AGE_FLAGS, 0, 0⟩
def AGE_TBL_ADDR_ADDR : Field := ⟨R.AGE_TBL_ADDR, 31, 9⟩
def AGE_VID_STEP_US : Field := ⟨R.AGE_VID, 23, 16⟩
def AGE_VID_CUR : Field := ⟨R.AGE_VID, 11, 8⟩
def AGE_VID_CODE : Field := ⟨R.AGE_VID, 3, 0⟩
def AGE_VIDCFG_SLOPE : Field := ⟨R.AGE_VIDCFG, 31, 16⟩
def AGE_VIDCFG_BASE : Field := ⟨R.AGE_VIDCFG, 3, 0⟩
def AGE_XTAL_SRC : Field := ⟨R.AGE_XTAL, 1, 0⟩
def AGE_GCFG_DMAX_S : Field := ⟨R.AGE_GCFG, 23, 0⟩
def AGE_LIM_MRAM_GUARD : Field := ⟨R.AGE_LIM, 27, 24⟩
def AGE_LIM_MRAM_MIN : Field := ⟨R.AGE_LIM, 23, 16⟩
def AGE_LIM_RO_PPM : Field := ⟨R.AGE_LIM, 15, 0⟩
def AGE_XOFS_XOFS : Field := ⟨R.AGE_XOFS, 31, 0⟩
def UARTn_CTL_TXFLUSH (n : Nat) : Field := ⟨R.UARTn_CTL n, 9, 9⟩
def UARTn_CTL_RXFLUSH (n : Nat) : Field := ⟨R.UARTn_CTL n, 8, 8⟩
def UARTn_CTL_WAKE_EN (n : Nat) : Field := ⟨R.UARTn_CTL n, 6, 6⟩
def UARTn_CTL_SIR_POL (n : Nat) : Field := ⟨R.UARTn_CTL n, 5, 5⟩
def UARTn_CTL_SIR (n : Nat) : Field := ⟨R.UARTn_CTL n, 4, 4⟩
def UARTn_CTL_AFC (n : Nat) : Field := ⟨R.UARTn_CTL n, 3, 3⟩
def UARTn_CTL_TXEN (n : Nat) : Field := ⟨R.UARTn_CTL n, 2, 2⟩
def UARTn_CTL_RXEN (n : Nat) : Field := ⟨R.UARTn_CTL n, 1, 1⟩
def UARTn_CTL_EN (n : Nat) : Field := ⟨R.UARTn_CTL n, 0, 0⟩
def UARTn_STAT_RXD (n : Nat) : Field := ⟨R.UARTn_STAT n, 21, 21⟩
def UARTn_STAT_STUCK (n : Nat) : Field := ⟨R.UARTn_STAT n, 20, 20⟩
def UARTn_STAT_CTS (n : Nat) : Field := ⟨R.UARTn_STAT n, 19, 19⟩
def UARTn_STAT_RTS (n : Nat) : Field := ⟨R.UARTn_STAT n, 18, 18⟩
def UARTn_STAT_RX_BUSY (n : Nat) : Field := ⟨R.UARTn_STAT n, 17, 17⟩
def UARTn_STAT_TX_BUSY (n : Nat) : Field := ⟨R.UARTn_STAT n, 16, 16⟩
def UARTn_STAT_TXLVL (n : Nat) : Field := ⟨R.UARTn_STAT n, 14, 8⟩
def UARTn_STAT_RXLVL (n : Nat) : Field := ⟨R.UARTn_STAT n, 6, 0⟩
def UARTn_FLAGS_CFG_ERR (n : Nat) : Field := ⟨R.UARTn_FLAGS n, 7, 7⟩
def UARTn_FLAGS_TX_OVR (n : Nat) : Field := ⟨R.UARTn_FLAGS n, 6, 6⟩
def UARTn_FLAGS_LINE_STUCK (n : Nat) : Field := ⟨R.UARTn_FLAGS n, 5, 5⟩
def UARTn_FLAGS_BREAK (n : Nat) : Field := ⟨R.UARTn_FLAGS n, 4, 4⟩
def UARTn_FLAGS_OVR (n : Nat) : Field := ⟨R.UARTn_FLAGS n, 3, 3⟩
def UARTn_FLAGS_NOISE (n : Nat) : Field := ⟨R.UARTn_FLAGS n, 2, 2⟩
def UARTn_FLAGS_FE (n : Nat) : Field := ⟨R.UARTn_FLAGS n, 1, 1⟩
def UARTn_FLAGS_PE (n : Nat) : Field := ⟨R.UARTn_FLAGS n, 0, 0⟩
def UARTn_DIV_DIV (n : Nat) : Field := ⟨R.UARTn_DIV n, 19, 0⟩
def UARTn_FMT_STOP (n : Nat) : Field := ⟨R.UARTn_FMT n, 3, 3⟩
def UARTn_FMT_PAR (n : Nat) : Field := ⟨R.UARTn_FMT n, 2, 1⟩
def UARTn_FMT_DBITS (n : Nat) : Field := ⟨R.UARTn_FMT n, 0, 0⟩
def UARTn_DATA_EMPTY (n : Nat) : Field := ⟨R.UARTn_DATA n, 31, 31⟩
def UARTn_DATA_BRK (n : Nat) : Field := ⟨R.UARTn_DATA n, 11, 11⟩
def UARTn_DATA_NOISE (n : Nat) : Field := ⟨R.UARTn_DATA n, 10, 10⟩
def UARTn_DATA_FE (n : Nat) : Field := ⟨R.UARTn_DATA n, 9, 9⟩
def UARTn_DATA_PE (n : Nat) : Field := ⟨R.UARTn_DATA n, 8, 8⟩
def UARTn_DATA_D (n : Nat) : Field := ⟨R.UARTn_DATA n, 7, 0⟩
def UARTn_FIFO_CTL_BREAK_LIMIT (n : Nat) : Field := ⟨R.UARTn_FIFO_CTL n, 31, 24⟩
def UARTn_FIFO_CTL_RTS_HI (n : Nat) : Field := ⟨R.UARTn_FIFO_CTL n, 22, 16⟩
def UARTn_FIFO_CTL_RTS_LO (n : Nat) : Field := ⟨R.UARTn_FIFO_CTL n, 13, 8⟩
def UARTn_FIFO_CTL_RX_TRIG (n : Nat) : Field := ⟨R.UARTn_FIFO_CTL n, 6, 0⟩
def HIF_CTL_DMA_EN : Field := ⟨R.HIF_CTL, 0, 0⟩
def HIF_STAT_HOSTSEL : Field := ⟨R.HIF_STAT, 31, 31⟩
def HIF_STAT_LINK_UP : Field := ⟨R.HIF_STAT, 30, 30⟩
def HIF_STAT_SPEED : Field := ⟨R.HIF_STAT, 29, 28⟩
def HIF_STAT_WIDTH : Field := ⟨R.HIF_STAT, 27, 26⟩
def HIF_FLAGS_CFG_ERR : Field := ⟨R.HIF_FLAGS, 4, 4⟩
def HIF_FLAGS_HTAG_FAIL : Field := ⟨R.HIF_FLAGS, 3, 3⟩
def HIF_FLAGS_SPI_ERR : Field := ⟨R.HIF_FLAGS, 2, 2⟩
def HIF_FLAGS_DMA_ERR : Field := ⟨R.HIF_FLAGS, 1, 1⟩
def HIF_FLAGS_BAD_ACC : Field := ⟨R.HIF_FLAGS, 0, 0⟩
def HIF_ID_DEVICE : Field := ⟨R.HIF_ID, 31, 16⟩
def HIF_ID_REV : Field := ⟨R.HIF_ID, 15, 8⟩
def HIF_ISR_CAUSE : Field := ⟨R.HIF_ISR, 10, 0⟩
def HIF_IER_EN : Field := ⟨R.HIF_IER, 10, 0⟩
def HIF_BOOT_GO : Field := ⟨R.HIF_BOOT, 8, 8⟩
def HIF_BOOT_DONE : Field := ⟨R.HIF_BOOT, 2, 2⟩
def HIF_BOOT_BUSY : Field := ⟨R.HIF_BOOT, 1, 1⟩
def HIF_BOOT_READY : Field := ⟨R.HIF_BOOT, 0, 0⟩
def HIF_BOOT_LEN_LEN : Field := ⟨R.HIF_BOOT_LEN, 20, 0⟩
def HIF_IRQc_USEC (c : Nat) : Field := ⟨R.HIF_IRQc c, 31, 16⟩
def HIF_IRQc_CNT (c : Nat) : Field := ⟨R.HIF_IRQc c, 15, 8⟩
def HIF_IRQc_VEC (c : Nat) : Field := ⟨R.HIF_IRQc c, 4, 0⟩
def HIF_RINGr_CFG_KEYSLOT (r : Nat) : Field := ⟨R.HIF_RINGr_CFG r, 23, 16⟩
def HIF_RINGr_CFG_BUF_LOG2 (r : Nat) : Field := ⟨R.HIF_RINGr_CFG r, 15, 12⟩
def HIF_RINGr_CFG_LOG2 (r : Nat) : Field := ⟨R.HIF_RINGr_CFG r, 11, 8⟩
def HIF_RINGr_CFG_SECURE (r : Nat) : Field := ⟨R.HIF_RINGr_CFG r, 1, 1⟩
def HIF_RINGr_CFG_EN (r : Nat) : Field := ⟨R.HIF_RINGr_CFG r, 0, 0⟩
def HIF_RINGr_BASE_LO_ADDR (r : Nat) : Field := ⟨R.HIF_RINGr_BASE_LO r, 31, 0⟩
def HIF_RINGr_BASE_HI_BASE (r : Nat) : Field := ⟨R.HIF_RINGr_BASE_HI r, 31, 0⟩
def HIF_RINGr_WB_LO_ADDR (r : Nat) : Field := ⟨R.HIF_RINGr_WB_LO r, 31, 0⟩
def HIF_RINGr_WB_HI_WB (r : Nat) : Field := ⟨R.HIF_RINGr_WB_HI r, 31, 0⟩
def HIF_RINGr_HEAD_COUNT (r : Nat) : Field := ⟨R.HIF_RINGr_HEAD r, 15, 0⟩
def HIF_RINGr_TAIL_COUNT (r : Nat) : Field := ⟨R.HIF_RINGr_TAIL r, 15, 0⟩
def HIF_RINGr_AUX_COUNT (r : Nat) : Field := ⟨R.HIF_RINGr_AUX r, 15, 0⟩
def HIF_RINGr_FILT_COPY (r : Nat) : Field := ⟨R.HIF_RINGr_FILT r, 25, 25⟩
def HIF_RINGr_FILT_LOCAL (r : Nat) : Field := ⟨R.HIF_RINGr_FILT r, 24, 24⟩
def HIF_RINGr_FILT_PORT (r : Nat) : Field := ⟨R.HIF_RINGr_FILT r, 21, 16⟩
def HIF_RINGr_FILT_MC (r : Nat) : Field := ⟨R.HIF_RINGr_FILT r, 14, 8⟩
def HIF_RINGr_FILT_FT (r : Nat) : Field := ⟨R.HIF_RINGr_FILT r, 5, 0⟩
def HIF_RINGr_STAT_ERR (r : Nat) : Field := ⟨R.HIF_RINGr_STAT r, 1, 1⟩
def HIF_RINGr_STAT_IDLE (r : Nat) : Field := ⟨R.HIF_RINGr_STAT r, 0, 0⟩
def SYS_MODE_REQ_MODE : Field := ⟨R.SYS_MODE_REQ, 3, 0⟩
def SYS_MODE_STAT_PENDING : Field := ⟨R.SYS_MODE_STAT, 8, 8⟩
def SYS_MODE_STAT_PEND_MODE : Field := ⟨R.SYS_MODE_STAT, 7, 4⟩
def SYS_MODE_STAT_MODE : Field := ⟨R.SYS_MODE_STAT, 3, 0⟩
def SYS_FLAGS_MAINS : Field := ⟨R.SYS_FLAGS, 2, 2⟩
def SYS_FLAGS_PLL_UNLOCK : Field := ⟨R.SYS_FLAGS, 1, 1⟩
def SYS_FLAGS_REF_LOST : Field := ⟨R.SYS_FLAGS, 0, 0⟩
def SYS_STAT_CID : Field := ⟨R.SYS_STAT, 20, 16⟩
def SYS_STAT_HOSTSEL : Field := ⟨R.SYS_STAT, 12, 12⟩
def SYS_STAT_BOOT_SRC : Field := ⟨R.SYS_STAT, 9, 8⟩
def SYS_STAT_MAINS_OK : Field := ⟨R.SYS_STAT, 4, 4⟩
def SYS_STAT_REF_OK : Field := ⟨R.SYS_STAT, 3, 3⟩
def SYS_STAT_LOCK : Field := ⟨R.SYS_STAT, 2, 0⟩
def SYS_START_MAINS_HELD : Field := ⟨R.SYS_START, 16, 16⟩
def SYS_START_WAKE : Field := ⟨R.SYS_START, 13, 8⟩
def SYS_START_KIND : Field := ⟨R.SYS_START, 1, 0⟩
def SYS_RST_CTL_KEY : Field := ⟨R.SYS_RST_CTL, 15, 8⟩
def SYS_RST_CTL_SYSRST : Field := ⟨R.SYS_RST_CTL, 0, 0⟩
def SYS_MAINS_CTL_LG_EN : Field := ⟨R.SYS_MAINS_CTL, 31, 31⟩
def SYS_MAINS_CTL_LG_MC : Field := ⟨R.SYS_MAINS_CTL, 30, 28⟩
def SYS_MAINS_CTL_LG_PORT : Field := ⟨R.SYS_MAINS_CTL, 26, 24⟩
def SYS_MAINS_CTL_RET_MS : Field := ⟨R.SYS_MAINS_CTL, 23, 16⟩
def SYS_MAINS_CTL_FILT : Field := ⟨R.SYS_MAINS_CTL, 15, 8⟩
def SYS_MAINS_CTL_ZC_LASTGASP : Field := ⟨R.SYS_MAINS_CTL, 0, 0⟩
def SYS_DORM_CTL_RAIL : Field := ⟨R.SYS_DORM_CTL, 23, 16⟩
def SYS_DORM_CTL_WAKE_EN : Field := ⟨R.SYS_DORM_CTL, 5, 2⟩
def SYS_DORM_CTL_UART_WAKE : Field := ⟨R.SYS_DORM_CTL, 1, 0⟩
def SYS_CLK_CTL_CORE_SSC : Field := ⟨R.SYS_CLK_CTL, 0, 0⟩
def SYS_PAD_CTL_FAST0 : Field := ⟨R.SYS_PAD_CTL, 2, 2⟩
def SYS_PAD_CTL_FAST1 : Field := ⟨R.SYS_PAD_CTL, 6, 6⟩
def SYS_PAD_CTL_FAST2 : Field := ⟨R.SYS_PAD_CTL, 10, 10⟩
def SYS_PAD_CTL_FAST3 : Field := ⟨R.SYS_PAD_CTL, 14, 14⟩
def SYS_PAD_CTL_DRV0 : Field := ⟨R.SYS_PAD_CTL, 1, 0⟩
def SYS_PAD_CTL_DRV1 : Field := ⟨R.SYS_PAD_CTL, 5, 4⟩
def SYS_PAD_CTL_DRV2 : Field := ⟨R.SYS_PAD_CTL, 9, 8⟩
def SYS_PAD_CTL_DRV3 : Field := ⟨R.SYS_PAD_CTL, 13, 12⟩
def TMR_TIME_LO_TIME : Field := ⟨R.TMR_TIME_LO, 31, 0⟩
def TMR_TIME_HI_TIME : Field := ⟨R.TMR_TIME_HI, 31, 0⟩
def TMR_WAKE_LO_WAKE : Field := ⟨R.TMR_WAKE_LO, 31, 0⟩
def TMR_WAKE_HI_WAKE : Field := ⟨R.TMR_WAKE_HI, 31, 0⟩
def TMR_DORM_TICKS : Field := ⟨R.TMR_DORM, 31, 0⟩

end Sys2Proof.Machine.F
end

