-- ==== Sys2Proof/Machine/Sparse.lean ====
section
/-! DEFINITION. Sparse maps as plain data: a list of (key, value) pairs with keys strictly rising and no entry equal to what an
unlisted key reads as. Registers, memory and the numbered tables of State are held this way, so that equal contents are equal data. -/

namespace Sys2Proof.Machine

variable {α : Type}

/-- The value at key `k`; an unlisted key reads as `d k`. -/
def sget (d : Nat → α) : List (Nat × α) → Nat → α
  | [], k => d k
  | (j, v) :: m, k => if j = k then v else sget d m k

/-- Put `v` at key `k` in a list with rising keys, with no thought of the default. -/
def sput : List (Nat × α) → Nat → α → List (Nat × α)
  | [], k, v => [(k, v)]
  | (j, w) :: m, k, v =>
    if k < j then (k, v) :: (j, w) :: m
    else if k = j then (k, v) :: m
    else (j, w) :: sput m k v

/-- Remove key `k`. -/
def sdel : List (Nat × α) → Nat → List (Nat × α)
  | [], _ => []
  | (j, w) :: m, k => if j = k then sdel m k else (j, w) :: sdel m k

/-- Write `v` at key `k`; writing what an unlisted key reads as removes the entry. -/
def sset [DecidableEq α] (d : Nat → α) (m : List (Nat × α)) (k : Nat) (v : α) : List (Nat × α) :=
  if v = d k then sdel m k else sput m k v

/-- Every listed key is above `lo`, keys rise strictly. -/
def srising : Option Nat → List (Nat × α) → Bool
  | _, [] => true
  | none, (j, _) :: m => srising (some j) m
  | some lo, (j, _) :: m => decide (lo < j) && srising (some j) m

/-- The canonical form: keys strictly rising, no entry equal to its default. -/
def swf [DecidableEq α] (d : Nat → α) (m : List (Nat × α)) : Bool :=
  srising none m && m.all fun p => decide (p.2 ≠ d p.1)

/-- The entry at key `k` of a keyed table, if it is there. -/
def kget? : List (Nat × α) → Nat → Option α
  | [], _ => none
  | (j, v) :: m, k => if j = k then some v else kget? m k

/-- Change the entry at key `k` of a keyed table, if it is there. -/
def kmod : List (Nat × α) → Nat → (α → α) → List (Nat × α)
  | [], _, _ => []
  | (j, v) :: m, k, f => if j = k then (j, f v) :: m else (j, v) :: kmod m k f

/-- The list with its element `i` changed; unchanged past its end. -/
def lmod : List α → Nat → (α → α) → List α
  | [], _, _ => []
  | x :: xs, 0, f => f x :: xs
  | x :: xs, i + 1, f => x :: lmod xs i f

end Sys2Proof.Machine
end

