-- ==== Sys2Proof/Machine/State.lean ====
section
/-! DEFINITION. The state of the device: every register, memory, queue, counter, mode and pin the spec names, as plain data, and the
machine right after power-on reset. -/

namespace Sys2Proof.Machine

/-- Reasons a step could stop with a fault. No command of this device stops it: a core fault (R366) HALTS one core and the
device goes on. Nothing raises this one; it is safe. -/
inductive Fault where
  | stopped
deriving DecidableEq, Repr

/-- Reasons a command is refused by the model. -/
inductive Refusal where
  /-- The command's meaning is not modelled; raised by `exec`'s arms only. Safe: nothing is claimed of it. -/
  | notModelled (mnemonic : String)
deriving DecidableEq, Repr

/-! ### Events (chapter 13) -/

/-- A raised event: the fields of R374 but SEQ, the number of the cycle that raised it, and the cores it is directed to (R378), if it is. -/
structure Event where
  code   : BitVec 12
  src    : Byte
  aux    : Byte
  ctx    : Word
  stamp  : BitVec 48
  raised : Nat
  direct : Option (BitVec 8)
deriving DecidableEq, Repr

/-- A record in a queue (R374), with the time of its arrival there. -/
structure Record where
  ev  : Event
  seq : BitVec 16
  at_ : Time
deriving DecidableEq, Repr

/-- The event collector: events held at their sources in raise order, the staging buffer (R379), the cores' queues (R380)
and the SEQ counts of the eight queues and the host ring. -/
structure Collector where
  held    : List Event
  staged  : List Event
  queues  : Vector (List Record) 8
  seqs    : Vector (BitVec 16) 8
  hostSeq : BitVec 16
  hostErr : Bool
deriving DecidableEq, Repr

/-! ### Orrery cores (chapter 12) -/

/-- A store waiting in a core's store buffer (R362). -/
structure BufStore where
  addr : Word
  size : Nat
  data : Word
deriving DecidableEq, Repr

/-- What a WAITING core waits for (R350, R351, R355). -/
inductive CoreWait where
  | time (t : Time) (onEvent : Bool) (rd : GReg)
  | event (rd : GReg)
  | lock (addr : Word) (rd : GReg)
deriving DecidableEq, Repr

/-- A load that has left the core and not yet returned (R343). -/
structure PendLoad where
  addr   : Word
  size   : Nat
  signed : Bool
  rd     : GReg
deriving DecidableEq, Repr

/-- The states of R368. -/
inductive CoreRun where
  | stopped
  | running
  | waiting (w : CoreWait)
  | halted
deriving DecidableEq, Repr

/-- A stall lock a core holds, and since when (R355, R358). -/
structure StallLock where
  stall : BitVec 12
  addr  : Word
  since : Time
deriving DecidableEq, Repr

/-- An orrery core: its state, general registers, pc, special registers (R349), with CYCLE as last read and when, and when WDOG was
last written, store buffer, load in flight, locks, and whether it
is to stop after its current instruction (R369, R442). -/
structure Core where
  run      : CoreRun
  g        : Vector Word 32
  pc       : Word
  timeHi   : Word
  evmask   : Word
  cycle    : Nat
  cycleAt  : Time
  instret  : Word
  wdog     : Word
  wdogAt   : Time
  lsres    : Word
  storeBuf : List BufStore
  load     : Option PendLoad
  locks    : List StallLock
  stepping : Bool
deriving DecidableEq, Repr

/-- The CORE cycle under way: its number, the register bits that hardware has set in it (R12), the tally increments made in it (R384), the
record the collector wrote in it with the cores whose queues it went to and the QOVF bits before it (R381), and the cores stopped by OCC_CTL in
it and those started, as they and their OCC_CAUSE stood (R365). [DEDUCED, log 5] -/
structure Cycle where
  no      : Nat
  flags   : List (Nat × Word)
  counts  : List (Nat × Nat)
  record  : Option Event
  went    : BitVec 8
  qovf    : BitVec 8
  stopped : BitVec 8
  started : List (CoreId × Core × Word)
deriving DecidableEq, Repr

/-! ### Memories (chapter 14) -/

/-- The units whose records lie in MRAM (R400): repairs, LPDDR4X training, security, the tamper log, the outage record and the margin table. -/
inductive RecordOf where
  | repair | training | security | tamper | outage | margin
deriving DecidableEq, Repr

/-- Who issued an MRAM word write, and so what its completion does (R401, R402): a core's store; step 1 of the commits of some receptions (R25,
R204); a ceiling that a transmission raises (R290); the key record of a load (R316); a ledger table; a ledger command (R293); a unit's record; or a scrub. -/
inductive MramWriter where
  | core (k : CoreId)
  | commit (ids : List Rxid)
  | ceil (id : Nat)
  | key
  | table
  | command
  | record (u : RecordOf)
  | scrub
deriving DecidableEq, Repr

/-- An MRAM word write not yet complete: `started` is false while R401 or a freeze holds it. -/
structure MramWrite where
  addr    : Word
  bytes   : List (Nat × Byte)
  writer  : MramWriter
  started : Bool
deriving DecidableEq, Repr

/-- A march run in progress (R397). -/
structure MarchRun where
  destructive : Bool
  group       : Nat
  mask        : BitVec 8
deriving DecidableEq, Repr

/-- A range of external memory that was zero-filled by enabling or sweeping a GCM region: its unwritten lines and tags still
hold the encryption of zeros under version 0 (R407, R408). [DEDUCED, log 30] -/
structure Fill where
  region  : Nat
  key     : List Byte
  gen     : Word
  base    : Nat
  size    : Nat
  tagBase : Nat
deriving DecidableEq, Repr

/-- A write to a word of the dual-port banks (R388): port A or B, the word's number, and the bytes enabled, `n` from address `lo`,
with the word's bytes before the write (R389). [DESIGN CHOICE, log 59] -/
structure DualWrite where
  portA : Bool
  word  : Nat
  lo    : Nat
  n     : Nat
  old   : List Byte
deriving DecidableEq, Repr

/-- The memory units: waiting MRAM writes, last write instant per MRAM word, spare words used per macro, the march run, the
causes of a secure-partition wipe in progress, the DDR regions sweeping, and the writes to the dual-port banks at the instant `dualAt`, the
latest first. -/
structure MemUnit where
  mramPend : List MramWrite
  mramLast : List (Nat × Time)
  spares   : List (Nat × Nat)
  march    : Option MarchRun
  wipe     : Option (BitVec 2)
  ddrFill  : List (Fin 8)
  ddrSweep : List (Fin 8)
  dualAt   : Time
  dual     : List DualWrite
deriving DecidableEq, Repr

/-! ### Key store and cipher engine (chapter 10), check values (chapter 11) -/

/-- A key in a slot (R312, R313). `gen` numbers the installation, so that an operation bound before a rewrite is known to hold
the retiring copy (R320). -/
structure KeySlot where
  policy : Nat
  alg    : Nat
  enc    : Bool
  dec    : Bool
  kver   : BitVec 16
  key    : List Byte
  txfc   : Nat
  ceil   : Nat
  gen    : Nat
deriving DecidableEq, Repr

/-- A key bound by an operation (R319): slot, installation and bytes. -/
structure Bound where
  slot : Nat
  gen  : Nat
  key  : List Byte
deriving DecidableEq, Repr

/-- A cipher job in the queue (R304): its core, the address of its descriptor and the bytes read there, none on a bus error, and the key it bound;
`none` where its descriptor names no usable key. -/
structure CipherJob where
  core  : CoreId
  desc  : Word
  words : Option (List Byte)
  bound : Option Bound
  erased : Bool
deriving DecidableEq, Repr

/-- The key-encryption keys (R307). -/
structure Keks where
  line : List Byte
  mem  : List Byte
  host : List Byte
  slot : List Byte
deriving DecidableEq, Repr

/-- The key store and cipher engine. `nextGen` numbers installations; `reads` counts KEY_RAND reads since a reseed (R310);
`cmd` is the slot and result of the command running, if one is, and `loading` the key whose record it is writing. -/
structure KeyStore where
  keks    : Option Keks
  named   : List (Nat × KeySlot)
  nextGen : Nat
  reads   : Nat
  jobs    : List (Nat × CipherJob)
  nextJob : Nat
  cmd     : Option (Nat × Nat)
  loading : Option (Nat × KeySlot)
deriving DecidableEq, Repr

/-- The snoop of one general CRC context: armed or within its frame or transfer (R333). -/
inductive Snoop where
  | idle
  | armed
  | rx (rxid : Rxid)
  | tx (op : Nat)
deriving DecidableEq, Repr

/-! ### Security (chapter 15) -/

/-- The two grades of the part (R570). [DESIGN CHOICE, log 61] -/
inductive Grade where
  | i
  | e
deriving DecidableEq, Repr

/-- An OTP bit that the device programs in service (R414). -/
inductive OtpBit where
  | lcStep (i : Nat)
  | lcEnded
  | rollback (i : Nat)
  | revoke (k : Fin 4)
deriving DecidableEq, Repr

/-- The OTP fields of R414; a thermometer field is its count. `weak` are the bits that read 1 at normal margin but 0 at the programming margin
(R415). -/
structure Otp where
  uid          : List Byte
  kOtp         : List Byte
  pufHelper    : List Byte
  lcSteps      : Nat
  lcEnded      : Bool
  rollback     : Nat
  imgKeyHash   : Vector (List Byte) 4
  revoke       : BitVec 4
  tokenKeyHash : List Byte
  marchPolicy  : BitVec 2
  tamperPolicy : BitVec 5
  sealFitted   : Bool
  optLock      : Bool
  weak         : List OtpBit
deriving DecidableEq, Repr

/-- The life-cycle states, coded as SEC_STAT.LC (R416). -/
inductive LifeCycle where
  | maker | provisioned | deployed | returned | ended
deriving DecidableEq, Repr

/-- A staged transition (R418): source and target states, the device it names, and the token staged with it. -/
structure Pending where
  source : LifeCycle
  target : LifeCycle
  uid    : List Byte
  token  : List Byte
deriving DecidableEq, Repr

/-- A tamper-log entry (R441). -/
structure TamperEntry where
  stamp    : BitVec 48
  source   : Byte
  response : Byte
  mode     : Byte
deriving DecidableEq, Repr

/-- The command of R444 that is running: its result; what it stages or clears once its record is written (R418); the OTP bits it programs; the
report it releases, with its address, once its leaf's write has verified (R427); and whether a word it writes has failed. -/
structure SecCmd where
  result : Nat
  stage  : Option (Option Pending)
  burn   : List OtpBit
  report : Option (Nat × List Byte)
  failed : Bool
deriving DecidableEq, Repr

/-- The security block: nonce (R431), open scopes and whether any was opened (R442), the end of the presence window (R435), the
seal loop (R437), whether the PUF was reconstructed (R421), identity key and LMS tree (R425), measurement M1, the staged transition, tamper
entries held by a freeze (R544) and written, the tamper quantities outside their limits, the boot image's TEST flag, the command
running, and the transition record that the last start-up has set about clearing (R419). -/
structure Sec where
  nonce       : Option (List Byte)
  scopes      : BitVec 3
  opened      : Bool
  windowEnd   : Option Time
  sealOk      : Bool
  sealMiss    : Nat
  sealHit     : Nat
  pufOk       : Bool
  idk         : Option (List Byte)
  lms         : Option (List Byte × List Byte)
  staged      : Option Pending
  heldLog     : List TamperEntry
  logCount    : Nat
  away        : List TamperPart
  romClosed   : Bool
  testImage   : Bool
  cmd         : Option SecCmd
  testMode    : Bool
  sealLatched : Option Time
  cleared     : Option Pending
deriving DecidableEq, Repr

/-! ### Modes, power, clocks and start-up (chapters 1 and 20) -/

/-- Where the device stands between reset and running (R530, R532, R537). -/
inductive Phase where
  | reset
  | railSettle
  | starting
  | running
deriving DecidableEq, Repr

/-- What began the start-up, coded as SYS_START.KIND. -/
inductive StartKind where
  | powerOn | system | wake
deriving DecidableEq, Repr

/-- The outage under way (R41, R535): instants, cause, mode, counts and frame result for the outage record. -/
structure Outage where
  tLoss    : BitVec 48
  zcCause  : Bool
  oldMode  : Mode
  bsn      : BitVec 16
  sfStart  : Time
  squashed : Nat
  result   : Byte
  entry    : Time
  flushed  : Bool
deriving DecidableEq, Repr

/-- Modes, start-up (the mode a reset left, whether the first-stage image has started, the mains edges held, each with a loss's cause
or a return (R532, R534), and the commands the boot ROM has sent to the flash (R553)), supplies and clocks, and the
TMR_WAKE_HI word held until TMR_WAKE_LO is written (R540); when RAIL_EN rose at the wake, and since when MAINS_OK_N is deasserted (R537). -/
structure Sys where
  mode        : Mode
  pend        : Option Mode
  phase       : Phase
  kind        : StartKind
  prior       : Mode
  booted      : Bool
  wake        : BitVec 6
  straps      : Straps
  heldEdges   : List (Option Bool)
  qspi        : List (List Byte)
  railEn      : Bool
  mramFrozen  : Bool
  onAo        : Bool
  dormReq     : Bool
  outage      : Option Outage
  wakeHi      : Word
  railAt      : Time
  returnAt    : Option Time
deriving DecidableEq, Repr

/-! ### Serial ports (chapter 18) -/

/-- The line settings a direction of a UART runs under: DIV, FMT and the SIR bits (R491). -/
structure UartLine where
  div : BitVec 20
  fmt : BitVec 4
  sir : BitVec 2
deriving DecidableEq, Repr

/-- A UART: receive FIFO entries as UARTn_DATA bits 11:0, transmit FIFO, shifter, settings in force in each direction, STUCK, the
latches of R487, the levels of RXD, CTS_N and RTS_N, the wake disarm (R489), settings no longer in force with the instant each ended (R491),
the last start edge (R487), the start edge of a break that has not ended (R489), when the character in the shifter started and its levels on
TXD by sample ticks (R482, R492), and the end of the last character sent in SIR mode (R492). -/
structure Uart where
  rx        : List (BitVec 12)
  tx        : List Byte
  shifter   : Option Byte
  rxLine    : UartLine
  txLine    : UartLine
  stuck     : Bool
  trigHeld  : Bool
  idleHeld  : Bool
  emptied   : Bool
  rxd       : Bool
  ctsN      : Bool
  rtsN      : Bool
  disarmed  : Bool
  was       : List (Time × UartLine)
  edgeAt    : Time
  lowAt     : Option Time
  txAt      : Time
  wave      : List Bool
  sirEnd    : Option Time
deriving DecidableEq, Repr

/-! ### Ageing (chapter 17) -/

/-- What a run finds against its baseline block (R475). -/
structure Drift where
  ro  : List Nat
  adc : List (Option Int)
  rx  : List (Option Int)
  tx  : List (Option Int)
deriving DecidableEq, Repr

/-- What a run has yet to show and raise once its table stands written (R474). -/
structure AgeClose where
  mramM : Nat
  drift : Drift
  xofs  : Option Int
  xword : Word
  table : Word
  slot  : Nat
  run   : Nat
deriving DecidableEq, Repr

/-- The ageing block: start of the last run and of the run in progress, what waits for that run's table, the PPS edges (R472), and each port's
transmit gain captured since the last run (R470), when the periodic run due at DORMANT entry was due and the instant it is held to after
start-up (R473), and the start of the present VID step (R479). -/
structure Age where
  lastStart : Option Time
  running   : Option Time
  closing   : Option AgeClose
  ppsLast   : Option Time
  ppsCount  : Nat
  ppsSum    : Nat
  txGain    : Vector (Option Int) 6
  sleepDue  : Option Time
  hold      : Option Time
  vidAt     : Time
deriving DecidableEq, Repr

/-! ### Ulir ring (chapter 16) -/

/-- A Ulir packet handed to the transmit lane (R449). -/
structure Packet where
  type    : BitVec 4
  dst     : BitVec 5
  src     : BitVec 5
  seq     : Byte
  tag     : BitVec 16
  payload : List Byte
deriving DecidableEq, Repr

/-- A packet that waits for the transmit lane to be idle (R451). -/
structure Waiting where
  type    : BitVec 4
  dst     : BitVec 5
  tag     : BitVec 16
  payload : List Byte
deriving DecidableEq, Repr

/-- A lookup query outstanding (R461): for a reception's page-in, or for firmware (R462). -/
structure Query where
  tag   : Byte
  addr  : Word
  rxid  : Option Rxid
  since : Time
deriving DecidableEq, Repr

/-- A cut-through copy open at the master (R463): sender, its RXID, the master's ring (none where none took it), the copy header and the
payload so far. -/
structure Copy where
  src     : BitVec 5
  rxid    : Rxid
  ring    : Option (Fin 8)
  header  : List Byte
  data    : List Byte
deriving DecidableEq, Repr

/-- The Ulir block: packets sent, the send count, the last SEQ from each sender, outstanding queries and their numbering, open
copies, consecutive TIME packets within and beyond the limits of R458, the error a waiting alignment step removes (R457), the latest TIME
packet (R460), whether a calibration is valid and the first alignment done, the error being slewed and the part of a dtick already slewed, in
1/24,576 of 0.1 ns, and whether the reference follows the ring (R454); the packets that wait for the transmit lane and the instant it is idle, in 1/15,625 dtick (R451), when TIME last came (R453),
when DISC and CAL were last sent (R452, R455), and the last millisecond TIME was sent for (R456). Errors are in 0.1 ns. -/
structure Ulk where
  sent      : List Packet
  seq       : Byte
  lastSeq   : List (Nat × Byte)
  queries   : List Query
  nextTag   : Byte
  copies    : List Copy
  good      : Nat
  bad       : Nat
  stepErr   : Int
  timeSf    : Option (List Byte)
  calOk     : Bool
  stepped   : Bool
  slew      : Int
  phase     : Int
  refRing   : Bool
  waiting   : List Waiting
  laneEnd   : Nat
  timeSeen  : Option Time
  discAt    : Option Time
  calAt     : Option Time
  timeK     : Nat
deriving DecidableEq, Repr

/-! ### Host interface (chapter 19) -/

/-- A cause's occurrences since it last fired, and the first of them (R519). -/
structure Irq where
  count : Nat
  first : Option Time
deriving DecidableEq, Repr

/-- What a delivery reservation belongs to: an own reception, or a copy from a cascade subordinate (R508). -/
inductive Owner where
  | rx (rxid : Rxid)
  | copy (src : BitVec 5) (rxid : Rxid)
deriving DecidableEq, Repr

/-- The STATUS codes of R196. -/
inductive EntryStatus where
  | prov | done | void | skip
deriving DecidableEq, Repr

/-- A reservation of a delivery ring: first entry (counted from the ring's enabling), number of entries, owner, state, and the bytes written to
each entry's buffer. -/
structure Resv where
  first  : Nat
  k      : Nat
  owner  : Owner
  status : EntryStatus
  lens   : List Nat
deriving DecidableEq, Repr

/-- A fetched submission entry not yet passed by DONE: its count, whether it is complete, and its IRQ bit (R515). -/
structure SubEntry where
  n    : Nat
  done : Bool
  irq  : Bool
deriving DecidableEq, Repr

/-- A descriptor ring: reservations (rings 0-3) or fetched entries (rings 4-7), oldest first, and the entries reserved or
fetched since it was enabled (R516). -/
structure Ring where
  resv : List Resv
  subs : List SubEntry
  idx  : Nat
deriving DecidableEq, Repr

/-- The host interface: cause counters, rings, MSI-X vectors sent (oldest first), the boot ROM's host-boot wait (R520) with the TCMs written
before it (their addresses and sizes, R422), the submission ring served last (R512), and the configuration space (R500). -/
structure Hif where
  irq      : Vector Irq 11
  rings    : Vector Ring 8
  msi      : List (BitVec 5)
  bootWait : Bool
  bootTcms : List (Nat × Nat)
  lastRing : Nat
  pci      : Pci
deriving DecidableEq, Repr
/-! ### Line ports (chapter 4) and the demodulator (chapter 5) -/

/-- A notch (R128): the five coefficients in force (B0 B1 B2 A1 A2) and its previous two inputs and outputs. -/
structure Notch where
  coef : List Int
  x1   : Rat
  x2   : Rat
  y1   : Rat
  y2   : Rat
deriving DecidableEq, Repr

/-- An output sample with its tags (R119). -/
structure Sample where
  y       : Rat
  settled : Bool
  bin     : Option Nat
  txh     : Bool
deriving DecidableEq, Repr

/-- A transform (R150, R151): its hop, tags, the lots blocked by the port's own sending (R222), the map noise m_ref and m_s of its phase
bins where both are valid (R170), and bins of tones 8 to 327. -/
structure Transform where
  h         : Nat
  unsettled : Bool
  txh       : Bool
  blk       : List Nat
  noise     : Option (Rat × Rat)
  x         : List Cplx
deriving DecidableEq, Repr

/-- The loopback detector's window of 16,384 dticks: its samples correlated with tones 4 and 6, and how many of them were settled (R471). -/
structure LbWindow where
  t4  : Cplx
  t6  : Cplx
  cnt : Nat
deriving DecidableEq, Repr

/-- A cross-fade running: target bank, samples done, length (R132). -/
structure Fade where
  bank : Bool
  pos  : Nat
  len  : Nat
deriving DecidableEq, Repr

/-- A transmission's span of R222 on a port: its number and lots, from the assertion of TXEN_N to 100 us after its release. -/
structure Sent where
  id    : Nat
  lots  : List Nat
  since : Nat
  till  : Option Nat
deriving DecidableEq, Repr

/-- A line port's receive chain: ACTIVE_TAPS and REF in force, notches, FIR input history (newest first), active bank, cross-fade and
queued swap, unsettled samples to come, the recent ADC overloads from their starts to SETTLE_N samples past their ends (R123), detectors with the RMS window last ended
(sum of squares, samples, peak), noise map with its half-cycle sums, the filtered level of ZCn (R139), zero-crossing tracker, gain control: the end of its
hold, the start, sum of squares, samples and peak of its decay window (R126), and the recent PGA codes with the instants they were left (R124); the
recent spans of TXEN_N with their ends (R221), frames it is or was sending (R222), output samples and transforms (newest first), and per-tone idle noise with each
lot's update count (R171); the instant of the last synchronising reset (R148), the mains half-cycles ended whose sums wait for the noise map with the phase bin of the last
sample (R144), and the loopback detector's window, power sum and count since the last ageing run (R471). -/
structure LpChain where
  taps      : Nat
  ref       : Nat
  notch     : Vector Notch 4
  hist      : List Rat
  bank      : Bool
  fade      : Option Fade
  queued    : Option Bool
  settle    : Nat
  overs     : List (Time × Option Time)
  peak      : Rat
  winPeak   : Rat
  lastPeak  : Rat
  env       : Rat
  rmsSum    : Rat
  rmsCnt    : Nat
  rmsDone   : Option (Rat × Nat × Rat)
  nmap      : Vector Rat 64
  nsum      : Vector (Rat × Nat) 64
  halves    : Nat
  mapHeld   : Bool
  zcLevel   : Bool
  zcLast    : Option Time
  zcOk      : Nat
  zcLock    : Bool
  holdUntil : Time
  decayAt   : Time
  decSum    : Rat
  decCnt    : Nat
  decPk     : Rat
  codes     : List (Time × Nat)
  spans     : List (Time × Option Time)
  sending   : List Sent
  samples   : List Sample
  trans     : List Transform
  idle      : List Rat
  idleCnt   : List Nat
  resetAt   : Option Time
  halfDone  : List (Vector (Rat × Nat) 64)
  lastBin   : Option Nat
  lbWin     : LbWindow
  lbSum     : Rat
  lbCnt     : Nat
deriving DecidableEq, Repr

/-- The state codes of R153. -/
inductive CtxState where
  | idle | qualify | joined | header | payload | pending | directed | held
deriving DecidableEq, Repr

/-- A context's qualifier (R158, R160), its tone vectors one port after the other: trigger hop, D at the hops after it, h*, the hop of the
next symbol, the pattern-A symbols kept (newest first), Q and nq, the symbol count, the symbol held as pend with its hop and b, the hop of
P6 once timed with t_B, the hop from which a context left by a formation is newly timed again (R164), the verdict, and the DMD settings the
context started with (R184). -/
structure Qual where
  start  : Nat
  ds     : List (Nat × Rat)
  hop    : Option Nat
  next   : Nat
  syms   : List (List Cplx)
  q      : List Cplx
  nq     : Nat
  cnt    : Nat
  pend   : Option (Nat × List Cplx × Rat)
  p6     : Option Nat
  tB     : Option Int
  wait   : Nat
  pass   : Option Bool
  thr    : List Word
deriving DecidableEq, Repr

/-- A lot context (R153): its state, whether it holds the watcher role, the RXID it serves, and its qualifier. -/
structure Ctx where
  state   : CtxState
  watcher : Bool
  rxid    : Option Rxid
  qual    : Option Qual
deriving DecidableEq, Repr

/-- The trained channel of one lot (R166): H_k and ν_k of its tones, one port after the other. -/
structure LotChan where
  lot : Nat
  h   : List Cplx
  nu  : List Rat
deriving DecidableEq, Repr

/-- The tracked values of one port of a reception (R167), phases in turns. -/
structure Track where
  phi  : Rat
  beta : Rat
  gain : Rat
deriving DecidableEq, Repr

/-- One symbol of a reception after training: the soft values of its data tones in index order, and the same tones' bins with reference
phase and tracked phase removed (R181), one port after the other. -/
structure RxSymbol where
  soft : List Int
  bins : List Cplx
deriving DecidableEq, Repr

/-- A decoded header (R84, R85); an SH's missing fields are zero. -/
structure Hdr where
  sh     : Bool
  ft     : Nat
  mc     : Nat
  sec    : Bool
  ackreq : Bool
  lots   : Nat
  len    : Nat
  dst    : Nat
  src    : Nat
  domlo  : Nat
  miss   : Nat
  batt   : Nat
  hcs    : Byte
  bytes  : List Byte
deriving DecidableEq, Repr

/-- The decision of R190. -/
inductive Decision where
  | new | duplicate
deriving DecidableEq, Repr

/-- How far the capture of a lot has come for its watcher reception (R175, R176): it waits for the active's qualifier verdict, or in PENDING for
the active's header, or the decision has been taken. -/
inductive CapWait where
  | verdict | header | decided
deriving DecidableEq, Repr

/-- A reception from its formation to its commit or squash (R20): port and whether a yoked pair; the settings it started with; whether its
qualifier passed; the captures it stands in as watcher, by lot; lots, contexts, lead and the context whose qualifier it keeps; t_B, τ_0, the hops of P6 and of its
next symbol, tracking, channel, lots erased by R177; whether its window is armed for a short header, which of its lots lay in an armed window, the lot of the
capture decision that settled it (R177), if one did; symbols, start of the last one;
header symbols, symbols examined for a header, whether an LH passed with other LOTS; header, source address, stall, page-in outstanding;
the payload's data tones; the security header once it has left the decoder (R319); the decoded payload block, verdicts, key and plaintext; SURVEY record and per-lot SNR codes; delivery ring,
cut-through packets sent; ACK action, whether it was cancelled at its horizon; decision, its number in the order of those that asked for a commit lock (R190) and ACKST, the record index
of a new neighbour (R286), the MRAM words whose writes step 1 of R25 awaits, and what the words written for it held before; whether its
decision waits for its stall's lock (R190, R356), and whether a waiting high-water write counts its FC (R204). -/
structure Rx where
  rxid     : Rxid
  port     : Port
  pair     : Bool
  thr      : List Word
  passed   : Bool
  caps     : List (Nat × CapWait)
  lots     : List Nat
  ctxs     : List Nat
  lead     : Nat
  qctx     : Nat
  tB       : Int
  tau0     : Rat
  p6       : Nat
  next     : Nat
  track    : List Track
  chan     : List LotChan
  erased   : List Nat
  short    : Bool
  armed    : List Nat
  settled  : Option Nat
  syms     : List RxSymbol
  lastSym  : Rat
  hdrSyms  : Nat
  tried    : Nat
  badLots  : Bool
  hdr      : Option Hdr
  src      : Word
  stall    : Option Nat
  paging   : Bool
  tones    : Option (List Nat)
  mask     : Option (List Byte)
  sechdr   : List Byte
  block    : List Byte
  fcsOk    : Bool
  bound    : Option Bound
  tagOk    : Option Bool
  plain    : List Byte
  surv     : List Byte
  snr      : List (Nat × Nat)
  level    : Nat
  ring     : Option (Fin 8)
  sent     : Nat
  ack      : Option Nat
  late     : Bool
  decision : Option Decision
  turn     : Nat
  ackst    : Nat
  record   : Option Nat
  waits    : List Nat
  undo     : List (Nat × List Byte)
  asked    : Bool
  marked   : Bool
deriving DecidableEq, Repr

/-- The demodulator: the 240 contexts, RXIDs in flight and the one last allocated, receptions, and the pairs now yoked. -/
structure Dmd where
  ctx    : List Ctx
  used   : List Rxid
  last   : Rxid
  rx     : List Rx
  yoked  : BitVec 3
deriving DecidableEq, Repr

/-! ### Transmission (chapter 7) and the MAC engine (chapter 8) -/

/-- A submission or transmit descriptor (R513), bytes 0-47. -/
structure SubDesc where
  buf    : Nat
  time   : Nat
  mode   : Nat
  irq    : Bool
  ft     : Nat
  sec    : Bool
  ackreq : Bool
  mc     : Nat
  port   : Nat
  e      : Nat
  len    : Nat
  ksel   : Nat
  dst    : Nat
  lots   : Nat
  htag   : List Byte
deriving DecidableEq, Repr

/-- What a transmission is (R35, R259, R202): an ACK, a beacon, the LASTGASP frame, a host entry, a TQADD descriptor, or a deferred
downlink by its store number. -/
inductive TxKind where
  | ack (rxid : Rxid)
  | beacon
  | lastgasp
  | host (ring : Fin 8) (n : Nat)
  | core (k : CoreId) (desc : Word)
  | deferred (no : Nat)
deriving DecidableEq, Repr

/-- Where a transmission stands (R34, R210, R218); a frame stream is 0 to 3, the ACK stream of lot j is 4 + j. -/
inductive TxStage where
  | queued | taken (stream : Nat) | onAir (stream : Nat)
deriving DecidableEq, Repr

/-- The encryption of a transmission (R34 step 1). -/
inductive Seal where
  | waiting | running | done
deriving DecidableEq, Repr

/-- A transmission: queue entry, stage and encryption; its time, port, gate, lots, class, E, header, destination address, key selector,
stall held, FC, key bound, plaintext, payload as sent (the body of an ACK), the neighbour mask over the payload and its data tones; the output
ports whose TXEN_N it asserts; TONE_DB, TAPER, mask and plan in force when it took its stream (R212); launch instant and the ball instant of frame end; the reason it
is being cut, if it is; the status of an ACK once decided. -/
structure TxOp where
  id      : Nat
  index   : Nat
  inQueue : Bool
  kind    : TxKind
  stage   : TxStage
  encr    : Seal
  time    : Nat
  port    : Port
  pair    : Bool
  gate    : Option Rxid
  lots    : List Nat
  mc      : Nat
  e       : Nat
  hdr     : Hdr
  addr    : Word
  ksel    : Nat
  stall   : Option Nat
  fc      : Option Nat
  bound   : Option Bound
  plain   : List Byte
  payload : List Byte
  mask    : Option (List Byte)
  tones   : List Nat
  txen    : List Nat
  level   : Nat
  taper   : Nat
  att     : List Nat
  plan    : Nat
  launch  : Option Nat
  cut     : Option Nat
  status  : Option Nat
deriving DecidableEq, Repr

/-- An EVENT action in the queue (R260, R264). -/
structure EvAction where
  index : Nat
  time  : Nat
  core  : CoreId
  mask  : BitVec 8
  arg   : Byte
  gate  : Option Rxid
deriving DecidableEq, Repr

/-- An armed receive window (R240, R246, R247): its neighbour's address and wake exponent, port, lot set, span, arming, slot start and
superframe start, whether the wake is a search wake, whether it has closed, whether a frame of the neighbour committed in it, and whether its
wake is settled. -/
structure Window where
  id     : Nat
  addr   : Word
  w      : Nat
  port   : Port
  lots   : List Nat
  lo     : Int
  hi     : Int
  armed  : Nat
  slotAt : Nat
  sfAt   : Nat
  search : Bool
  closed : Bool
  hit    : Bool
  done   : Bool
deriving DecidableEq, Repr

/-- A directed window (R179): the transmission answered, its lot and expected instant, the token it expects, the context it claimed
and the DMD settings it began with (R184). -/
structure DirWin where
  id    : Nat
  op    : TxOp
  lot   : Nat
  tAck  : Nat
  token : BitVec 16
  ctx   : Option Nat
  thr   : List Word
deriving DecidableEq, Repr

/-- A deferred downlink (R254, R258): its number in order of storing, the host entry it came from, its descriptor, the stall's address,
transmissions made, its FC once drawn, the last launch, and whether a transmission of it is booked or awaits its ACK. -/
structure Deferred where
  no     : Nat
  ring   : Fin 8
  n      : Nat
  d      : SubDesc
  addr   : Word
  tries  : Nat
  fc     : Option Nat
  launch : Nat
  booked : Bool
deriving DecidableEq, Repr

/-- What the MAC sampled at a build instant (R232), with the BSN and start of its superframe. -/
structure SfSample where
  slotlen : Nat
  openmap : BitVec 64
  domain  : Word
  bcn     : Word
  lots    : List Nat
  bsn     : BitVec 16
  start   : Nat
deriving DecidableEq, Repr

/-- The master ephemeris and following (R266-R270): X, V, SX and SV as exact numbers; whether a master beacon was verified since FOLLOW was
requested; EPOCH, BSN and SLOTLEN of the latest, its EPOCH on own time and its length; whether V is frozen; the
BSN last counted missed; whether a superframe has started in FOLLOW; the MAC_FOLLOW word in force (R467) and the domain of the latest; the last EPOCH accepted from each domain (R102); the
SLOTLEN the master was last heard with, in a verified beacon or one that only its SLOTLEN kept from being so (R265). -/
structure Follow where
  x       : Rat
  v       : Rat
  sx      : Rat
  sv      : Rat
  seen    : Bool
  epoch   : Nat
  bsn     : BitVec 16
  rank    : Nat
  slotlen : Nat
  ownAt   : Int
  length  : Nat
  frozen  : Bool
  counted : Option (BitVec 16)
  entered : Bool
  word    : Word
  dom     : Nat
  epochs  : List (Nat × Nat)
  heard   : Nat
deriving DecidableEq, Repr

/-- A frame as the DAC of a port plays it (R211, R214, R218): its number, launch, TONE_DB, TAPER, the mask entries of its tones, the tones on in
each symbol with their phases in quarter turns, and the instant it was cut at once, if it was. -/
structure OnLine where
  id      : Nat
  port    : Port
  launch  : Nat
  level   : Nat
  taper   : Nat
  att     : List (Nat × Nat)
  symbols : List (List (Nat × Nat))
  stop    : Option Nat
deriving DecidableEq, Repr

/-- A level calibration that runs (R227): its port, DRV, whether it has been cut (R36, R217), and its frame. -/
structure Cal where
  port  : Port
  drv   : Bool
  cut   : Bool
  frame : OnLine
deriving DecidableEq, Repr

/-- The MAC engine and transmit paths: transmissions, EVENT actions, generation counts of queue entries and numbers for new
transmissions; windows, directed windows; the deferred store; the superframe's samples and those of the one being built; the held ORIGIN high
word and the latched _HI words (R272); following; once-per-superframe marks (R239, R240); for each port the running count of violating
symbols, the TXEN_N releases due and the instant up to which clipped samples have been counted (R217); the calibrations that run; the frames the
DACs play; slots already walked, the next superframe's
start, and whether the running grid is not that of R231. -/
structure Mac where
  ops      : List TxOp
  events   : List EvAction
  gens     : List (Nat × Nat)
  nextId   : Nat
  windows  : List Window
  nextWin  : Nat
  dirs     : List DirWin
  store    : List Deferred
  nextNo   : Nat
  cur      : SfSample
  built    : Option SfSample
  originHi : Word
  latches  : List (Nat × Word)
  follow   : Follow
  mismatch : Bool
  winFull  : Bool
  viol     : List Nat
  lag      : List (Option Nat)
  counted  : List Nat
  cal      : List Cal
  calMon   : List (Nat × Rat)
  line     : List OnLine
  walked   : List Nat
  next     : Nat
  offGrid  : Bool
deriving DecidableEq, Repr

/-! ### The ledger (chapter 9) -/

/-- What the ledger unit knows of a stall beside its record (R189, R285, R573): the record index it holds, whether it changed since page-in,
and whether it is only reserved for a record awaiting import. -/
structure HotStall where
  c       : Nat
  dirty   : Bool
  waiting : Bool
deriving DecidableEq, Repr

/-- A page-in under way (R284): the address, the record index, and the stall taken for it once it has started. -/
structure PageIn where
  addr  : Word
  c     : Nat
  stall : Option Nat
deriving DecidableEq, Repr

/-- The ledger unit: the on-chip index, use order of stalls (least recent first), page-ins, records in the write-back buffer, the command
running (result, stall) and the count a running rebuild has found. -/
structure Ledger where
  hot     : List (Nat × HotStall)
  order   : List Nat
  pages   : List PageIn
  wb      : List (Nat × List Byte)
  cmd     : Option (Nat × Nat)
  rebuild : Option Nat
deriving DecidableEq, Repr


/-! ### The whole state -/

/-- The device. Registers and memory are sparse (an unlisted register reads as its reset value, an unlisted byte as `memDefault`
says); `hostMem` holds what the device has written to host memory; `busOut` and `spiOut` what the last read command returned;
`limits` when each rate-limited event was last raised; `grade` is the part's (R570); `freeCtr` is the model's own counter for free values. -/
structure State where
  time    : Time
  regs    : List (Nat × Word)
  mem     : List Host.Cell
  fills   : List Fill
  hostMem : List Host.Cell
  busOut  : Word
  spiOut  : List Byte
  freeCtr : Nat
  limits  : List (Nat × Time)
  cycle   : Cycle
  grade   : Grade
  otp     : Otp
  sys     : Sys
  evc     : Collector
  cores   : Vector Core 8
  memu    : MemUnit
  key     : KeyStore
  crc     : Vector Snoop 4
  sec     : Sec
  uart    : Vector Uart 2
  age     : Age
  ulk     : Ulk
  hif     : Hif
  lp      : Vector LpChain 6
  dmd     : Dmd
  mac     : Mac
  lgr     : Ledger
  pending : List Instr
deriving DecidableEq, Repr

/-! ### After power-on reset (R530)

Registers are at their reset values (none listed), memory lists nothing and every queue is empty. The values the spec does not give are
named in the assumption log. -/

def Keks.zero : Keks := ⟨List.replicate 16 0, List.replicate 32 0, List.replicate 32 0, List.replicate 32 0⟩

/-- [DESIGN CHOICE, log 8] -/
def Core.reset : Core :=
  { run := .stopped, g := Vector.replicate 32 0, pc := 0, timeHi := 0, evmask := 0xFFFF, cycle := 0, cycleAt := 0, instret := 0, wdog := 0,
    wdogAt := 0, lsres := 0,
    storeBuf := [], load := none, locks := [], stepping := false }

/-- OC0 runs the boot ROM from address 0 (R370). [DESIGN CHOICE, log 8] -/
def Core.boot : Core := { Core.reset with run := .running }

/-- [DESIGN CHOICE, log 7] -/
def Otp.reset : Otp :=
  { uid := List.replicate 16 0, kOtp := List.replicate 32 0, pufHelper := List.replicate 512 0, lcSteps := 0, lcEnded := false, rollback := 0,
    imgKeyHash := Vector.replicate 4 (List.replicate 48 0), revoke := 0, tokenKeyHash := List.replicate 48 0, marchPolicy := 0,
    tamperPolicy := 0, sealFitted := false, optLock := false, weak := [] }

def Sec.reset : Sec :=
  { nonce := none, scopes := 0, opened := false, windowEnd := none, sealOk := false, sealMiss := 0, sealHit := 0,
    pufOk := false, idk := none, lms := none, staged := none, heldLog := [], logCount := 0, away := [], romClosed := false, testImage := false,
    cmd := none, testMode := false, sealLatched := none, cleared := none }

/-- [DESIGN CHOICE, log 7] -/
def Straps.zero : Straps := ⟨0, false, 0⟩

/-- [DESIGN CHOICE, log 7; DESIGN CHOICE, log 8] -/
def Sys.reset : Sys :=
  { mode := .survey, pend := none, phase := .reset, kind := .powerOn, prior := .survey, booted := false, wake := 0, straps := Straps.zero, heldEdges := [], qspi := [], railEn := true, mramFrozen := false, onAo := false, dormReq := false, outage := none,
    wakeHi := 0xFFFFFFFF, railAt := 0, returnAt := none }

def Collector.reset : Collector :=
  { held := [], staged := [], queues := Vector.replicate 8 [], seqs := Vector.replicate 8 0, hostSeq := 0, hostErr := false }

def MemUnit.reset : MemUnit :=
  { mramPend := [], mramLast := [], spares := [], march := none, wipe := none, ddrFill := [], ddrSweep := [], dualAt := 0, dual := [] }

def KeyStore.reset : KeyStore :=
  { keks := none, named := [], nextGen := 0, reads := 0, jobs := [], nextJob := 0, cmd := none, loading := none }

def UartLine.reset : UartLine := ⟨0x1A1, 0, 0⟩

def Uart.reset : Uart :=
  { rx := [], tx := [], shifter := none, rxLine := UartLine.reset, txLine := UartLine.reset, stuck := false, trigHeld := false,
    idleHeld := false, emptied := false, rxd := false, ctsN := true, rtsN := true, disarmed := false, was := [], edgeAt := 0,
    lowAt := none, txAt := 0, wave := [], sirEnd := none }

def Age.reset : Age :=
  { lastStart := none, running := none, closing := none, ppsLast := none, ppsCount := 0, ppsSum := 0, txGain := Vector.replicate 6 none,
    sleepDue := none, hold := none, vidAt := 0 }

def Ulk.reset : Ulk :=
  { sent := [], seq := 0, lastSeq := [], queries := [], nextTag := 0, copies := [], good := 0, bad := 0, stepErr := 0,
    timeSf := none, calOk := false, stepped := false, slew := 0, phase := 0, refRing := false, waiting := [], laneEnd := 0,
    timeSeen := none, discAt := none, calAt := none, timeK := 0 }

def Hif.reset : Hif :=
  { irq := Vector.replicate 11 ⟨0, none⟩, rings := Vector.replicate 8 ⟨[], [], 0⟩, msi := [], bootWait := false, bootTcms := [], lastRing := 0, pci := ⟨false, false⟩ }

def Notch.reset : Notch := ⟨[0x400000, 0, 0, 0, 0], 0, 0, 0, 0⟩

def LpChain.reset : LpChain :=
  { taps := 96, ref := 12, notch := Vector.replicate 4 Notch.reset, hist := [], bank := false, fade := none, queued := none,
    settle := 144, overs := [], peak := 0, winPeak := 0, lastPeak := 0, env := 0, rmsSum := 0, rmsCnt := 0, rmsDone := none, nmap := Vector.replicate 64 0,
    nsum := Vector.replicate 64 (0, 0), halves := 0, mapHeld := false, zcLevel := false, zcLast := none, zcOk := 0, zcLock := false, holdUntil := 0,
    decayAt := 0, decSum := 0, decCnt := 0, decPk := 0, codes := [],
    spans := [], sending := [], samples := [], trans := [], idle := List.replicate 320 0, idleCnt := List.replicate 20 0,
    resetAt := none, halfDone := [], lastBin := none, lbWin := ⟨⟨0, 0⟩, ⟨0, 0⟩, 0⟩, lbSum := 0, lbCnt := 0 }

def Dmd.reset : Dmd :=
  { ctx := (List.range 240).map fun c => ⟨.held, c % 2 == 1, none, none⟩, used := [], last := 255, rx := [], yoked := 0 }

/-- [DESIGN CHOICE, log 8] -/
def SfSample.reset : SfSample :=
  { slotlen := 384, openmap := 0, domain := 0x00FF0000, bcn := 0x00200000, lots := [7, 7, 7, 7, 7, 7], bsn := 0, start := 0 }

def Follow.reset : Follow :=
  { x := 0, v := 0, sx := 0, sv := 0, seen := false, epoch := 0, bsn := 0, rank := 255, slotlen := 0, ownAt := 0, length := 0,
    frozen := false, counted := none, entered := false, word := 0, dom := 0, epochs := [], heard := 0 }

/-- [DESIGN CHOICE, log 8] -/
def Mac.reset : Mac :=
  { ops := [], events := [], gens := [], nextId := 0, windows := [], nextWin := 0, dirs := [], store := [], nextNo := 0,
    cur := SfSample.reset, built := none, originHi := 0, latches := [], follow := Follow.reset, mismatch := false, winFull := false,
    viol := [0, 0, 0, 0, 0, 0], lag := [none, none, none, none, none, none], counted := [0, 0, 0, 0, 0, 0], cal := [], calMon := [], line := [], walked := [], next := 452984832,
    offGrid := false }

def Ledger.reset : Ledger :=
  { hot := [], order := [], pages := [], wb := [], cmd := none, rebuild := none }

/-- The device right after power-on reset. [DESIGN CHOICE, log 3; DESIGN CHOICE, log 8; DESIGN CHOICE, log 61] -/
def State.reset : State :=
  { time := 0, regs := [], mem := [], fills := [], hostMem := [], busOut := 0, spiOut := [], freeCtr := 0, limits := [],
    cycle := ⟨0, [], [], none, 0, 0, 0, []⟩, grade := .i, otp := Otp.reset, sys := Sys.reset, evc := Collector.reset, cores := (Vector.replicate 8 Core.reset).set 0 Core.boot, memu := MemUnit.reset,
    key := KeyStore.reset, crc := Vector.replicate 4 .idle, sec := Sec.reset, uart := Vector.replicate 2 Uart.reset,
    age := Age.reset, ulk := Ulk.reset, hif := Hif.reset, lp := Vector.replicate 6 LpChain.reset, dmd := Dmd.reset, mac := Mac.reset,
    lgr := Ledger.reset, pending := [] }

end Sys2Proof.Machine
end

