-- ==== Sys2Proof/Machine/DmdMath.lean ====
section
/-! DEFINITION. The demodulator's arithmetic (chapter 5): the detector statistic, timing, training, pilot fit, soft decisions, erasure weights
and SNR codes. Vectors over a lot's tones hold one port's tones after the other's. -/

namespace Sys2Proof.Machine

/-- A ratio; over zero it is a free value. [DESIGN CHOICE, log 11] -/
def ratioOf (x n : Rat) : Rat := if n = 0 then Config.overZero x else x / n

/-- Part i of a vector of several ports' tones. -/
def portPart (m i : Nat) (v : List α) : List α := (v.drop (m * i)).take m


/-! ### Settings a context or reception starts with (R183, R184) -/

/-- The words of DMD_TRIG, DMD_QUAL, DMD_MERGE, DMD_CAPT, DMD_EQ and DMD_ERASE. -/
def thrField (thr : List Word) (i hi lo : Nat) : Nat := (thr.getD i 0).toNat / 2 ^ lo % 2 ^ (hi + 1 - lo)

namespace Thr
def peakR (t : List Word) : Nat := thrField t 0 31 24
def hopDrop (t : List Word) : Nat := thrField t 0 23 16
def trigSym (t : List Word) : Nat := let n := thrField t 0 10 8; if 2 ≤ n ∧ n ≤ 6 then n else 6
def trigD (t : List Word) : Nat := thrField t 0 7 0
def qualD (t : List Word) : Nat := thrField t 1 31 24
def bThr (t : List Word) : Nat := thrField t 1 23 16
def qualSym (t : List Word) : Nat := max 1 (min 4 (thrField t 1 11 8))
def bWait (t : List Word) : Nat := max 10 (thrField t 1 5 0)
def mergeDb (t : List Word) : Nat := thrField t 2 31 24
def mergeTol (t : List Word) : Nat := thrField t 2 23 16
def mergeFrac (t : List Word) : Nat := max 1 (thrField t 2 7 0)
def capOpen (t : List Word) : Bool := thrField t 3 17 17 == 1
def capAssigned (t : List Word) : Bool := thrField t 3 16 16 == 1
def margin (t : List Word) : Nat := thrField t 3 7 0
def thrK (t : List Word) : Nat := thrField t 4 31 24
def pilTc (t : List Word) : Nat := thrField t 4 23 20 % 8
def ntc (t : List Word) : Nat := max 1 (min 12 (thrField t 4 19 16))
def llrScale (t : List Word) : Nat := thrField t 4 15 8
def eraseDb (t : List Word) : Nat := thrField t 5 7 0
end Thr

/-! ### The detector (R156) -/

/-- conj(rho_k). -/
def unref (k : Nat) : Cplx := quarterTurn (4 - refPhase k)

/-- |G[d]|^2 of one port's tones. -/
def gPower (tones : List Nat) (v : List Cplx) (d : Nat) : Rat :=
  (sumVec (List.zipWith (fun k x => (x.mul (unref k)).mul (cis (mkRat (tonePos k * d) 256))) tones v)).sq

/-- The statistic of each hypothesis, normalised by `norm` times the noise and averaged over the ports (R156, R178). -/
def gStats (ports : Nat) (tones : List Nat) (v : List Cplx) (norm : Nat) (nu : List Rat) : List Rat :=
  (List.range 16).map fun d =>
    meanRat ((List.range ports).map fun i =>
      ratioOf (gPower tones (portPart tones.length i v) d) ((norm : Nat) * sumRat (portPart tones.length i nu)))

/-- D and Pk. -/
def detector (ports : Nat) (tones : List Nat) (v : List Cplx) (norm : Nat) (nu : List Rat) : Rat × Rat :=
  let g := gStats ports tones v norm nu
  (maxRat g, ratioOf (maxRat g) (meanRat g))

/-- The hypothesis of the largest statistic; the first of equals. -/
def bestDelay (g : List Rat) : Nat := (g.zipIdx.foldl (fun (b : Rat × Nat) p => if b.1 < p.1 then p else b) (g.headD 0, 0)).2

/-! ### The qualifier (R160) -/

def addVecs (vs : List (List Cplx)) : List Cplx :=
  match vs with
  | [] => []
  | v :: rest => rest.foldl addVec v

def scaleVec (r : Rat) (v : List Cplx) : List Cplx := v.map (Cplx.scale r)

/-- Mean power |S_k/n|^2 of each tone. -/
def meanPower (syms : List (List Cplx)) : List Rat :=
  (scaleVec (mkRat 1 syms.length) (addVecs syms)).map Cplx.sq

/-- b: +1 pattern A, -1 pattern B. -/
def bValue (x : List Cplx) (syms : List (List Cplx)) : Rat :=
  let m := scaleVec (mkRat 1 syms.length) (addVecs syms)
  ratioOf (sumVec (mulConj x m)).re (energy m)

/-! ### Training and timing (R162, R166) -/

/-- H_k and nu_k of a lot from its six pattern-A vectors and the idle noise. -/
def trainLot (tones : List Nat) (ports : Nat) (xs : List (List Cplx)) (idle : List Rat) : List Cplx × List Rat :=
  let ks := (List.replicate ports tones).flatten
  let zs := xs.map fun x => List.zipWith (fun k y => y.mul (unref k)) ks x
  let h := scaleVec (mkRat 1 xs.length) (addVecs zs)
  let v := (zs.map fun z => (subVec z h).map Cplx.sq).foldl (List.zipWith (· + ·)) (h.map fun _ => 0)
  (h, List.zipWith max (v.map fun x => x / ((xs.length - 1 : Nat) : Rat)) idle)

/-- The least-squares slope, in turns a tone, of the phases of one or two ports' channels, each about its own mean direction. -/
def phaseSlope (parts : List (List (Nat × Cplx))) : Rat :=
  let pts := parts.flatMap fun zs =>
    let m := sumVec (zs.map (·.2))
    let good := zs.filter fun p => p.2.sq != 0
    let ph := good.map fun p => ((p.1 : Rat), argTurns (p.2.mul m.conj))
    let kb := meanRat (ph.map (·.1))
    let pb := meanRat (ph.map (·.2))
    ph.map fun p => (p.1 - kb, p.2 - pb)
  ratioOf (sumRat (pts.map fun p => p.1 * p.2)) (sumRat (pts.map fun p => p.1 * p.1))

/-- tau of a trained channel: the best hypothesis refined by the phase slope. -/
def tauOf (plan ports : Nat) (chan : List LotChan) : Rat :=
  let g := (List.range 16).map fun d => sumRat (chan.map fun c =>
    (gStats ports (lotTones plan c.lot) (List.zipWith (fun k h => h.mul (quarterTurn (refPhase k)))
      ((List.replicate ports (lotTones plan c.lot)).flatten) c.h) 1 c.nu).getD d 0)
  let d := bestDelay g
  let parts := (List.range ports).map fun i =>
    chan.flatMap fun c =>
      let ts := lotTones plan c.lot
      List.zipWith (fun k h => (k, h.mul (cis (mkRat (k * d) 256)))) ts (portPart ts.length i c.h)
  2048 - 64 * (d : Rat) + 16384 * phaseSlope parts

/-! ### Pilots (R167) -/

/-- x brought into (-1/2, 1/2]. -/
def wrapHalf (x : Rat) : Rat := x - (x - 1 / 2).ceil

/-- Mean pilot tone index of a lot set. -/
def pilotCentre (plan : Nat) (lots : List Nat) : Rat := meanRat ((pilotTones plan lots).map fun (k : Nat) => (k : Rat))

/-- The weighted least-squares line through points (x, phi, weight): value at x = 0 and slope. [DESIGN CHOICE, log 11] -/
def fitLine (pts : List (Rat × Rat × Rat)) : Rat × Rat :=
  let s := fun (f : Rat × Rat × Rat → Rat) => sumRat (pts.map fun p => p.2.2 * f p)
  let w := s fun _ => 1
  let wx := s fun p => p.1
  let wxx := s fun p => p.1 * p.1
  let wy := s fun p => p.2.1
  let wxy := s fun p => p.1 * p.2.1
  let det := w * wxx - wx * wx
  if det = 0 then
    let slope := Config.lonePilotSlope (ratioOf wy w)
    (ratioOf (wy - slope * wx) w, slope)
  else ((wy * wxx - wx * wxy) / det, (w * wxy - wx * wy) / det)

/-- One symbol's update of a port's tracked values from pilots (tone, X, H); `neg` marks pattern B. -/
def Track.update (t : Track) (tc : Nat) (centre : Rat) (neg : Bool) (pilots : List (Nat × Cplx × Cplx)) : Track :=
  let zs := (pilots.filter fun p => p.2.2.sq != 0).map fun p =>
    (p.1, Cplx.scale (if neg then -1 else 1) ((p.2.1.mul (unref p.1)).mul p.2.2.conj), p.2.2.sq)
  if zs.isEmpty then t
  else
    let line := fitLine (zs.map fun z => ((z.1 : Rat) - centre, argTurns z.2.1, z.2.2))
    let g := ratioOf (sumRat (zs.map fun z => sqrtRat z.2.1.sq)) (sumRat (zs.map fun z => z.2.2))
    let c : Rat := mkRat 1 (2 ^ tc)
    { phi := t.phi + wrapHalf (line.1 - t.phi) * c, beta := t.beta + wrapHalf (line.2 - t.beta) * c, gain := t.gain + (g - t.gain) * c }

/-- The phase the tracked values give tone k, in turns. -/
def Track.phase (t : Track) (centre : Rat) (k : Nat) : Rat := t.phi + t.beta * ((k : Rat) - centre)

/-- H'_k. -/
def Track.equal (t : Track) (centre : Rat) (k : Nat) (h : Cplx) : Cplx := Cplx.scale t.gain (h.mul (cis (t.phase centre k)))

/-! ### Soft decisions (R169, R170) -/

/-- The erasure weight in sixteenths. -/
def eraseWeight (en : Bool) (eraseDb : Nat) (t : Transform) : Nat :=
  if t.unsettled then 0
  else if !en then 16
  else match t.noise with
    | none => 16
    | some (ref, ms) =>
      if !dbGe ref ms (-(eraseDb : Int)) then 0 else max 1 (min 16 (16 * ratioOf ref ms).floor.toNat)

/-- q_k of a data tone with its weight in sixteenths. -/
def softTone (thrK llr w : Nat) (k : Nat) (x h' : Cplx) (nu : Rat) : Int :=
  let p := h'.sq
  if p = 0 then 0
  else
    let y := ((x.mul (unref k)).mul h'.conj).re / p
    let v := nu / (2 * p)
    let delta := min (mkRat thrK 256 * v) (1 / 4)
    let l := mkRat w 16 * ratioOf (y - 1 / 2 - delta) v
    max (-31) (min 31 (roundAway (l * mkRat llr 16)))

/-! ### SNR codes (R181) -/

/-- The SNR reaches code k: 4 (10 log10 x + 16) >= k - 1/2. -/
def snrAtLeast (x : Rat) (k : Nat) : Bool := decide (x.den ^ 80 * 10 ^ (2 * k) ≤ x.num.toNat ^ 80 * 10 ^ 129)

/-- clamp(round(4 (SNR_dB + 16)), 0, 255). -/
def snrCode (x : Rat) : Nat := if x ≤ 0 then 0 else ((List.range 256).filter fun k => k == 0 || snrAtLeast x k).length - 1

end Sys2Proof.Machine
end

