-- ==== Sys2Proof/Machine/Ops.lean ====
section
/-! DEFINITION. The named operations every meaning is built from: registers and their fields, the tally, raising events (R374-R385),
reading and writing memory bytes (R6, R521). -/

namespace Sys2Proof.Machine

/-! ### Bits -/

/-- Bits hi:lo of a number. -/
def natBits (n hi lo : Nat) : Nat := n / 2 ^ lo % 2 ^ (hi + 1 - lo)

/-- The bits hi:lo set. -/
def fieldMask (hi lo : Nat) : Word := BitVec.ofNat 32 ((2 ^ (hi + 1 - lo) - 1) * 2 ^ lo)

/-- A word with its bits hi:lo replaced. -/
def putBits (w : Word) (hi lo v : Nat) : Word :=
  (w &&& ~~~fieldMask hi lo) ||| (BitVec.ofNat 32 (v * 2 ^ lo) &&& fieldMask hi lo)

/-- A field's value read as two's complement over `w` bits. -/
def signedOf (w n : Nat) : Int := if n < 2 ^ (w - 1) then n else (n : Int) - 2 ^ w

/-- An integer in two's complement over `w` bits. -/
def toTwos (w : Nat) (i : Int) : Nat := (i % 2 ^ w).toNat

/-- The largest of a list of naturals, 0 of none. -/
def listMax (l : List Nat) : Nat := l.foldl max 0

/-- The cores, the ports and the rings, in order. -/
def allEight : List (Fin 8) := [0, 1, 2, 3, 4, 5, 6, 7]
def allPorts : List (Fin 6) := [0, 1, 2, 3, 4, 5]

/-! ### Registers -/

/-- The stored value of the register at device address `a`. -/
def State.reg (s : State) (a : Nat) : Word := sget regReset s.regs a

/-- The state with the stored value of one register set. -/
def State.setReg (s : State) (a : Nat) (v : Word) : State := { s with regs := sset regReset s.regs a v }

/-- The value of a field. -/
def State.fld (s : State) (f : Field) : Nat := natBits (s.reg f.addr).toNat f.hi f.lo

/-- The value of a field of one bit, or whether a wider field is not zero. -/
def State.on (s : State) (f : Field) : Bool := s.fld f != 0

/-- The state with a field set to `v`. -/
def State.setFld (s : State) (f : Field) (v : Nat) : State := s.setReg f.addr (putBits (s.reg f.addr) f.hi f.lo v)

/-- Hardware has set bits `m` of a register in this cycle (R12). [DEDUCED, log 5] -/
def State.marked (s : State) (a : Nat) (m : Word) : State := { s with cycle := { s.cycle with flags := (a, m) :: s.cycle.flags } }

/-- The bits of a register that hardware has set in this cycle. -/
def State.marks (s : State) (a : Nat) : Word := s.cycle.flags.foldl (fun m p => if p.1 = a then m ||| p.2 else m) 0

/-- Set a one-bit field, as hardware does. -/
def State.flag (s : State) (f : Field) : State := (s.setFld f 1).marked f.addr (fieldMask f.lo f.lo)

/-- Set bit `i` of a field of several bits, as hardware does. -/
def State.flagBit (s : State) (f : Field) (i : Nat) : State :=
  (s.setReg f.addr (s.reg f.addr ||| BitVec.ofNat 32 (2 ^ (f.lo + i)))).marked f.addr (BitVec.ofNat 32 (2 ^ (f.lo + i)))

/-- Set a one-bit field to a truth value. -/
def State.setOn (s : State) (f : Field) (b : Bool) : State := s.setFld f (if b then 1 else 0)

/-- A wrapping counter register goes up by `n`; the cycle keeps the increment (R384). -/
def State.bump (s : State) (a n : Nat) : State :=
  { s.setReg a (s.reg a + BitVec.ofNat 32 n) with cycle := { s.cycle with counts := (a, n) :: s.cycle.counts } }

/-- A CORE cycle begins. [DEDUCED, log 5] -/
def State.newCycle (s : State) : State := { s with cycle := ⟨s.cycle.no + 1, [], [], none, 0, 0, 0, []⟩ }

/-- Bit `i` of a field of several bits. -/
def State.fldBit (s : State) (f : Field) (i : Nat) : Bool := (s.reg f.addr).getLsbD (f.lo + i)

/-! ### Device time and the tally -/

/-- Device time as a number of dticks. -/
def State.now (s : State) : Nat := s.time.toNat

/-- Bits 47:0 of device time (R4). -/
def State.stamp (s : State) : BitVec 48 := s.time.setWidth 48

/-- Dticks in `us` microseconds (24.576 MHz), rounded up. -/
def usDticks (us : Nat) : Nat := (us * 24576 + 999) / 1000

/-- One symbol, 750 us (R1). -/
def symDticks : Nat := 18432

/-- Counter i of R384. -/
def State.tally (s : State) (i : Nat) : State := s.bump (R.TAL_CNTi i) 1

/-- The tally counts an occurrence of event code `c` (R385). -/
def State.tallyEvent (s : State) (c : BitVec 12) : State := s.bump (R.TAL_EVCNTc c.toNat) 1

/-! ### Events -/

/-- Where an event waits: by raise cycle, then ascending source index (R379). Events raised at one device time with no collector
cycle between them are of one cycle. [DEDUCED, log 5] -/
def insertEvent (e : Event) : List Event → List Event
  | [] => [e]
  | x :: xs => if e.raised < x.raised ∨ (x.raised = e.raised ∧ e.src < x.src) then e :: x :: xs else x :: insertEvent e xs

/-- Put an event at its source; a source whose four places are full loses it (R379). -/
def State.holdEvent (s : State) (e : Event) : State :=
  if (s.evc.held.filter fun x => x.src == e.src).length < 4 then
    { s with evc := { s.evc with held := insertEvent e s.evc.held } }
  else (s.bump (R.EVC_LOSTd 9) 1).flag F.EVC_FLAGS_SRC_OVF

/-- Raise event `code` from source `src` (R374-R376): the tally counts it and its record waits at the source. -/
def State.raise (s : State) (code : BitVec 12) (src : Nat) (ctx : Word) (aux : Nat) : State :=
  (s.tallyEvent code).holdEvent ⟨code, BitVec.ofNat 8 src, BitVec.ofNat 8 aux, ctx, s.stamp, s.cycle.no, none⟩

/-- Raise an event in the next cycle. -/
def State.raiseNext (s : State) (code : BitVec 12) (src : Nat) (ctx : Word) (aux : Nat) : State :=
  (s.tallyEvent code).holdEvent ⟨code, BitVec.ofNat 8 src, BitVec.ofNat 8 aux, ctx, s.stamp, s.cycle.no + 1, none⟩

/-- Raise an event directed to the cores of a mask (R378), with a stamp of its own. -/
def State.raiseTo (s : State) (code : BitVec 12) (src : Nat) (ctx : Word) (aux : Nat) (cores : BitVec 8)
    (stamp : BitVec 48) : State :=
  (s.tallyEvent code).holdEvent ⟨code, BitVec.ofNat 8 src, BitVec.ofNat 8 aux, ctx, stamp, s.cycle.no, some cores⟩

/-- `period` dticks have passed since the limited raising numbered `key`, or there was none. -/
def State.limitOpen (s : State) (key period : Nat) : Bool :=
  match kget? s.limits key with
  | some t => decide (t.toNat + period ≤ s.now)
  | none => true

/-- Raise an event at most once per `period` dticks for its key; the tally counts every occurrence (R376, R385). -/
def State.raiseLimited (s : State) (key period : Nat) (code : BitVec 12) (src : Nat) (ctx : Word) (aux : Nat) : State :=
  if s.limitOpen key period then
    let s := s.raise code src ctx aux
    { s with limits := sput s.limits key s.time }
  else s.tallyEvent code

/-! ### Event codes (R376) -/
namespace Ev
def ADC_OVERLOAD : BitVec 12 := 0x001
def ZC_LOCKED : BitVec 12 := 0x002
def ZC_LOST : BitVec 12 := 0x003
def PORT_RESET : BitVec 12 := 0x004
def RXID_EXHAUSTED : BitVec 12 := 0x005
def CAPTURED : BitVec 12 := 0x006
def MASK_VIOLATION : BitVec 12 := 0x010
def TX_CAL_DONE : BitVec 12 := 0x011
def SF_START : BitVec 12 := 0x100
def TX_DONE : BitVec 12 := 0x101
def TX_DROPPED : BitVec 12 := 0x102
def TX_LATE : BitVec 12 := 0x103
def ACK_CANCELLED : BitVec 12 := 0x104
def TQ_FULL : BitVec 12 := 0x105
def TQ_EXPIRED : BitVec 12 := 0x106
def ALM_MISMATCH : BitVec 12 := 0x107
def WIN_FULL : BitVec 12 := 0x108
def STALL_LOST : BitVec 12 := 0x109
def STALL_FOUND : BitVec 12 := 0x10A
def DL_FAILED : BitVec 12 := 0x10B
def TIMING_LOST : BitVec 12 := 0x10C
def RX_DELIVERED : BitVec 12 := 0x200
def RX_DUPLICATE : BitVec 12 := 0x201
def LEDGER_FULL : BitVec 12 := 0x202
def LEDGER_BUSY : BitVec 12 := 0x203
def NEW_NEIGHBOUR : BitVec 12 := 0x204
def PERSIST_FAIL : BitVec 12 := 0x205
def LEDGER_INTEGRITY : BitVec 12 := 0x206
def VERSION_SWEEP : BitVec 12 := 0x207
def REBUILD_DONE : BitVec 12 := 0x208
def LGR_CMD_DONE : BitVec 12 := 0x209
def FC_EXHAUSTED : BitVec 12 := 0x20A
def LOCK_OVERRUN : BitVec 12 := 0x20B
def TAG_FAIL : BitVec 12 := 0x300
def CJOB_DONE : BitVec 12 := 0x301
def KEY_CMD_DONE : BitVec 12 := 0x302
def KEY_ZEROISED : BitVec 12 := 0x303
def RNG_FAIL : BitVec 12 := 0x304
def CRC_CHECK_FAIL : BitVec 12 := 0x310
def WCOLL : BitVec 12 := 0x400
def MARCH_DONE : BitVec 12 := 0x401
def MRAM_ERROR : BitVec 12 := 0x402
def PARTITION_WIPED : BitVec 12 := 0x403
def DDR_READY : BitVec 12 := 0x404
def DDR_TAG_FAIL : BitVec 12 := 0x405
def TAMPER : BitVec 12 := 0x500
def LC_CHANGE : BitVec 12 := 0x501
def PRESENCE : BitVec 12 := 0x502
def ATTEST_DONE : BitVec 12 := 0x503
def RING_FAULT : BitVec 12 := 0x600
def RING_ALIGNED : BitVec 12 := 0x601
def UART_RX : BitVec 12 := 0x700
def UART_TX_EMPTY : BitVec 12 := 0x701
def UART_ERROR : BitVec 12 := 0x702
def UART_BREAK : BitVec 12 := 0x703
def LINE_STUCK : BitVec 12 := 0x704
def MODE_CHANGE : BitVec 12 := 0x800
def MODE_REFUSED : BitVec 12 := 0x801
def RING_FULL : BitVec 12 := 0x802
def MAINS_LOST : BitVec 12 := 0x803
def MAINS_RETURN : BitVec 12 := 0x804
def CLOCK_FAIL : BitVec 12 := 0x805
def WAKE : BitVec 12 := 0x806
def REPLAN : BitVec 12 := 0x900
def AGE_ALERT : BitVec 12 := 0x901
def CORE_FAULT : BitVec 12 := 0xA00
end Ev

/-! ### Event sources (R375) -/
namespace Src
def lpChain (n : Nat) : Nat := 2 * n
def lpZc (n : Nat) : Nat := 2 * n + 1
def dmd (n : Nat) : Nat := 12 + n
def decoder : Nat := 18
def txp (n : Nat) : Nat := 19 + 2 * n
def guard (n : Nat) : Nat := 20 + 2 * n
def txCal : Nat := 31
def macSf : Nat := 32
def macWalker : Nat := 33
def macQueue : Nat := 34
def macStore : Nat := 35
def macFollow : Nat := 36
def lgrPage : Nat := 37
def lgrCommit : Nat := 38
def lgrCmd : Nat := 39
def lgrIntegrity : Nat := 40
def cph : Nat := 41
def key : Nat := 42
def crc (n : Nat) : Nat := 43 + n
def core (k : Nat) : Nat := 47 + k
def memSram : Nat := 55
def memMarch : Nat := 56
def memMram : Nat := 57
def memSecure : Nat := 58
def ddrCtl : Nat := 59
def ddrProt : Nat := 60
def uart (n : Nat) : Nat := 61 + n
def ulkRing : Nat := 63
def ulkTime : Nat := 64
def age (i : Nat) : Nat := 65 + i
def secTamper : Nat := 71
def secLife : Nat := 72
def secPresence : Nat := 73
def secBoot : Nat := 74
def hifRing (r : Nat) : Nat := 75 + r
def sysMode : Nat := 91
def sysMains : Nat := 92
def sysClock : Nat := 93
def sysPower : Nat := 94
end Src

/-! ### Memory bytes -/

/-- Base addresses of the device map (R521). -/
def sramBase : Nat := 0x10000000
def mramBase : Nat := 0x18000000
def tcmBase : Nat := 0x20000000
def regBase : Nat := 0x40000000
def extBase : Nat := 0x80000000

/-- SRAM bank `b`'s device address (R387). -/
def bankBase (b : Nat) : Nat := sramBase + 0x10000 * b

/-- The IV of line `x` of region `r` under version `v` and generation `gen` (R325). -/
def gcmLineIv (r x v : Nat) (gen : Word) : List Byte :=
  leBytes 4 x ++ leBytes 2 v ++ leBytes 4 gen.toNat ++ [BitVec.ofNat 8 r, 0]

/-- The ciphertext and the 8-byte tag of line `x` of a GCM region holding `data` (R325). -/
def gcmLineSeal (key : List Byte) (r x v : Nat) (gen : Word) (data : List Byte) : List Byte × List Byte :=
  gcmSeal key (gcmLineIv r x v gen) [] data 8

/-- What an unwritten byte of a zero-filled range holds, when the address lies in it. -/
def Fill.byteAt (f : Fill) (a : Nat) : Option Byte :=
  if f.base ≤ a ∧ a < f.base + f.size then
    some ((gcmLineSeal f.key f.region ((a - f.base) / 128) 0 f.gen (zeros 128)).1.getD ((a - f.base) % 128) 0)
  else if f.tagBase ≤ a ∧ a < f.tagBase + f.size / 16 then
    some ((gcmLineSeal f.key f.region ((a - f.tagBase) / 8) 0 f.gen (zeros 128)).2.getD ((a - f.tagBase) % 8) 0)
  else none

/-- What an unlisted byte reads as: 0xFF in the ledger's ADDR table (R291), the encryption of zeros where a region was zero-filled
(R407), zero elsewhere. [DESIGN CHOICE, log 6] -/
def memDefault (fills : List Fill) (a : Nat) : Byte :=
  if 0x18100000 ≤ a ∧ a < 0x18200000 then 0xFF
  else (fills.findSome? fun f => f.byteAt a).getD 0

/-- The byte stored at a device address. [DESIGN CHOICE, log 6] -/
def State.byte (s : State) (a : Nat) : Byte := sget (memDefault s.fills) s.mem a

/-- Store a byte. -/
def State.setByte (s : State) (a : Nat) (b : Byte) : State := { s with mem := sset (memDefault s.fills) s.mem a b }

/-- `n` stored bytes from `a` up. -/
def State.bytes (s : State) (a n : Nat) : List Byte := (List.range n).map fun i => s.byte (a + i)

/-- Store bytes from `a` up. -/
def State.setBytes (s : State) : Nat → List Byte → State
  | _, [] => s
  | a, b :: bs => (s.setByte a b).setBytes (a + 1) bs

/-- A stored little-endian number of `n` bytes. -/
def State.le (s : State) (a n : Nat) : Nat := leNat (s.bytes a n)

/-- Store a little-endian number of `n` bytes. -/
def State.setLe (s : State) (a n v : Nat) : State := s.setBytes a (leBytes n v)

/-- Clear a range of memory back to what unlisted bytes read as, under a new list of zero-filled ranges. -/
def State.clearRange (s : State) (lo hi : Nat) (fills : List Fill) : State :=
  { s with mem := s.mem.filter (fun p => decide (p.1 < lo ∨ hi ≤ p.1)), fills := fills }

/-- Store a byte of host memory (zero where the device has written nothing). -/
def State.setHostByte (s : State) (a : Nat) (b : Byte) : State :=
  { s with hostMem := sset (fun _ => 0) s.hostMem a b }

/-- [DESIGN CHOICE, log 54] -/
def State.setHostBytes (s : State) : Nat → List Byte → State
  | _, [] => s
  | a, b :: bs => (s.setHostByte a b).setHostBytes (a + 1) bs

/-- The shared banks 20-35. -/
def inShared (a : Nat) : Bool := decide (bankBase 20 ≤ a ∧ a < bankBase 36)

/-- The ITCM and the DTCM of any core by global address (R340). -/
def inItcm (a : Nat) : Bool := decide (tcmBase ≤ a ∧ a < tcmBase + 0x100000 ∧ a % 0x20000 < 0x10000)
def inDtcm (a : Nat) : Bool := decide (tcmBase ≤ a ∧ a < tcmBase + 0x100000 ∧ 0x10000 ≤ a % 0x20000 ∧ a % 0x20000 < 0x18000)

def inMram (a : Nat) : Bool := decide (mramBase ≤ a ∧ a < mramBase + 0x1000000)
def inExt (a : Nat) : Bool := decide (extBase ≤ a ∧ a < 0x100000000)

/-- MRAM for firmware's use; the rest is device-managed (R400). -/
def inFirmware (a : Nat) : Bool := decide (mramBase + 0x400000 ≤ a ∧ a < mramBase + 0x1000000)

/-! ### SRAM banks out of use -/

/-- Whether an SRAM bank now reads zero and discards writes: failed (R396), under a destructive march run (R397), or being wiped
(R391). -/
def State.bankDown (s : State) (b : Nat) : Bool :=
  (if b < 32 then (s.reg R.MEM_BANK_FAIL_LO).getLsbD b else (s.reg R.MEM_BANK_FAIL_HI).getLsbD (b - 32)) ||
  (match s.memu.march with
   | some m => m.destructive && b / 8 == m.group && m.mask.getLsbD (b % 8)
   | none => false) ||
  (s.memu.wipe.isSome && decide (52 ≤ b))

/-- The bank that holds an address of SRAM or of a TCM window: bank 8 + k holds core k's ITCM, bank 16 + k / 2 its DTCM (R387). [DESIGN CHOICE, log 29] -/
def bankOf (a : Nat) : Nat :=
  if a < tcmBase then (a - sramBase) / 0x10000
  else
    let k := (a - tcmBase) / 0x20000
    if (a - tcmBase) % 0x20000 < 0x10000 then 8 + k else 16 + k / 2

/-- A byte of SRAM or TCM as a unit reads it. -/
def State.sramByte (s : State) (a : Nat) : Byte :=
  if ((sramBase ≤ a ∧ a < sramBase + 0x400000) ∨ (tcmBase ≤ a ∧ a < tcmBase + 0x100000)) ∧ s.bankDown (bankOf a) then 0 else s.byte a

/-- A byte of SRAM or TCM as a unit writes it; nothing else takes a unit's write. -/
def State.setSramByte (s : State) (a : Nat) (b : Byte) : State :=
  if (sramBase ≤ a ∧ a < sramBase + 0x400000) ∨ (tcmBase ≤ a ∧ a < tcmBase + 0x100000) then
    if s.bankDown (bankOf a) then s else s.setByte a b
  else s

/-! ### Interrupt causes (R518, R519) -/

/-- The device may issue requests of its own on the PCIe link (R500). [PRESUMED, log 22] -/
def State.mayRequest (s : State) : Bool := s.hif.pci.busMaster && !s.hif.pci.d3hot

/-- A vector is sent, and no longer pending. -/
def State.sendVector (s : State) (v : Nat) : State :=
  let s := s.setReg R.MSIX_PBA (s.reg R.MSIX_PBA &&& ~~~(BitVec.twoPow 32 v))
  { s with hif := { s.hif with msi := s.hif.msi ++ [BitVec.ofNat 5 v] } }

/-- A cause fires: its counts restart, its ISR bit sets, and in PCIe mode its vector is sent, or set pending when masked or when the
device may not issue requests. [PRESUMED, log 22] -/
def State.irqFire (s : State) (c : Fin 11) : State :=
  let s := { s with hif := { s.hif with irq := s.hif.irq.set c ⟨0, none⟩ } }
  let s := s.flagBit F.HIF_ISR_CAUSE c
  if s.sys.straps.hostSel || !s.fldBit F.HIF_IER_EN c then s
  else
    let v := s.fld (F.HIF_IRQc_VEC c)
    if (s.reg (R.MSIX_CTL v)).getLsbD 0 || !s.mayRequest then s.setReg R.MSIX_PBA (s.reg R.MSIX_PBA ||| BitVec.ofNat 32 (2 ^ v))
    else { s with hif := { s.hif with msi := s.hif.msi ++ [BitVec.ofNat 5 v] } }

/-- One occurrence of cause `c`. [DEDUCED, log 23] -/
def State.irqOccur (s : State) (c : Fin 11) : State :=
  let q := s.hif.irq[c]
  if max 1 (s.fld (F.HIF_IRQc_CNT c)) ≤ q.count + 1 then s.irqFire c
  else { s with hif := { s.hif with irq := s.hif.irq.set c ⟨q.count + 1, some (q.first.getD s.time)⟩ } }

/-- Set a HIF flag, an occurrence of cause 9. -/
def State.hifFlag (s : State) (f : Field) : State := (s.flag f).irqOccur 9

/-- In DORMANT, and until start-up follows the wake, no register, memory or bus of the device has power (R536). [DEDUCED, log 48] -/
def State.busOff (s : State) : Bool := s.sys.mode == .dormant

/-! ### Host addresses (R505) -/

/-- Where a 64-bit host-given address points: a device address in the regions allowed, a bus address, or nowhere valid. -/
inductive HostAddr where
  | device (a : Nat)
  | bus (a : Nat)
  | invalid
deriving DecidableEq, Repr

/-- Where `n` bytes from a host-given address lie: in one region of the device (R505), or on the bus while requests may be issued (R517). [DEDUCED, log 43] -/
def State.hostAddr (s : State) (a n : Nat) : HostAddr :=
  if a / 2 ^ 32 = 0xFFFFFFFF then
    let d := a % 2 ^ 32
    if (0x10140000 ≤ d ∧ d + n ≤ 0x10240000) ∨ (extBase ≤ d ∧ d + n ≤ 2 ^ 32) then .device d else .invalid
  else if s.sys.straps.hostSel || !s.mayRequest then .invalid else .bus a

/-- A register pair read as 64 bits. -/
def State.pair (s : State) (lo hi : Nat) : Nat := (s.reg lo).toNat + 2 ^ 32 * (s.reg hi).toNat

/-! ### The model's free values -/

/-- The state with one more free value drawn. [DESIGN CHOICE, log 9] -/
def State.drawn (s : State) (n : Nat) : State := { s with freeCtr := s.freeCtr + n }

/-- The answer of every meaning of this device. -/
abbrev Out := Host.Outcome State Fault Refusal

end Sys2Proof.Machine
end

