-- ==== Sys2Proof/Machine/ExtMem.lean ====
section
/-! DEFINITION. External memory behind the DDR controller (R404-R411), its protected lines (R323-R325), and the byte accesses the device's
units and the host interface's DMA make through it (R305, R505). -/

namespace Sys2Proof.Machine

/-! Keys of the rate limits in `State.limits` (R376). -/
namespace Lim
def ddrTag : Nat := 1
def rxidExhausted : Nat := 2
def ledgerFull : Nat := 3
def ringUnmatched : Nat := 4
def tqFull : Nat := 5
def wcoll : Nat := 6
def adcOverload (n : Nat) : Nat := 16 + n
def ringFull (r : Nat) : Nat := 32 + r
def uartError (n : Nat) : Nat := 48 + n
end Lim

/-- Base of region r (R406). [DEDUCED, log 30] -/
def State.regionBase (s : State) (r : Nat) : Nat :=
  (if r = 0 then s.reg R.LGR_COLD_BASE else if r = 1 then s.reg R.LGR_DIR_BASE else s.reg (R.DDR_RrBASE r)).toNat / 4096 * 4096

/-- Size of region r in bytes (R406). -/
def State.regionSize (s : State) (r : Nat) : Nat :=
  if r = 0 then max 1 (min 64 (s.fld F.LGR_COLD_CNT_CNT)) * 0x80000 else if r = 1 then 0x400000
  else (s.reg (R.DDR_RrSIZE r)).toNat / 4096 * 4096

/-- Tag area of region r (R406). -/
def State.regionTag (s : State) (r : Nat) : Nat := (s.reg (R.DDR_RrTAG r)).toNat / 128 * 128

/-- Whether region r is being swept: a general region (R408), or a ledger region (R280). -/
def State.regionSweeping (s : State) (r : Nat) : Bool :=
  if r < 2 then s.on F.LGR_STAT_SWEEP_BUSY else s.on (F.DDR_RrCTL_SWEEPING r)

/-- The generation register of region r (R325, R406). -/
def State.regionGenReg (s : State) (r : Nat) : Word := if r < 2 then s.reg R.LGR_GEN else s.reg (R.DDR_RrGEN r)

/-- The generation region r's lines are written under: the old one until a sweep has rewritten them (R408). [DEDUCED, log 30] -/
def State.regionGen (s : State) (r : Nat) : Word :=
  if s.regionSweeping r then s.regionGenReg r - 1 else s.regionGenReg r

/-- Where the 16-bit version of line x of region r lies (R279, R390, R406). -/
def State.versionAddr (s : State) (r x : Nat) : Nat :=
  if r = 0 then bankBase 52 + 2 * x else if r = 1 then bankBase 60 + 2 * x
  else bankBase 61 + 2 * (s.fld (F.DDR_RrCTL_VOFS r) * 1024 + x)

/-- That version, and its setting; a failed bank, or one being wiped, holds none (R391, R396). -/
def State.version (s : State) (r x : Nat) : Nat := leNat ((List.range 2).map fun i => s.sramByte (s.versionAddr r x + i))
def State.setVersion (s : State) (r x v : Nat) : State :=
  let a := s.versionAddr r x
  (s.setSramByte a (BitVec.ofNat 8 v)).setSramByte (a + 1) (BitVec.ofNat 8 (v / 256))

/-- The key in a named slot, if the slot holds one. -/
def State.namedKey (s : State) (slot : Nat) : Option KeySlot := kget? s.key.named slot

/-- The memory key of region r for a use that its flags must permit: DEC to read, ENC to write (R312). -/
def State.regionKeyFor (s : State) (r : Nat) (use : KeySlot → Bool) : Option (List Byte) :=
  match s.namedKey (s.fld (F.DDR_RrCTL_SLOT r)) with
  | some k => if k.policy = 3 ∧ use k = true then some k.key else none
  | none => none
def State.regionKey (s : State) (r : Nat) : Option (List Byte) := s.regionKeyFor r (·.dec)
def State.regionSeal (s : State) (r : Nat) : Option (List Byte) := s.regionKeyFor r (·.enc)

/-- The enabled region an address lies in, or the lost region whose key was zeroised (R411). -/
def State.regionOf (s : State) (a : Nat) : Option Nat :=
  let holds := fun r => decide (s.regionBase r ≤ a ∧ a < s.regionBase r + s.regionSize r)
  match (List.range 8).find? fun r => s.on (F.DDR_RrCTL_EN r) && holds r with
  | some r => some r
  | none => (List.range 8).find? fun r => s.on (F.DDR_RrCTL_KEYLOST r) && holds r

/-- Bytes fitted below the end of the window (R404). -/
def State.fitted (s : State) : Nat := min 0x80000000 ((s.fld F.DDR_STAT_SIZE + 1) * 0x40000000)

/-- R409's flag, capture and event for a failed tag at `a` in region r. -/
def State.tagFailed (s : State) (a r : Nat) : State :=
  let s := if s.on F.DDR_FLAGS_TAG_FAIL then s else s.setReg R.DDR_FAIL_ADDR (BitVec.ofNat 32 a)
  (s.flag F.DDR_FLAGS_TAG_FAIL).raiseLimited Lim.ddrTag 24576 Ev.DDR_TAG_FAIL Src.ddrProt (BitVec.ofNat 32 a) r

/-- Read the 128-byte line that holds address `a` (R324, R325); `none` is the error of R409. [DEDUCED, log 30] -/
def State.lineRead (s : State) (a : Nat) : State × Option (List Byte) :=
  let la := a / 128 * 128
  if !s.on F.DDR_STAT_READY then (s, none)
  else if s.fitted ≤ la - extBase then (s.flag F.DDR_FLAGS_UNMAPPED, none)
  else match s.regionOf la with
    | none => (s, some (s.bytes la 128))
    | some r =>
      match s.regionKey r with
      | none => (s, none)
      | some key =>
        if !s.on (F.DDR_RrCTL_EN r) then (s, none)
        else if s.fld (F.DDR_RrCTL_MODE r) = 1 then
          (s, some (xtsDec key ((la - extBase) / 128) (s.bytes la 128)))
        else if !s.on (F.DDR_RrCTL_READY r) then (s, none)
        else
          let x := (la - s.regionBase r) / 128
          let v := s.version r x
          let res := gcmOpen key (gcmLineIv r x v (s.regionGen r)) [] (s.bytes la 128) (s.bytes (s.regionTag r + 8 * x) 8)
          if res.2 then (s, some res.1) else (s.tagFailed a r, none)

/-- A whole line may be written at `la`: the controller serves it, and the region it lies in has its key (R325, R409). -/
def State.lineOpen (s : State) (la : Nat) : State × Bool :=
  if !s.on F.DDR_STAT_READY then (s, false)
  else if s.fitted ≤ la - extBase then (s.flag F.DDR_FLAGS_UNMAPPED, false)
  else match s.regionOf la with
    | none => (s, true)
    | some r =>
      (s, (s.regionSeal r).isSome && s.on (F.DDR_RrCTL_EN r) && (s.fld (F.DDR_RrCTL_MODE r) == 1 || s.on (F.DDR_RrCTL_READY r)))

/-- Start a sweep of general region r (R408): the flag and bit set and GEN goes up by one. -/
def State.startSweep (s : State) (r : Fin 8) : State :=
  if s.regionSweeping r then s
  else
    let s := (s.flag (F.DDR_RrCTL_SWEEPING r)).flag F.DDR_FLAGS_SWEEP
    let s := s.setReg (R.DDR_RrGEN r) (s.reg (R.DDR_RrGEN r) + 1)
    { s with memu := { s.memu with ddrSweep := s.memu.ddrSweep ++ [r] } }

/-- VERSION_SWEEP's start (R280): GEN goes up by one, and no line yet has a version under it. -/
def State.startLedgerSweep (s : State) : State :=
  if s.on F.LGR_STAT_SWEEP_BUSY then s
  else ((s.setReg R.LGR_GEN (s.reg R.LGR_GEN + 1)).setFld F.LGR_VER_VER_MAX 0).flag F.LGR_STAT_SWEEP_BUSY

/-- A line of a ledger region has taken version v (R280): VER_MAX, and the sweep at 0xFF00. [DEDUCED, log 32] -/
def State.versionCheck (s : State) (v : Nat) : State :=
  let s := if s.fld F.LGR_VER_VER_MAX < v ∧ s.on F.LGR_STAT_SWEEP_BUSY = false then s.setFld F.LGR_VER_VER_MAX v else s
  if 0xFF00 ≤ v then
    let s := s.flag F.LGR_FLAGS_VER_HIGH
    if s.on F.LGR_STAT_SWEEP_BUSY then s
    else
      let s := s.startLedgerSweep
      s.raise Ev.VERSION_SWEEP Src.lgrIntegrity (s.reg R.LGR_GEN) 0
  else s

/-- Write a whole 128-byte line at line address `la`; the line's error, if any, was found by `lineRead` (R408, R409). [DEDUCED, log 30] -/
def State.lineWrite (s : State) (la : Nat) (data : List Byte) : State :=
  match s.regionOf la with
  | none => s.setBytes la data
  | some r =>
    match s.regionSeal r with
    | none => s
    | some key =>
      if s.fld (F.DDR_RrCTL_MODE r) = 1 then s.setBytes la (xtsEnc key ((la - extBase) / 128) data)
      else
        let x := (la - s.regionBase r) / 128
        let v := s.version r x + 1
        let s := s.setVersion r x v
        let (ct, tag) := gcmLineSeal key r x v (s.regionGen r) data
        let s := (s.setBytes la ct).setBytes (s.regionTag r + 8 * x) tag
        if r < 2 then s.versionCheck v else if h : r < 8 ∧ 0xFF00 ≤ v then s.startSweep ⟨r, h.1⟩ else s

/-- Read `n` bytes from external memory, line by line; `fuel` bounds the lines. -/
def State.extReadAux : Nat → State → Nat → Nat → State × Option (List Byte)
  | 0, s, _, _ => (s, some [])
  | fuel + 1, s, a, n =>
    if n = 0 then (s, some [])
    else
      let k := min n (128 - a % 128)
      match s.lineRead a with
      | (s, none) => (s, none)
      | (s, some l) =>
        match State.extReadAux fuel s (a + k) (n - k) with
        | (s, none) => (s, none)
        | (s, some bs) => (s, some ((l.drop (a % 128)).take k ++ bs))

def State.extRead (s : State) (a n : Nat) : State × Option (List Byte) := State.extReadAux (n / 128 + 2) s a n

/-- Write bytes to external memory, line by line; a line in error is left, and the answer says whether every line was written. -/
def State.extWriteAux : Nat → State → Nat → List Byte → State × Bool
  | 0, s, _, _ => (s, true)
  | fuel + 1, s, a, bs =>
    if bs.isEmpty then (s, true)
    else
      let k := min bs.length (128 - a % 128)
      let (s, ok) := if k = 128 then (match s.lineOpen a with
          | (s, ok) => (if ok then s.lineWrite a (bs.take 128) else s, ok))
        else match s.lineRead a with
        | (s, none) => (s, false)
        | (s, some l) => (s.lineWrite (a / 128 * 128) (l.take (a % 128) ++ bs.take k ++ l.drop (a % 128 + k)), true)
      let (s, ok2) := State.extWriteAux fuel s (a + k) (bs.drop k)
      (s, ok && ok2)

def State.extWrite (s : State) (a : Nat) (bs : List Byte) : State × Bool := State.extWriteAux (bs.length / 128 + 2) s a bs

/-- Store SRAM or TCM bytes, byte by byte. -/
def State.setSramBytes (s : State) : Nat → List Byte → State
  | _, [] => s
  | a, b :: bs => (s.setSramByte a b).setSramBytes (a + 1) bs

/-! ### The dual-port banks (R387-R389) -/

/-- Bytes from `a` up cut at word boundaries; `fuel` bounds the pieces. -/
def wordRuns : Nat → Nat → List Byte → List (Nat × List Byte)
  | 0, _, _ => []
  | fuel + 1, a, bs =>
    if bs.isEmpty then [] else (a, bs.take (4 - a % 4)) :: wordRuns fuel (a + (4 - a % 4)) (bs.drop (4 - a % 4))

/-- The writes made to the dual-port banks at this device time. [DESIGN CHOICE, log 59] -/
def State.dualNow (s : State) : List DualWrite := if s.memu.dualAt = s.time then s.memu.dual else []

/-- A write to word `w` was one of a collision (R388). [DESIGN CHOICE, log 59] -/
def State.collided (s : State) (w : Nat) : State :=
  let x := BitVec.ofNat 32 (4 * w)
  let s := if s.on F.MEM_FLAGS_WCOLL then s else s.setReg R.MEM_WCOLL_ADDR x
  (s.flag F.MEM_FLAGS_WCOLL).raiseLimited Lim.wcoll 24576 Ev.WCOLL Src.memSram x 0

/-- The bytes of one word as a read through port A or B returns them: in the cycle of the other port's write of the word, those before it
(R389). [DESIGN CHOICE, log 59] -/
def State.portRead (s : State) (portA : Bool) (a n : Nat) : State × List Byte :=
  let bytes := (List.range n).map fun i => s.sramByte (a + i)
  match s.dualNow.find? fun d => d.word == a / 4 && d.portA != portA with
  | none => (s, bytes)
  | some d => (s.drawn 1, if Config.sameCycle s.freeCtr (a / 4) then (List.range n).map fun i => d.old.getD (a % 4 + i) 0 else bytes)

/-- A running core's ITCM takes no write (R342). -/
def State.itcmTakes (s : State) (a : Nat) (bs : List Byte) : State :=
  if h : tcmBase ≤ a ∧ (a - tcmBase) / 0x20000 < 8 then
    match s.cores[(a - tcmBase) / 0x20000].run with
    | .stopped | .halted => s.setSramBytes a bs
    | _ => s.flag F.OCC_FLAGS_ITCM_WP
  else s

/-- A unit's write of bytes of one word outside the shared banks: TCMs take it (R342), of MRAM the device-managed areas refuse it (R400), and
every other bank serves other units only (R274, R387). [DEDUCED, log 30] -/
def State.ownWord (s : State) (a : Nat) (bs : List Byte) : State :=
  if inDtcm a then s.setSramBytes a bs
  else if inItcm a then s.itcmTakes a bs
  else if inMram a && !inFirmware a then s.flag F.MEM_FLAGS_MRAM_WP
  else s

/-- A write of bytes of one word through port A or B. Against a write of the other port in the same cycle, port A's data stands in the bytes
both enable (R388). [DESIGN CHOICE, log 59] -/
def State.portWord (s : State) (portA : Bool) (a : Nat) (bs : List Byte) : State :=
  if !inShared a then s.ownWord a bs
  else
    let w := a / 4
    let now := s.dualNow
    let old := (List.range 4).map fun i => s.sramByte (4 * w + i)
    let s := { s with memu := { s.memu with dualAt := s.time, dual := ⟨portA, w, a, bs.length, old⟩ :: now } }
    match now.find? fun d => d.word == w && d.portA != portA with
    | none => s.setSramBytes a bs
    | some d =>
      let hit := Config.sameCycle s.freeCtr w
      let s := s.drawn 1
      if !hit then s.setSramBytes a bs
      else
        let mine := bs.zipIdx.filter fun p => portA || !decide (d.lo ≤ a + p.2 ∧ a + p.2 < d.lo + d.n)
        (mine.foldl (fun (s : State) p => s.setSramByte (a + p.2) p.1) s).collided w

/-- A write of SRAM or TCM bytes through a port. -/
def State.portWrite (s : State) (portA : Bool) (a : Nat) (bs : List Byte) : State :=
  (wordRuns bs.length a bs).foldl (fun (s : State) r => s.portWord portA r.1 r.2) s

/-- A byte outside the shared banks as a unit reads it: what other units alone are served by reads zero (R274, R387, R390). [DEDUCED, log 30] -/
def State.unitByte (s : State) (a : Nat) : Byte :=
  if inShared a || inDtcm a || inItcm a then s.sramByte a else if inMram a then s.byte a else 0

/-- Bytes of device memory through port A or B; `fuel` bounds the words. -/
def State.portBytesAux : Nat → State → Bool → Nat → Nat → State × List Byte
  | 0, s, _, _, _ => (s, [])
  | fuel + 1, s, portA, a, n =>
    if n = 0 then (s, [])
    else
      let k := min n (4 - a % 4)
      let (s, x) := if inShared a then s.portRead portA a k else (s, (List.range k).map fun i => s.unitByte (a + i))
      let (s, y) := State.portBytesAux fuel s portA (a + k) (n - k)
      (s, x ++ y)

/-- Bytes of device memory through a port: with no write by the other port at this instant, as they stand. -/
def State.portBytes (s : State) (portA : Bool) (a n : Nat) : State × List Byte :=
  if s.dualNow.any fun d => d.portA != portA then State.portBytesAux n s portA a n else (s, (List.range n).map fun i => s.unitByte (a + i))

/-- Device memory as a unit or the DMA reads it: external memory through the controller, the rest through port A or B. -/
def State.devRead (s : State) (portA : Bool) (a n : Nat) : State × Option (List Byte) :=
  if extBase ≤ a then s.extRead a n
  else
    let r := s.portBytes portA a n
    (r.1, some r.2)

/-- A unit's read of device memory. -/
def State.unitRead (s : State) (a n : Nat) : State × Option (List Byte) := s.devRead true a n

/-- A unit's write of device memory, in the dual-port banks through port A. [DEDUCED, log 30] -/
def State.unitWrite (s : State) (a : Nat) (bs : List Byte) : State × Bool :=
  if extBase ≤ a then s.extWrite a bs else (s.portWrite true a bs, true)

/-- A DMA read from a host-given address (R505); `none` is a DMA error (R517). [DESIGN CHOICE, log 6; DESIGN CHOICE, log 54] -/
def State.dmaRead (s : State) (a n : Nat) : State × Option (List Byte) :=
  match s.hostAddr a n with
  | .device d => s.devRead false d n
  | .bus b => (s, some ((List.range n).map fun i => sget (fun _ => 0) s.hostMem (b + i)))
  | .invalid => (s, none)

/-- A DMA write to a host-given address, in the dual-port banks through port B; the answer is false on a DMA error. [DESIGN CHOICE, log 54] -/
def State.dmaWrite (s : State) (a : Nat) (bs : List Byte) : State × Bool :=
  match s.hostAddr a bs.length with
  | .device d => if extBase ≤ d then s.extWrite d bs else (s.portWrite false d bs, true)
  | .bus b => (s.setHostBytes b bs, true)
  | .invalid => (s, false)

end Sys2Proof.Machine
end

