-- ==== Sys2Proof/Machine/AgeEnd.lean ====
section
/-! DEFINITION. How an ageing run ends: its alerts, its event and what it leaves for the next (R474, R477). -/

namespace Sys2Proof.Machine

def State.modAge (s : State) (f : Age → Age) : State := { s with age := f s.age }

/-- When the next periodic run is due: PERIOD_H hours after the start of the last (R473), at once where none has run. [DEDUCED, log 53] -/
def State.agePeriod (s : State) : Nat :=
  match s.age.lastStart with
  | some t => t.toNat + s.fld F.AGE_CTL_PERIOD_H * 3600 * 24576000
  | none => 0

/-- DORMANT entry keeps when a periodic run was due, while there are any. -/
def State.sleepAge (s : State) : State :=
  let due := match s.age.hold with
    | some h => h
    | none => BitVec.ofNat 64 s.agePeriod
  s.modAge fun a => { a with sleepDue := if s.on F.AGE_CTL_EN && s.on F.AGE_CTL_PERIOD_H then some due else none }

/-- The end of a start-up: a run that fell due in LASTGASP or DORMANT, and has not been taken since, is held to 1 s from now (R473). -/
def State.wakeAge (s : State) : State :=
  let owed := s.age.hold.isSome || s.age.sleepDue.any fun t => decide (t.toNat ≤ s.now)
  s.modAge fun a => { a with hold := if owed then some (s.time + 24576000) else none, sleepDue := none }

/-- The drift of largest magnitude. -/
def largest (l : List (Option Int)) : Int := (l.filterMap id).foldl (fun m x => if m.natAbs < x.natAbs then x else m) 0

def State.ageAlert (s : State) (i : Nat) (cond : Bool) (ctx : Word) : State :=
  if cond then (s.flag F.AGE_FLAGS_ALERT).raise Ev.AGE_ALERT (Src.age i) ctx i else s

/-- The alerts of R477. [DEDUCED, log 53] -/
def State.ageAlerts (s : State) (mramM : Nat) (d : Drift) (xofs : Option Int) : State :=
  let ro := listMax d.ro
  let w16 := fun (i : Int) => BitVec.ofNat 32 (toTwos 16 i)
  let gain := largest (d.rx ++ d.tx)
  let s := s.ageAlert 0 (decide (s.fld F.AGE_LIM_RO_PPM < ro)) (BitVec.ofNat 32 ro)
  let s := s.ageAlert 1 (decide (256 < (largest d.adc).natAbs)) (w16 (largest d.adc))
  let s := s.ageAlert 2 (decide (512 < gain.natAbs)) (w16 gain)
  let s := s.ageAlert 3 (decide (2000 < (xofs.getD 0).natAbs)) (BitVec.ofInt 32 (xofs.getD 0))
  let s := s.ageAlert 4 (decide (mramM < s.fld F.AGE_LIM_MRAM_MIN)) (BitVec.ofNat 32 mramM)
  s.ageAlert 5 (decide (96 ≤ s.fld F.MEM_REPAIR_STAT_ROWS) || s.on F.MEM_REPAIR_STAT_PENDING) (s.reg R.MEM_REPAIR_STAT)

/-- What a run leaves for the next: its captures, PPS intervals and loopback measurements start anew. -/
def State.endAge (s : State) : State :=
  let s := s.modAge fun a => { a with running := none, closing := none, ppsCount := 0, ppsSum := 0, txGain := Vector.replicate 6 none }
  let s := { s with lp := s.lp.map fun (l : LpChain) => { l with lbWin := ⟨⟨0, 0⟩, ⟨0, 0⟩, 0⟩, lbSum := 0, lbCnt := 0 } }
  s.setFld F.AGE_STAT_BUSY 0

/-- The table stands written: the registers show the run, its alerts are raised, REPLAN follows in the next cycle, and REBASE clears (R474). -/
def State.closeAge (s : State) (c : AgeClose) : State :=
  let s := ((s.setFld F.AGE_STAT_LAST c.slot).setFld F.AGE_STAT_RUN c.run).setReg R.AGE_XOFS c.xword
  let s := (s.ageAlerts c.mramM c.drift c.xofs).raiseNext Ev.REPLAN (Src.age 0) c.table 0
  s.endAge.setFld F.AGE_CTL_REBASE 0

/-- A run that waits for its table to be written goes on when no word of it is left. [DEDUCED, log 53] -/
def State.ageWritten (s : State) : State :=
  match s.age.closing with
  | some c => if s.memu.mramPend.any fun w => w.writer == .record .margin then s else s.closeAge c
  | none => s

end Sys2Proof.Machine
end

