-- ==== Sys2Proof/Machine/Mram.lean ====
section
/-! DEFINITION. MRAM word writes: the 10 us limit, the freeze, completion in memory and the device's own records (R399-R402, R526). -/

namespace Sys2Proof.Machine

/-- The 10 us of R401 in dticks, rounded up. -/
def mramGap : Nat := usDticks 10

/-- The word at `w` may be written now under R401. -/
def State.mramOpen (s : State) (w : Nat) : Bool :=
  match kget? s.memu.mramLast w with
  | some t => decide (t.toNat + mramGap ≤ s.now)
  | none => true

/-- Two writes of one order: one core's MRAM stores take effect in program order (R401), and a unit or a ledger command writes word by word, but
for a tamper entry, whose words go together. [DEDUCED, log 28] -/
def MramWriter.inOrder : MramWriter → MramWriter → Bool
  | .core a, .core b => a == b
  | .command, .command => true
  | .record a, .record b => a == b && a != .tamper
  | _, _ => false

/-- Issue a write of some bytes of the word at `w` (R399, R401): it starts at once unless the limit, a freeze, an earlier write of its order or
an earlier one of the word holds it. [DEDUCED, log 28] -/
def State.mramIssue (s : State) (w : Nat) (bytes : List (Nat × Byte)) (by_ : MramWriter) : State :=
  let go := s.mramOpen w && !s.sys.mramFrozen && !(s.memu.mramPend.any fun p => p.writer.inOrder by_ || p.addr.toNat == w)
  let s := { s with memu := { s.memu with mramPend := s.memu.mramPend ++ [⟨BitVec.ofNat 32 w, bytes, by_, go⟩] } }
  if go then { s with memu := { s.memu with mramLast := sput s.memu.mramLast w s.time } } else s

/-- Split a waiting list at the first write that satisfies `p`. -/
def takeFirst (p : MramWrite → Bool) : List MramWrite → Option (MramWrite × List MramWrite)
  | [] => none
  | x :: xs => if p x then some (x, xs) else (takeFirst p xs).map fun (y, ys) => (y, x :: ys)

/-- Put a write's bytes into memory. [DEDUCED, log 28] -/
def State.mramStore (s : State) (w : MramWrite) : State := w.bytes.foldl (fun s p => s.setByte p.1 p.2) s

/-- The writes of the words that a record of the device's covers (R400): each is issued, waits and ends as any word write does. [DEDUCED, log 28] -/
def State.mramRecord (s : State) (by_ : MramWriter) (a : Nat) (bs : List Byte) : State :=
  (wordRuns bs.length a bs).foldl (fun (s : State) r => s.mramIssue (r.1 / 4 * 4) (r.2.zipIdx.map fun p => (r.1 + p.2, p.1)) by_) s

/-! ### What the units that own an area know it to hold: memory under the writes not yet complete -/

def State.mramByte (s : State) (a : Nat) : Byte :=
  (s.memu.mramPend.reverse.findSome? fun w => kget? w.bytes a).getD (s.byte a)
def State.mramBytes (s : State) (a n : Nat) : List Byte := (List.range n).map fun i => s.mramByte (a + i)
def State.mramLe (s : State) (a n : Nat) : Nat := leNat (s.mramBytes a n)

/-- Erase MRAM from `lo` to before `hi`, word by word: every word of it that holds anything, or is to, is written back to what an unlisted byte
reads as. [DEDUCED, log 28] -/
def State.mramErase (s : State) (by_ : MramWriter) (lo hi : Nat) : State :=
  let used := fun (a : Nat) => decide (lo ≤ a ∧ a < hi)
  let words := ((s.mem.map (·.1)).filter used ++ (s.memu.mramPend.flatMap fun w => w.bytes.map (·.1)).filter used).map (· / 4)
  words.eraseDups.foldl (fun (s : State) w =>
    s.mramIssue (4 * w) (((List.range 4).map fun i => (4 * w + i, memDefault [] (4 * w + i))).filter fun p => used p.1) by_) s

/-- No write of the words from `a` to `a + n` is waiting or under way. -/
def State.mramQuiet (s : State) (a n : Nat) : Bool := !s.memu.mramPend.any fun w => decide (a < w.addr.toNat + 4 ∧ w.addr.toNat < a + n)

/-! ### Waiting writes -/

/-- A waiting write that may start now: the limit, the freeze, and earlier writes of its order and of its word. -/
def State.mayStart (s : State) (before : List MramWrite) (w : MramWrite) : Bool :=
  !w.started && !s.sys.mramFrozen && s.mramOpen w.addr.toNat
    && !(before.any fun p => p.writer.inOrder w.writer || p.addr == w.addr)

/-- Start every waiting write that may start, in order; `before` are those already passed. -/
def State.kickAux (s : State) : List MramWrite → List MramWrite → State × List MramWrite
  | before, [] => (s, before)
  | before, w :: ws =>
    if s.mayStart before w then
      let s := { s with memu := { s.memu with mramLast := sput s.memu.mramLast w.addr.toNat s.time } }
      s.kickAux (before ++ [{ w with started := true }]) ws
    else s.kickAux (before ++ [w]) ws

/-- [DEDUCED, log 28] -/
def State.mramKick (s : State) : State :=
  let r := s.kickAux [] s.memu.mramPend
  { r.1 with memu := { r.1.memu with mramPend := r.2 } }

/-- An uncorrectable MRAM read or failed write (R402). -/
def State.mramError (s : State) (a : Nat) : State :=
  ((s.flag F.MEM_FLAGS_MRAM_ERR).setReg R.MEM_MRAM_ERR_ADDR (BitVec.ofNat 32 a)).raise Ev.MRAM_ERROR Src.memMram (BitVec.ofNat 32 a) 0

/-- The word at an address is written again as it stands when the write is performed: no byte of it changes. -/
def State.rewriteWord (s : State) (a : Nat) : State := s.mramIssue a [] .scrub

/-- A read of the word at `a` corrected a single-bit error: it is counted and the word is rewritten (R402). [DEDUCED, log 28] -/
def State.mramCorrected (s : State) (a : Nat) : State :=
  ((s.setFld F.MEM_MRAM_STAT_CORR (min 65535 (s.fld F.MEM_MRAM_STAT_CORR + 1))).flag F.MEM_FLAGS_MRAM_CORR).rewriteWord a

/-- Words from `a` to `a + n` read with the errors listed: each is counted or reported, and the answer names those that cannot be corrected, which
read zero (R402). [DEDUCED, log 28] -/
def State.mramReads (s : State) (errs : List (Word × ScrubOutcome)) (a n : Nat) : State × List Nat :=
  (errs.filter fun e => inMram e.1.toNat && decide (a < e.1.toNat + 4 ∧ e.1.toNat < a + n)).foldl (fun (p : State × List Nat) e =>
    match e.2 with
    | .good | .weak => p
    | .corrected => (p.1.mramCorrected e.1.toNat, p.2)
    | .uncorrectable => (p.1.mramError e.1.toNat, e.1.toNat / 4 :: p.2)) (s, [])

/-- Bytes read from `a`, those of words that cannot be corrected as zero (R402). -/
def zeroLost (lost : List Nat) (a : Nat) (bs : List Byte) : List Byte := bs.zipIdx.map fun p => if lost.contains ((a + p.2) / 4) then 0 else p.1

/-- What a unit of the device reads, with the MRAM errors listed (R402); it gets zeros where external memory gives it none (R409). -/
def State.unitData (s : State) (errs : List (Word × ScrubOutcome)) (a n : Nat) : State × List Byte :=
  let (s, lost) := s.mramReads errs a n
  match s.unitRead a n with
  | (s, some bs) => (s, zeroLost lost a bs)
  | (s, none) => (s, zeros n)

/-- A record that a unit keeps in MRAM, `n` bytes from `a`, read with the errors listed (R402). -/
def State.recordRead (s : State) (errs : List (Word × ScrubOutcome)) (a n : Nat) : State × List Byte :=
  let (s, lost) := s.mramReads errs a n
  (s, zeroLost lost a (s.mramBytes a n))

/-- A read of the word at `a` with the outcome given; the answer is false where its error cannot be corrected (R402). [DEDUCED, log 28] -/
def State.mramRead (s : State) (a : Nat) (outcome : ScrubOutcome) : State × Bool :=
  match outcome with
  | .good | .weak => (s, true)
  | .corrected => (s.mramCorrected a, true)
  | .uncorrectable => (s.mramError a, false)

end Sys2Proof.Machine
end

