-- ==== Sys2Proof/Machine/CheckUnit.lean ====
section
/-! DEFINITION. The check-value unit's general contexts: INIT, direct feeds, snooped streams and DMA transfers (R332-R336). -/

namespace Sys2Proof.Machine

/-- The polynomial context n works under. -/
def State.crcPoly (s : State) (n : Fin 4) : Poly := Poly.ofCode (s.fld (F.CRC_CTXn_CTL_POLY n))

/-- VALUE of context n: the polynomial's w bits (R337). -/
def State.crcValue (s : State) (n : Fin 4) : Word := s.reg (R.CRC_CTXn_VALUE n) &&& lowMask (s.crcPoly n).width

/-- RESULT of context n (R331). -/
def State.crcResultNow (s : State) (n : Fin 4) : Word := crcResult (s.crcPoly n) (s.crcValue n)

/-- Feed bytes to context n (R331): VALUE runs on and BYTES counts, saturating. -/
def State.crcFeed (s : State) (n : Fin 4) (bs : List Byte) : State :=
  let v := crcBytes (s.crcPoly n) (s.crcValue n) bs
  (s.setReg (R.CRC_CTXn_VALUE n) v).setFld (F.CRC_CTXn_STAT_BYTES n) (min 0xFFFFFF (s.fld (F.CRC_CTXn_STAT_BYTES n) + bs.length))

/-- Set context n's snoop and STAT.ARMED with it. -/
def State.setSnoop (s : State) (n : Fin 4) (p : Snoop) : State :=
  ({ s with crc := s.crc.set n p }).setOn (F.CRC_CTXn_STAT_ARMED n) (p != Snoop.idle)

/-- A write of CRC_CTXn_CTL (R333): the fields take their values; INIT loads VALUE, clears BYTES, VERDICT and ABORT and arms a
snooping source. [DEDUCED, log 58] -/
def State.writeCrcCtl (s : State) (n : Fin 4) (v : Word) : State :=
  let s := s.setReg (R.CRC_CTXn_CTL n) (v &&& 0x00FF3373)
  if v.getLsbD 31 then
    let s := s.setReg (R.CRC_CTXn_VALUE n) (s.crcPoly n).init
    let s := s.setReg (R.CRC_CTXn_STAT n) 0
    let src := s.fld (F.CRC_CTXn_CTL_SRC n)
    s.setSnoop n (if src = 1 ∨ src = 2 ∨ src = 3 then .armed else .idle)
  else s

/-- CRC_INIT: the write of CRC_CTXn_CTL (R333). [DEDUCED, log 58] -/
def execCrcInit (n : Fin 4) (v : Word) (s : State) : Out := .next (s.writeCrcCtl n v)

/-- A direct feed of `bs` to context n, discarded with FEED_ERR unless its source is DIRECT (R333). -/
def State.crcDirect (s : State) (n : Fin 4) (bs : List Byte) : State :=
  if s.fld (F.CRC_CTXn_CTL_SRC n) = 0 then s.crcFeed n bs else s.flagBit F.CRC_FLAGS_FEED_ERR n

/-- A write of CRC_CTXn_DATA feeds DLEN bytes, low byte first, 0 meaning 4 (R334). -/
def State.writeCrcData (s : State) (n : Fin 4) (v : Word) : State :=
  let d := s.fld (F.CRC_CTXn_CTL_DLEN n)
  s.crcDirect n (leBytes (if d = 0 then 4 else d) v.toNat)

/-- CRC_DATA_WRITE (R334). -/
def execCrcDataWrite (n : Fin 4) (v : Word) (s : State) : Out := .next (s.writeCrcData n v)

/-- A write of VALUE keeps the polynomial's w bits (R337). -/
def State.writeCrcValue (s : State) (n : Fin 4) (v : Word) : State :=
  s.setReg (R.CRC_CTXn_VALUE n) (v &&& lowMask (s.crcPoly n).width)

/-- The four contexts. -/
def allContexts : List (Fin 4) := [0, 1, 2, 3]

/-- Context n takes source `src` selected as `sel`. [DEDUCED, log 58] -/
def State.crcTakes (s : State) (n : Fin 4) (src sel : Nat) : Bool :=
  s.fld (F.CRC_CTXn_CTL_SRC n) == src && s.fld (F.CRC_CTXn_CTL_SEL n) == sel

/-- TX_MAP: a transmission on `port` takes a stream; an armed context binds it (R332, R333). -/
def State.crcTxBind (s : State) (port op : Nat) : State :=
  allContexts.foldl (fun s (n : Fin 4) => if s.crcTakes n 1 port && s.crc[n] == .armed then s.setSnoop n (.tx op) else s) s

/-- A snoop of a transmission that has ended stops (R333). -/
def State.crcTxEnd (s : State) (op : Nat) : State :=
  allContexts.foldl (fun s (n : Fin 4) => if s.crc[n] == .tx op then s.setSnoop n .idle else s) s

/-- TX_MAP: the frame of a bound transmission enters the coding chain; its context takes the whole of it while CTL names the source. -/
def State.crcTxFrame (s : State) (op : Nat) (frame : List Byte) : State :=
  State.crcTxEnd (allContexts.foldl (fun s (n : Fin 4) =>
    if s.crc[n] == .tx op && s.fld (F.CRC_CTXn_CTL_SRC n) == 1 then s.crcFeed n frame else s) s) op

/-- RX_DEC: a reception's header passes its HCS; armed contexts on its port bind it and take the header copy (R332). -/
def State.crcRxHeader (s : State) (port : Nat) (rxid : Rxid) (header : List Byte) : State :=
  allContexts.foldl (fun s (n : Fin 4) =>
    if s.crcTakes n 2 port && s.crc[n] == .armed then (s.crcFeed n header).setSnoop n (.rx rxid) else s) s

/-- RX_DEC: payload bytes of a bound reception, taken while CTL names the source; `last` ends the snoop. -/
def State.crcRxBytes (s : State) (rxid : Rxid) (bs : List Byte) (last : Bool) : State :=
  allContexts.foldl (fun s (n : Fin 4) =>
    if s.crc[n] == .rx rxid then
      let s := if s.fld (F.CRC_CTXn_CTL_SRC n) == 2 then s.crcFeed n bs else s
      if last then s.setSnoop n .idle else s
    else s) s

/-- RX_DEC: a bound reception is squashed (R333). -/
def State.crcRxAbort (s : State) (rxid : Rxid) : State :=
  allContexts.foldl (fun s (n : Fin 4) =>
    if s.crc[n] == .rx rxid then (s.setSnoop n .idle).flag (F.CRC_CTXn_STAT_ABORT n) else s) s

/-- CORE_ST: a core stores bytes at `a`; a context whose window holds the address takes them (R332). -/
def State.crcCoreStore (s : State) (k : Nat) (a : Nat) (bs : List Byte) : State :=
  allContexts.foldl (fun s (n : Fin 4) =>
    if s.fld (F.CRC_CTXn_CTL_SRC n) == 4 && s.fld (F.CRC_CTXn_CTL_SEL n) % 8 == k then
      s.crcFeed n ((bs.zipIdx.filter fun p =>
        decide ((s.reg (R.CRC_CTXn_WLO n)).toNat ≤ a + p.2 ∧ a + p.2 < (s.reg (R.CRC_CTXn_WHI n)).toNat)).map (·.1))
    else s) s

/-- One context's part in a DMA transfer (R336): what it feeds, and the bytes as they reach the destination. -/
def State.crcDmaOne (s : State) (n : Fin 4) (bs : List Byte) : State × List Byte :=
  let w := (s.crcPoly n).width / 8
  let mode := s.fld (F.CRC_CTXn_CTL_MODE n)
  if mode = 0 then ((s.crcFeed n bs).setSnoop n .idle, bs)
  else if mode = 1 then
    let s := (s.crcFeed n bs).setSnoop n .idle
    (s, bs ++ leBytes w (s.crcResultNow n).toNat)
  else
    let body := bs.take (bs.length - w)
    let s := (s.crcFeed n body).setSnoop n .idle
    let ok := leBytes w (s.crcResultNow n).toNat == bs.drop (bs.length - w)
    let s := s.setFld (F.CRC_CTXn_STAT_VERDICT n) (if ok then 1 else 2)
    let s := if ok then s else
      (s.flagBit F.CRC_FLAGS_CHK_FAIL n).raise Ev.CRC_CHECK_FAIL (Src.crc n) (BitVec.ofNat 32 n) 0
    (s, if mode = 3 then body else bs)

/-- DMA: channel `c` makes a transfer; armed contexts on it take it (R332, R336). [DEDUCED, log 38; DEDUCED, log 58] -/
def State.crcDma (s : State) (c : Nat) (bs : List Byte) : State × List Byte :=
  allContexts.foldl (fun (p : State × List Byte) (n : Fin 4) =>
    if p.1.crcTakes n 3 c && p.1.crc[n] == .armed then p.1.crcDmaOne n p.2 else p) (s, bs)

end Sys2Proof.Machine
end

