-- ==== Sys2Proof/Machine/Lane.lean ====
section
/-! DEFINITION. The transmit lane of the Ulir ring: packets, their words, and the order in which they leave (R449-R451). -/

namespace Sys2Proof.Machine

def State.cid (s : State) : Nat := s.sys.straps.cid.toNat
def State.isMaster (s : State) : Bool := s.sys.straps.cid == 0

/-- A packet's bytes between SOF and EOF: header, payload, CRC-32C (R449). -/
def Packet.bytes (p : Packet) : List Byte :=
  let head := leBytes 1 p.type.toNat ++ leBytes 1 p.dst.toNat ++ leBytes 1 p.src.toNat ++ [p.seq] ++ leBytes 2 p.payload.length ++ leBytes 2 p.tag.toNat
  head ++ p.payload ++ crcStored .crc32c (head ++ p.payload)

/-- A word of a lane (R447): a data byte, or the byte of a control character. -/
structure LaneWord where
  control : Bool
  byte    : Byte
deriving DecidableEq, Repr

/-- A packet's words (R449): K27.7, its bytes, K29.7. -/
def Packet.words (p : Packet) : List LaneWord := ⟨true, 0xFB⟩ :: p.bytes.map (LaneWord.mk false) ++ [⟨true, 0xFD⟩]

/-- Idle words (R449): K28.5 alternating with D16.2, from K28.5 on. [DEDUCED, log 51] -/
def idleWord (n : Nat) : LaneWord := if n % 2 = 0 then ⟨true, 0xBC⟩ else ⟨false, 0x50⟩

/-- A word clock of the ring and a dtick, in 1/15,625 dtick (R447). -/
def wordClock : Nat := 3072
def laneDtick : Nat := 15625

/-- The time a packet takes on the lane: SOF, header, payload, CRC and EOF, a word clock for each byte (R447, R449). -/
def Waiting.span (w : Waiting) : Nat := (14 + w.payload.length) * wordClock

/-- The class of a packet (R451). -/
def Waiting.rank (w : Waiting) : Nat :=
  match w.type.toNat with
  | 1 | 2 | 3 | 4 => 1
  | 5 | 6 | 7 | 8 => 2
  | _ => 3

/-- A packet takes its place behind those of its class and of the classes before it. -/
def insertWaiting (w : Waiting) : List Waiting → List Waiting
  | [] => [w]
  | x :: xs => if x.rank ≤ w.rank then x :: insertWaiting w xs else w :: x :: xs

/-- A packet leaves: SEQ counts the packets this device sends (R449). -/
def Ulk.depart (u : Ulk) (cid : BitVec 5) (w : Waiting) (at_ : Nat) : Ulk :=
  { u with sent := u.sent ++ [⟨w.type, w.dst, cid, u.seq, w.tag, w.payload⟩], seq := u.seq + 1, laneEnd := at_ + w.span }

/-- Waiting packets leave, one behind the other, while the lane is idle by `t`. -/
def Ulk.drain (cid : BitVec 5) (t : Nat) : List Waiting → Ulk → Ulk
  | [], u => { u with waiting := [] }
  | w :: ws, u => if u.laneEnd ≤ t then Ulk.drain cid t ws (u.depart cid w u.laneEnd) else { u with waiting := w :: ws }

/-- The own word on the transmit lane now, where the lane has power: the packet that leaves, or idle. -/
def State.laneWord (s : State) : Option LaneWord :=
  let t := laneDtick * s.now
  let word := fun (p : Packet) =>
    if s.ulk.laneEnd ≤ t then idleWord ((t - s.ulk.laneEnd) / wordClock)
    else p.words.getD (p.words.length - (s.ulk.laneEnd - t + wordClock - 1) / wordClock) (idleWord 0)
  if s.on F.ULK_CTL_EN then some ((s.ulk.sent.getLast?.map word).getD (idleWord (t / wordClock))) else none

/-- The lane up to now: what could leave has left. -/
def State.laneRun (s : State) : State := { s with ulk := s.ulk.drain s.sys.straps.cid (laneDtick * s.now) s.ulk.waiting }

/-- Hand a packet to the transmit lane: it leaves at once when the lane is idle, else it waits in the order of R451; the ball's forwarded
words, which delay it further, are no state. [DEDUCED, log 51] -/
def State.ulkSend (s : State) (type dst : Nat) (tag : Nat) (payload : List Byte) : State :=
  let w : Waiting := ⟨BitVec.ofNat 4 type, BitVec.ofNat 5 dst, BitVec.ofNat 16 tag, payload⟩
  let u := s.ulk
  { s with ulk :=
      if u.waiting.isEmpty && decide (u.laneEnd ≤ laneDtick * s.now) then u.depart s.sys.straps.cid w (laneDtick * s.now)
      else { u with waiting := insertWaiting w u.waiting } }

/-- A marker of a reception's copy (R199). -/
def Waiting.marks (w : Waiting) (id : Rxid) : Bool := (w.type == 10 || w.type == 11) && w.tag == id.setWidth 16

/-- Ask every member for the owner of an address (R461, R462); queries are numbered in order. -/
def State.askRing (s : State) (a : Word) (id : Option Rxid) : State :=
  let q : Query := ⟨s.ulk.nextTag, a, id, s.time⟩
  let s := { s with ulk := { s.ulk with queries := s.ulk.queries ++ [q], nextTag := s.ulk.nextTag + 1 } }
  s.ulkSend 5 0x1F q.tag.toNat (leBytes 4 a.toNat)

/-- A subordinate collects its frames at the master (R199, R463). -/
def State.collects (s : State) : Bool :=
  s.on F.ULK_CTL_EN && s.on F.ULK_CTL_COLLECT && !s.isMaster && s.on F.ULK_STAT_RING_UP

end Sys2Proof.Machine
end

