-- ==== Sys2Proof/Machine/KeyOps.lean ====
section
/-! DEFINITION. Installing and dropping keys in slots (R311, R319, R320). -/

namespace Sys2Proof.Machine

/-- Put a key into a slot as a new installation; the record of R313's header fields stands beside it. -/
def State.putKey (s : State) (slot : Nat) (k : KeySlot) : State :=
  { s with key := { s.key with named := sput s.key.named slot { k with gen := s.key.nextGen }, nextGen := s.key.nextGen + 1 } }

/-- Empty a slot. -/
def State.dropKey (s : State) (slot : Nat) : State := { s with key := { s.key with named := sdel s.key.named slot } }

/-- Change what a slot records of its key, keeping the installation. -/
def State.modKey (s : State) (slot : Nat) (f : KeySlot → KeySlot) : State :=
  { s with key := { s.key with named := kmod s.key.named slot f } }

/-- What an operation binds of a slot (R319). [DEDUCED, log 35] -/
def State.bindKey (s : State) (slot : Nat) : Option Bound := (s.namedKey slot).map fun k => ⟨slot, k.gen, k.key⟩

/-- A stall-bound key: LINE_CCM, AES-128, both flags (R312). -/
def stallKey (key : List Byte) : KeySlot :=
  { policy := 1, alg := 0, enc := true, dec := true, kver := 0, key := key, txfc := 0, ceil := 0, gen := 0 }

end Sys2Proof.Machine
end

