-- ==== Sys2Proof/Machine/Ledger.lean ====
section
/-! DEFINITION. The ledger (chapter 9): stall records, the on-chip index, the directory in external memory, page-in, eviction and write-back,
record indices and the MRAM tables. -/

namespace Sys2Proof.Machine

/-! ### Stall records (R273) -/

/-- Where stall i's record lies (R274). -/
def stallBase (i : Nat) : Nat := sramBase + 128 * i

/-- `n` bytes of stall i's record at offset `o`. -/
def State.stallBytes (s : State) (i o n : Nat) : List Byte := (List.range n).map fun k => s.sramByte (stallBase i + o + k)
def State.stallLe (s : State) (i o n : Nat) : Nat := leNat (s.stallBytes i o n)

/-- A stall's record has changed since its page-in (R285). -/
def State.markDirty (s : State) (i : Nat) : State :=
  { s with lgr := { s.lgr with hot := kmod s.lgr.hot i fun h => { h with dirty := true } } }

/-- Write bytes of a stall record. -/
def State.setStall (s : State) (i o : Nat) (bs : List Byte) : State := (s.setSramBytes (stallBase i + o) bs).markDirty i
def State.setStallLe (s : State) (i o n v : Nat) : State := s.setStall i o (leBytes n v)

/-! Offsets of R273. -/
namespace Rec
def addr : Nat := 0
def flags : Nat := 4
def rxdup : Nat := 5
def rxnew : Nat := 6
def hwm : Nat := 8
def bitmap : Nat := 12
def txfc : Nat := 20
def eph : Nat := 24
def alm : Nat := 40
def tmask : Nat := 48
def fcsbad : Nat := 83
def snr : Nat := 84
def keyblob : Nat := 104
end Rec

/-- STATE, and the other bits of FLAGS. -/
def State.stallState (s : State) (i : Nat) : Nat := s.stallLe i Rec.flags 1 % 4
def State.stallFlag (s : State) (i bit : Nat) : Bool := (s.stallLe i Rec.flags 1).testBit bit
def State.setStallState (s : State) (i st : Nat) : State :=
  s.setStallLe i Rec.flags 1 (s.stallLe i Rec.flags 1 / 4 * 4 + st)
def State.setStallFlag (s : State) (i bit : Nat) (b : Bool) : State :=
  let f := s.stallLe i Rec.flags 1
  s.setStallLe i Rec.flags 1 (f - (if f.testBit bit then 2 ^ bit else 0) + (if b then 2 ^ bit else 0))

/-- The neighbour mask of a stall. -/
def State.stallMask (s : State) (i : Nat) : List Byte := s.stallBytes i Rec.tmask 35

/-! ### The on-chip index (R283) -/

def State.hotInfo (s : State) (i : Nat) : Option HotStall := kget? s.lgr.hot i

/-- The hot stall, tentative ones included, that holds an address. -/
def State.hotFind (s : State) (a : Word) : Option Nat :=
  (s.lgr.hot.find? fun p => !p.2.waiting && s.stallLe p.1 Rec.addr 4 == a.toNat).map (·.1)

/-- The stall reserved for a record awaiting import, with COLD_EN = 0 (R292, R573). -/
def State.hotReserved (s : State) (a : Word) : Option Nat :=
  (s.lgr.hot.find? fun p => p.2.waiting && s.stallLe p.1 Rec.addr 4 == a.toNat).map (·.1)

/-- A stall is used: it becomes the most recent (R285). [DEDUCED, log 31] -/
def State.touch (s : State) (i : Nat) : State :=
  { s with lgr := { s.lgr with order := s.lgr.order.filter (· != i) ++ [i] } }

/-- A hold of R189: a reception, a core's stall lock or a transmission's CCM job. -/
def State.stallHeld (s : State) (i : Nat) : Bool :=
  (s.dmd.rx.any fun r => r.stall == some i) ||
  (s.cores.toList.any fun c => c.locks.any fun l => l.stall.toNat == i) ||
  (s.mac.ops.any fun o => o.stall == some i && o.encr == .running)

/-- A core holds the stall's lock (R207, R355). -/
def State.coreLocked (s : State) (i : Nat) : Bool := s.cores.toList.any fun c => c.locks.any fun l => l.stall.toNat == i

/-- A reception holds the stall's commit lock: it has its decision and has neither committed nor been squashed (R190). [DEDUCED, log 28] -/
def State.commitLocked (s : State) (i : Nat) : Bool := s.dmd.rx.any fun r => r.stall == some i && r.decision.isSome

/-- The reception that takes the stall's lock next: of those that wait for it, the one that asked first (R190, R356). -/
def State.nextAsked (s : State) (i : Nat) : Option Rx :=
  (s.dmd.rx.filter fun r => r.stall == some i && r.asked && r.decision.isNone).foldl
    (fun b r => match b with | some x => if r.turn < x.turn then some r else b | none => some r) none

/-- A reception waits for the stall's lock. -/
def State.lockAsked (s : State) (i : Nat) : Bool := (s.nextAsked i).isSome

/-! ### Record indices and the MRAM tables (R291, R573) -/

def State.coldOn (s : State) : Bool := s.on F.LGR_CTL_COLD_EN
def State.recCount (s : State) : Nat := if s.coldOn then max 1 (min 64 (s.fld F.LGR_COLD_CNT_CNT)) * 4096 else 4096

def hwmWord (c : Nat) : Nat := mramBase + 4 * c
def addrWord (c : Nat) : Nat := mramBase + 0x100000 + 4 * c
def ceilWord (c : Nat) : Nat := mramBase + 0x200000 + 4 * c

/-- The record index is not in use. -/
def State.indexFree (s : State) (c : Nat) : Bool := s.mramLe (addrWord c) 4 == 0xFFFFFFFF

def State.freeIndex (s : State) : Option Nat := (List.range s.recCount).find? s.indexFree

/-- A FREE stall: the lowest that no neighbour, tentative or reserved, nor a page-in takes; with COLD_EN = 0 its index must be unused
too. [DEDUCED, log 31] -/
def State.freeStall (s : State) : Option Nat :=
  (List.range 4096).find? fun i =>
    (s.hotInfo i).isNone && !(s.lgr.pages.any fun p => p.stall == some i) && (s.coldOn || s.indexFree i)

/-- The victim of R285. -/
def State.victim (s : State) : Option Nat :=
  if s.coldOn then
    s.lgr.order.find? fun i =>
      (match s.hotInfo i with | some h => !h.waiting | none => false) &&
      (s.stallState i == 1 || s.stallState i == 3) && !s.stallHeld i
  else none

/-! ### Ledger lines in external memory (R278-R281) -/

/-- The address of record line c and of directory line l. [DEDUCED, log 30] -/
def State.recLine (s : State) (c : Nat) : Nat := (s.reg R.LGR_COLD_BASE).toNat / 128 * 128 + 128 * c
def State.dirLine (s : State) (l : Nat) : Nat := (s.reg R.LGR_DIR_BASE).toNat / 4096 * 4096 + 128 * l

/-- Write a record line. -/
def State.writeRecord (s : State) (c : Nat) (bs : List Byte) : State := (s.unitWrite (s.recLine c) bs).1
def State.writeDirLine (s : State) (l : Nat) (bs : List Byte) : State := (s.unitWrite (s.dirLine l) bs).1

/-- LEDGER_INTEGRITY (R281). -/
def State.integrity (s : State) (line : Nat) : State :=
  (s.flag F.LGR_FLAGS_INTEGRITY).raise Ev.LEDGER_INTEGRITY Src.lgrIntegrity (BitVec.ofNat 32 line) 0

/-! ### The directory (R282) -/

def dirHash (x m : Nat) : Nat := x * m % 2 ^ 32 / 2 ^ 17

/-- The two candidate lines of an address. -/
def State.dirLines (s : State) (a : Word) : Nat × Nat :=
  let x := (a ^^^ s.reg R.LGR_DIR_SALT).toNat
  let l1 := dirHash x 0x9E3779B1
  let l2 := dirHash x 0x85EBCA6B
  (l1, if l2 = l1 then l1 ^^^ 1 else l2)

/-- An entry for an address and record index. -/
def dirEntry (a : Word) (c : Nat) (loaded : Bool) : List Byte :=
  leBytes 8 (a.toNat + 2 ^ 32 * c + (if loaded then 2 ^ 61 else 0) + 2 ^ 63)

/-- Entry k of a directory line. -/
def entryAt (line : List Byte) (k : Nat) : Nat := leNat ((line.drop (8 * k)).take 8)
def entryValid (e : Nat) : Bool := e.testBit 63
def entryLoaded (e : Nat) : Bool := e.testBit 61
def entryIndex (e : Nat) : Nat := e / 2 ^ 32 % 2 ^ 18
def entryAddr (e : Nat) : Nat := e % 2 ^ 32
def setEntry (line : List Byte) (k : Nat) (e : List Byte) : List Byte := line.take (8 * k) ++ e ++ line.drop (8 * k + 8)

/-- The place of an address in a line. -/
def lineFind (line : List Byte) (a : Word) : Option Nat :=
  (List.range 16).find? fun k => entryValid (entryAt line k) && entryAddr (entryAt line k) == a.toNat

/-- Free entries of a line. -/
def lineFree (line : List Byte) : List Nat := (List.range 16).filter fun k => !entryValid (entryAt line k)

/-- A directory line holds an entry for an address; one that cannot be read holds none. -/
def State.lineHolds (s : State) (l : Nat) (a : Word) : Bool :=
  match (s.unitRead (s.dirLine l) 128).2 with
  | some bs => (lineFind bs a).isSome
  | none => false

/-- The record indices whose entries line l held: used ones with l as a candidate line whose entry is not in the other. -/
def State.entriesOf (s : State) (l : Nat) : List Nat :=
  (List.range s.recCount).filter fun c =>
    !s.indexFree c &&
      (let a := BitVec.ofNat 32 (s.mramLe (addrWord c) 4)
       let p := s.dirLines a
       (p.1 == l && !s.lineHolds p.2 a) || (p.2 == l && !s.lineHolds p.1 a))

/-- A directory line that fails verification: it is written again from the MRAM ADDR table with every entry awaiting import (R281). [DEDUCED, log 30] -/
def State.dirFailed (s : State) (l : Nat) : State :=
  let s := s.integrity l
  let es := ((s.entriesOf l).take 16).map fun c => dirEntry (BitVec.ofNat 32 (s.mramLe (addrWord c) 4)) c false
  s.writeDirLine l (es.flatten ++ zeros (128 - 8 * es.length))

/-- Read a directory line; a failed line is as `dirFailed` leaves it. -/
def State.readDirLine (s : State) (l : Nat) : State × List Byte :=
  match s.unitRead (s.dirLine l) 128 with
  | (s, some bs) => (s, bs)
  | (s, none) =>
    let s := s.dirFailed l
    match s.unitRead (s.dirLine l) 128 with
    | (s, some bs) => (s, bs)
    | (s, none) => (s, zeros 128)

/-- A directory lookup: the line, the place and the entry found. -/
def State.dirFind (s : State) (a : Word) : State × Option (Nat × Nat × Nat) :=
  let p := s.dirLines a
  let (s, x1) := s.readDirLine p.1
  let (s, x2) := s.readDirLine p.2
  match lineFind x1 a with
  | some k => (s, some (p.1, k, entryAt x1 k))
  | none =>
    match lineFind x2 a with
    | some k => (s, some (p.2, k, entryAt x2 k))
    | none => (s, none)

/-- Rewrite one entry of a directory line. -/
def State.putDirEntry (s : State) (l k : Nat) (e : List Byte) : State :=
  let (s, x) := s.readDirLine l
  s.writeDirLine l (setEntry x k e)

/-- A free entry in one of the candidate lines: the line with more free entries, l1 when equal. -/
def State.dirRoom (s : State) (a : Word) : State × Option (Nat × Nat) :=
  let p := s.dirLines a
  let (s, x1) := s.readDirLine p.1
  let (s, x2) := s.readDirLine p.2
  let f1 := lineFree x1
  let f2 := lineFree x2
  if f1.length < f2.length then (s, f2.head?.map fun k => (p.2, k)) else (s, f1.head?.map fun k => (p.1, k))

/-- What the ledger knows of an address: its record index and whether it is loaded. -/
def State.recordOf (s : State) (a : Word) : State × Option (Nat × Bool) :=
  match s.hotFind a with
  | some i => if s.stallFlag i 5 then (s, none) else (s, (s.hotInfo i).map fun h => (h.c, true))
  | none =>
    if s.coldOn then
      match s.dirFind a with
      | (s, some (_, _, e)) => (s, some (entryIndex e, entryLoaded e))
      | (s, none) => (s, none)
    else (s, (s.hotReserved a).map fun i => (i, false))

/-- Mark a record as awaiting import (R281). -/
def State.awaitImport (s : State) (a : Word) : State :=
  match s.dirFind a with
  | (s, some (l, k, e)) => s.putDirEntry l k (dirEntry a (entryIndex e) false)
  | (s, none) => s

/-! ### Page-in and eviction (R284, R285) -/

/-- Write a hot record back: the bytes go to the write-back buffer until WRITE_BACK_COMPLETE. -/
def State.evict (s : State) (i : Nat) : State :=
  match s.hotInfo i with
  | none => s
  | some h =>
    let bs := s.stallBytes i 0 128
    { s with lgr := { s.lgr with
        hot := sdel s.lgr.hot i
        order := s.lgr.order.filter (· != i)
        wb := if h.dirty then s.lgr.wb.filter (·.1 != h.c) ++ [(h.c, bs)] else s.lgr.wb } }

/-- A stall for a record being paged in: a FREE one, else the victim's. [DEDUCED, log 31] -/
def State.takeStall (s : State) : State × Option Nat :=
  match s.freeStall with
  | some i => (s, some i)
  | none =>
    match s.victim with
    | some i => (s.evict i, some i)
    | none => (s, none)

/-- The KEYBLOB of a stall unwrapped under KEK_SLOT for its address (R315). -/
def State.unwrapStall (s : State) (i : Nat) : Option (List Byte) :=
  match s.key.keks with
  | none => none
  | some k =>
    let r := unwrap k.slot (s.stallBytes i Rec.keyblob 24)
    if r.1 == [0xA6, 0xA6, 0xA6, 0xA6] ++ s.stallBytes i Rec.addr 4 then some r.2 else none

/-- Step 4 of R284: the key of a resident stall goes into slot 256 + i; a blob that fails leaves KEYV = 0 and raises LEDGER_INTEGRITY. -/
def State.loadStallKey (s : State) (i line : Nat) : State :=
  if s.stallFlag i 2 then
    match s.unwrapStall i with
    | some key => s.putKey (256 + i) (stallKey key)
    | none => ((s.dropKey (256 + i)).setStallFlag i 2 false).raise Ev.LEDGER_INTEGRITY Src.lgrIntegrity (BitVec.ofNat 32 line) 0
  else s.dropKey (256 + i)

/-- Make a record resident in stall i; DL_PEND is set while the deferred store holds a descriptor for it (R254). -/
def State.makeResident (s : State) (i c : Nat) (bs : List Byte) : State :=
  let s := s.setSramBytes (stallBase i) bs
  let s := { s with lgr := { s.lgr with hot := sput s.lgr.hot i ⟨c, false, false⟩ } }
  let held := s.mac.store.any fun d => d.addr.toNat == s.stallLe i Rec.addr 4
  let s := if held == s.stallFlag i 4 then s else s.setStallFlag i 4 held
  (s.touch i).loadStallKey i c

/-- Read record c and make it resident in stall i; false when its line fails (R281). [DEDUCED, log 31] -/
def State.finishPageIn (s : State) (a : Word) (i c : Nat) : State × Bool :=
  match s.lgr.wb.find? fun p => p.1 == c with
  | some p => (s.makeResident i c p.2, true)
  | none =>
    match s.unitRead (s.recLine c) 128 with
    | (s, some bs) => (s.makeResident i c bs, true)
    | (s, none) => ((s.integrity c).awaitImport a, false)

/-- The stall for a page-in of an address: the one that a page-in already under way has taken, which this one joins (R285), else one taken now. -/
def State.pageStall (s : State) (a : Word) : State × Option Nat :=
  match (s.lgr.pages.find? fun p => p.addr == a).bind (·.stall) with
  | some i => (s, some i)
  | none => s.takeStall

/-- A page-in that is done at once for a command of the ledger, the walker, a core or a transmission: the stall where the record is or
becomes hot, `none` where there is no loaded record or every stall is held. [DEDUCED, log 31] -/
def State.pageInNow (s : State) (a : Word) : State × Option Nat :=
  match s.hotFind a with
  | some i => if s.stallFlag i 5 then (s, none) else (s.touch i, some i)
  | none =>
    match s.recordOf a with
    | (s, some (c, true)) =>
      match s.pageStall a with
      | (s, some i) =>
        match s.finishPageIn a i c with
        | (s, true) => (s, some i)
        | (s, false) => (s, none)
      | (s, none) => (s, none)
    | (s, _) => (s, none)

/-- The write-back of record c finishes: its line is written under a raised version (R279, R285). -/
def execWriteBackComplete (index : Nat) (s : State) : Out :=
  match s.lgr.wb.find? fun p => p.1 == index with
  | some p =>
    let s := s.writeRecord index p.2
    .next { s with lgr := { s.lgr with wb := s.lgr.wb.filter (·.1 != index) } }
  | none => .next s

/-! ### New records (R286) -/

/-- Lend stall i to a source as tentative. -/
def State.lend (s : State) (i : Nat) (a : Word) : State :=
  let s := s.setSramBytes (stallBase i) (leBytes 4 a.toNat ++ [0x20] ++ zeros 123)
  (({ s with lgr := { s.lgr with hot := sput s.lgr.hot i ⟨i, false, false⟩ } } : State).dropKey (256 + i)).touch i

/-- A stall returns to FREE with nothing in it. -/
def State.freeUp (s : State) (i : Nat) : State :=
  let s := s.setSramBytes (stallBase i) (zeros 128)
  ({ s with lgr := { s.lgr with hot := sdel s.lgr.hot i, order := s.lgr.order.filter (· != i) } } : State).dropKey (256 + i)

/-- Give a record an index, its directory entry and its ADDR word; `none` where no index or entry is free. [DEDUCED, log 31] -/
def State.newRecord (s : State) (a : Word) (i : Nat) : State × Option Nat :=
  if s.coldOn then
    match s.freeIndex with
    | none => (s, none)
    | some c =>
      match s.dirRoom a with
      | (s, none) => (s, none)
      | (s, some (l, k)) =>
        let s := s.putDirEntry l k (dirEntry a c true)
        ((s.mramRecord .command (addrWord c) (leBytes 4 a.toNat)).bump R.LGR_COLD_USED 1, some c)
  else ((s.mramRecord .command (addrWord i) (leBytes 4 a.toNat)).bump R.LGR_COLD_USED 1, some i)

/-- The record index for the neighbour of tentative stall i: the lowest free one, with COLD_EN = 0 the stall's own (R286, R573). -/
def State.indexFor (s : State) (i : Nat) : Option Nat := if s.coldOn then s.freeIndex else some i

/-- Step 2 of a tentative stall's first commit, its ADDR word written: the directory entry, STATE ACTIVE and NEW_NEIGHBOUR; false where no
directory entry is free. [DEDUCED, log 31] -/
def State.adopt (s : State) (i c : Nat) : State × Bool :=
  let a : Word := BitVec.ofNat 32 (s.stallLe i Rec.addr 4)
  let (s, ok) := if s.coldOn then
      match s.dirRoom a with
      | (s, some (l, k)) => (s.putDirEntry l k (dirEntry a c true), true)
      | (s, none) => (s, false)
    else (s, true)
  if !ok then (s, false)
  else
    let s := (s.setStallFlag i 5 false).setStallState i 1
    let s := { s with lgr := { s.lgr with hot := sput s.lgr.hot i ⟨c, true, false⟩ } }
    ((s.bump R.LGR_COLD_USED 1).raise Ev.NEW_NEIGHBOUR Src.lgrCommit a 0, true)

/-! ### Replay windows (R288, R289) -/

inductive Replay where
  | new | dup | old
deriving DecidableEq, Repr

/-- The check of R288. -/
def replayCheck (rpv : Bool) (hwm bitmap fc : Nat) : Replay :=
  if !rpv then .new
  else if hwm < fc then .new
  else if fc = hwm then .dup
  else if hwm - fc ≤ 64 then (if bitmap.testBit (hwm - fc - 1) then .dup else .new)
  else .old

/-- The window after a NEW outcome (R289): HWM and BITMAP. -/
def replayUpdate (rpv : Bool) (hwm bitmap fc : Nat) : Nat × Nat :=
  if !rpv then (fc, 0)
  else if hwm < fc then
    let d := fc - hwm
    (fc, if d ≤ 64 then (bitmap * 2 ^ d ||| 2 ^ (d - 1)) % 2 ^ 64 else 0)
  else (hwm, bitmap ||| 2 ^ (hwm - fc - 1))

/-- A NEW outcome writes the MRAM high-water word when HWM changes. -/
def replayPersists (rpv : Bool) (hwm fc : Nat) : Bool := !rpv || decide (hwm < fc)

/-- A stall's window as RPV, HWM and BITMAP. -/
def State.window (s : State) (i : Nat) : Bool × Nat × Nat := (s.stallFlag i 3, s.stallLe i Rec.hwm 4, s.stallLe i Rec.bitmap 8)

/-- The check of a FC against the stall's window as it stands (R190). -/
def State.replayOf (s : State) (i fc : Nat) : Replay :=
  let w := s.window i
  replayCheck w.1 w.2.1 w.2.2 fc

/-- Update a stall's window at commit. -/
def State.replayCommit (s : State) (i fc : Nat) : State :=
  let w := replayUpdate (s.stallFlag i 3) (s.stallLe i Rec.hwm 4) (s.stallLe i Rec.bitmap 8) fc
  ((s.setStallLe i Rec.hwm 4 w.1).setStallLe i Rec.bitmap 8 w.2).setStallFlag i 3 true

end Sys2Proof.Machine
end

