-- ==== Sys2Proof/Machine/Deliver.lean ====
section
/-! DEFINITION. Descriptor rings: addresses and counts (R506), delivery reservations, payload, descriptors and the commit pointer (R195-R198,
R508-R511), completion of submission entries (R515), the host channel (R516) and ring errors (R517). -/

namespace Sys2Proof.Machine

/-! ### Rings -/

/-- A ring serves: it is enabled and rings may fetch and write. -/
def State.ringOn (s : State) (r : Nat) : Bool := s.on F.HIF_CTL_DMA_EN && s.on (F.HIF_RINGr_CFG_EN r)
def State.ringErr (s : State) (r : Nat) : Bool := s.on (F.HIF_RINGr_STAT_ERR r)
def State.ringLen (s : State) (r : Nat) : Nat := 2 ^ max 4 (min 12 (s.fld (F.HIF_RINGr_CFG_LOG2 r)))
def State.bufLen (s : State) (r : Nat) : Nat := 2 ^ max 6 (min 12 (s.fld (F.HIF_RINGr_CFG_BUF_LOG2 r)))
def State.entryAddr (s : State) (r n : Nat) : Nat := s.pair (R.HIF_RINGr_BASE_LO r) (R.HIF_RINGr_BASE_HI r) + 64 * (n % s.ringLen r)

def State.modRing (s : State) (r : Fin 8) (f : Ring → Ring) : State :=
  { s with hif := { s.hif with rings := s.hif.rings.set r (f s.hif.rings[r]) } }

/-- A ring enters error (R517). [DEDUCED, log 43] -/
def State.ringFail (s : State) (r : Nat) : State := ((s.flag (F.HIF_RINGr_STAT_ERR r)).flag F.HIF_FLAGS_DMA_ERR).irqOccur 9

/-- Write to host-given memory for ring r; an error puts the ring in error. -/
def State.ringWrite (s : State) (r a : Nat) (bs : List Byte) : State :=
  match s.dmaWrite a bs with
  | (s, true) => s
  | (s, false) => s.ringFail r

/-- Interrupt cause r of ring r (R518). -/
def ringCause (r : Fin 8) : Fin 11 := r.castLE (by decide)

/-- HEAD moves to a new count: register, write-back, and the caller's interrupt. -/
def State.moveHead (s : State) (r n : Nat) : State :=
  let s := s.setFld (F.HIF_RINGr_HEAD_COUNT r) n
  let wb := s.pair (R.HIF_RINGr_WB_LO r) (R.HIF_RINGr_WB_HI r)
  if wb = 0 then s else s.ringWrite r wb (leBytes 4 (n % 65536))

/-! ### Delivery -/

/-- The header fields of a delivery descriptor (R509). -/
structure DelHdr where
  fcsBad  : Bool
  surv    : Nat
  copy    : Bool
  reason  : Nat
  rxid    : Rxid
  ft      : Nat
  sec     : Bool
  ackreq  : Bool
  sh      : Bool
  port    : Nat
  mc      : Nat
  ackst   : Nat
  src     : Word
  dst     : Word
  fc      : Nat
  total   : Nat
  ksel    : Nat
  cid     : Nat
  tPre    : Nat
  level   : Nat
  lots    : Nat
  miss    : Nat
  batt    : Nat
deriving DecidableEq, Repr

def EntryStatus.code : EntryStatus → Nat
  | .prov => 0
  | .done => 1
  | .void => 2
  | .skip => 3

/-- Bytes 8-11 of an entry. -/
def DelHdr.status (h : DelHdr) (st : EntryStatus) (len : Nat) (first last : Bool) : List Byte :=
  leBytes 2 len ++ leBytes 1 (st.code + 4 * h.fcsBad.toNat + 8 * first.toNat + 16 * last.toNat
    + 32 * (decide (h.surv ≠ 0)).toNat + 64 * h.copy.toNat) ++ leBytes 1 (if st == .void then h.reason else 0)

/-- Bytes 12-47 of an entry. -/
def DelHdr.fields (h : DelHdr) (first : Bool) : List Byte :=
  if first then
    leBytes 1 h.rxid.toNat ++ leBytes 1 (h.ft + 16 * h.sec.toNat + 32 * h.ackreq.toNat + 64 * h.sh.toNat)
      ++ leBytes 1 (h.port + 16 * h.mc) ++ leBytes 1 h.ackst ++ leBytes 4 h.src.toNat ++ leBytes 4 h.dst.toNat
      ++ leBytes 4 h.fc ++ leBytes 2 h.total ++ leBytes 1 h.ksel ++ leBytes 1 h.cid ++ leBytes 6 h.tPre
      ++ leBytes 2 h.level ++ leBytes 4 h.lots ++ leBytes 1 (h.miss + 16 * h.batt) ++ [0] ++ leBytes 2 h.surv
  else leBytes 1 h.rxid.toNat ++ zeros 35

/-- The lowest-numbered delivery ring a reception matches (R508). -/
def State.matchRing (s : State) (ft mc port : Nat) (copy : Bool) : Option (Fin 8) :=
  [0, 1, 2, 3].find? fun (r : Fin 8) =>
    s.ringOn r && !s.ringErr r && s.fldBit (F.HIF_RINGr_FILT_FT r) ft && s.fldBit (F.HIF_RINGr_FILT_MC r) mc
      && s.fldBit (F.HIF_RINGr_FILT_PORT r) port
      && s.on (if copy then F.HIF_RINGr_FILT_COPY r else F.HIF_RINGr_FILT_LOCAL r)

/-- Entries a payload of n bytes takes in a ring. -/
def State.entriesFor (s : State) (r n : Nat) : Nat := max 1 ((n + s.bufLen r - 1) / s.bufLen r)

/-- Whether k more entries fit: RESV + k - CONS is at most the ring. -/
def State.ringFits (s : State) (r k : Nat) : Bool :=
  decide ((s.fld (F.HIF_RINGr_AUX_COUNT r) + 65536 - s.fld (F.HIF_RINGr_TAIL_COUNT r)) % 65536 + k ≤ s.ringLen r)

/-- RING_FULL for a ring, or for a reception that matches none (R195, R508). [DEDUCED, log 44] -/
def State.ringFull (s : State) (r : Option (Fin 8)) : State :=
  match r with
  | some r => s.raiseLimited (Lim.ringFull r) 24576 Ev.RING_FULL (Src.hifRing r) (BitVec.ofNat 32 r) 0
  | none => s.raiseLimited Lim.ringUnmatched 24576 Ev.RING_FULL (Src.hifRing 0) 0xFF 0

/-- Take a reservation of k entries. [DEDUCED, log 44] -/
def State.reserve (s : State) (r : Fin 8) (k : Nat) (o : Owner) : State :=
  let first := s.hif.rings[r].idx
  let s := s.modRing r fun q => { q with resv := q.resv ++ [⟨first, k, o, .prov, []⟩], idx := first + k }
  s.setFld (F.HIF_RINGr_AUX_COUNT r) (first + k)

/-- The provisional reservation of an owner: one settled earlier under the same RXID is no longer its own (R22, R197, R200). -/
def Resv.open_ (v : Resv) (o : Owner) : Bool := v.owner == o && v.status == .prov

def State.resvOf (s : State) (r : Fin 8) (o : Owner) : Option Resv := s.hif.rings[r].resv.find? fun q => q.open_ o

def State.modResv (s : State) (r : Fin 8) (o : Owner) (f : Resv → Resv) : State :=
  s.modRing r fun q => { q with resv := q.resv.map fun v => if v.open_ o then f v else v }

def State.ringSecure (s : State) (r : Nat) : Bool := s.on (F.HIF_RINGr_CFG_SECURE r)

/-- Write into the buffer of entry n of a ring, which its descriptor names; nothing is written where the descriptor cannot be read (R517). -/
def State.bufferWrite (s : State) (r : Fin 8) (n : Nat) (bs : List Byte) : State :=
  match s.dmaRead (s.entryAddr r n) 8 with
  | (s, some b) => s.ringWrite r (leNat b) bs
  | (s, none) => s.ringFail r

/-- Part j of a payload spread over a reservation's buffers (R510). -/
def partOf (bl j : Nat) (data : List Byte) : List Byte := (data.drop (bl * j)).take bl

/-- Write a payload into a reservation's buffers, one transfer an entry (R507, R510); a secured ring's buffers are written when the entries
are marked (R516). -/
def State.fillResv (s : State) (r : Fin 8) (o : Owner) (data : List Byte) : State :=
  match s.resvOf r o with
  | none => s
  | some v =>
    let p := (List.range v.k).foldl (fun (p : State × List Nat) j =>
      let part := partOf (p.1.bufLen r) j data
      if p.1.ringSecure r then (p.1, p.2 ++ [part.length])
      else
        let (s, bs) := p.1.crcDma r part
        (s.bufferWrite r (v.first + j) bs, p.2 ++ [bs.length])) (s, [])
    p.1.modResv r o fun q => { q with lens := p.2 }

/-- The IV of R516. [DEDUCED, log 35] -/
def hostIv (r n : Nat) : List Byte := leBytes 8 n ++ leBytes 1 r ++ [0, 0, 0]

/-- The key of a secured ring: KEYSLOT's while it holds a HOST_GCM key that encrypts, else a free value. [DEDUCED, log 35] -/
def State.sealKey (s : State) (r : Fin 8) : List Byte :=
  match s.namedKey (s.fld (F.HIF_RINGr_CFG_KEYSLOT r)) with
  | some k => if k.policy = 4 ∧ k.enc = true then k.key else Config.freeBytes 16 s.freeCtr
  | none => Config.freeBytes 16 s.freeCtr

/-- Seal the payload of entry n of a secured ring and write it: the transfer that channel r's contexts see is the ciphertext (R507, R516). `stat`
gives bytes 8-11 for the length that stands in the buffer. [DEDUCED, log 58] -/
def State.sealEntry (s : State) (r : Fin 8) (n : Nat) (stat : Nat → List Byte) (body part : List Byte) : State :=
  let head := stat (s.crcDma r part).2.length
  let res := gcmSeal (s.sealKey r) (hostIv r n) (head ++ body) part 16
  let (s, bs) := s.crcDma r res.1
  let s := s.bufferWrite r n bs
  let s := s.ringWrite r (s.entryAddr r n + 12) (body ++ res.2)
  s.ringWrite r (s.entryAddr r n + 8) head

/-- Mark one entry: payload or zero-fill, bytes 12-63, then bytes 8-11 (R198, R511). -/
def State.markEntry (s : State) (r : Fin 8) (v : Resv) (st : EntryStatus) (h : DelHdr) (data : List Byte) (j : Nat) : State :=
  let first := j == 0
  let last := j + 1 == v.k
  let n := v.first + j
  let len := v.lens.getD j 0
  let stat := h.status st (if st == .done then len else 0) first last
  let body := h.fields first
  let at_ := s.entryAddr r n
  if st == .done then
    if s.ringSecure r then s.sealEntry r n (fun len => h.status st len first last) body (partOf (s.bufLen r) j data)
    else
      let s := s.ringWrite r (at_ + 12) (body ++ zeros 16)
      s.ringWrite r (at_ + 8) stat
  else
    let s := if s.ringSecure r || len = 0 then s else s.bufferWrite r n (zeros len)
    let s := s.ringWrite r (at_ + 12) (body ++ zeros 16)
    s.ringWrite r (at_ + 8) stat

/-- The settled reservations at the front of a ring, and the rest. -/
def settledPrefix : List Resv → Nat → Nat × List Resv
  | [], n => (n, [])
  | v :: vs, n => if v.status == .prov then (n, v :: vs) else settledPrefix vs (v.first + v.k)

/-- The commit pointer advances over every settled entry at its front (R197, R511). -/
def State.advanceHead (s : State) (r : Fin 8) : State :=
  if s.ringErr r then s
  else
    match s.hif.rings[r].resv with
    | [] => s
    | v :: vs =>
      let p := settledPrefix (v :: vs) v.first
      if p.1 = v.first then s
      else
        let s := s.modRing r fun q => { q with resv := p.2 }
        (s.moveHead r p.1).irqOccur (ringCause r)

/-- Mark every entry of an owner's reservation and advance the pointer (R197); a ring in error only keeps its pointer (R517). [DEDUCED, log 43] -/
def State.settle (s : State) (r : Fin 8) (o : Owner) (st : EntryStatus) (h : DelHdr) (data : List Byte) : State :=
  match s.resvOf r o with
  | none => s
  | some v =>
    let s := (List.range v.k).foldl (fun s j => s.markEntry r v st h data j) s
    (s.modResv r o fun q => { q with status := st }).advanceHead r

/-! ### Submission entries (R515) -/

/-- CSTATUS values. -/
inductive CStatus where
  | done | dropped | bufErr | badDesc | hostTag
deriving DecidableEq, Repr

def CStatus.code : CStatus → Nat
  | .done => 1
  | .dropped => 2
  | .bufErr => 3
  | .badDesc => 4
  | .hostTag => 5

/-- What a completion reports. -/
structure Completion where
  status : CStatus
  reason : Nat
  ackres : Nat
  tries  : Nat
  fc     : Nat
  launch : Nat
deriving DecidableEq, Repr

def Completion.bytes (c : Completion) : List Byte :=
  leBytes 1 c.reason ++ leBytes 1 c.ackres ++ leBytes 1 c.tries ++ leBytes 4 c.fc ++ leBytes 8 c.launch

/-- The completed entries at the front: how many, how many of them had IRQ = 1, and the rest. -/
def donePrefix : List SubEntry → Nat × Nat × List SubEntry
  | [] => (0, 0, [])
  | e :: es => if e.done then let p := donePrefix es; (p.1 + 1, p.2.1 + e.irq.toNat, p.2.2) else (0, 0, e :: es)

/-- Complete entry n of submission ring r: its completion bytes, then DONE over every completed entry, each with IRQ = 1 an occurrence of
cause r (R518). An error only stops the ring's fetches (R517). [DEDUCED, log 43] -/
def State.completeEntry (s : State) (r : Fin 8) (n : Nat) (c : Completion) : State :=
  let a := s.entryAddr r n
  let s := (s.ringWrite r (a + 49) c.bytes).ringWrite r (a + 48) (leBytes 1 c.status.code)
  let s := s.modRing r fun q => { q with subs := q.subs.map fun e => if e.n = n then { e with done := true } else e }
  let p := donePrefix s.hif.rings[r].subs
  if p.1 = 0 then s
  else
    let s := s.modRing r fun q => { q with subs := p.2.2 }
    (List.range p.2.1).foldl (fun s _ => s.irqOccur (ringCause r)) (s.moveHead r (s.fld (F.HIF_RINGr_HEAD_COUNT r) + p.1))

/-- The same bytes for a TQADD descriptor in device memory (R513, R515). -/
def State.completeDesc (s : State) (a : Nat) (c : Completion) : State :=
  let s := (s.unitWrite (a + 49) c.bytes).1
  (s.unitWrite (a + 48) (leBytes 1 c.status.code)).1

end Sys2Proof.Machine
end

