-- ==== Sys2Proof/Machine/Lp.lean ====
section
/-! DEFINITION. The line ports' receive chains (R117-R149): gain control, notches, the FIR and its banks, level detectors, zero-crossing
tracker, noise map, synchronising reset, and the processing of one hop of samples. -/

namespace Sys2Proof.Machine

/-- The state with one port's chain changed. -/
def State.modLp (s : State) (n : Port) (f : LpChain → LpChain) : State := { s with lp := s.lp.set n (f s.lp[n]) }

/-! ### Presets (R121) -/

/-- A preset's sample period in dticks. -/
def samplePeriod (preset : Nat) : Nat := 16 * 2 ^ preset
/-- FFT size N (R48). -/
def fftSize (preset : Nat) : Nat := 1024 / 2 ^ preset
/-- Fixed latency in samples and fixed chain settle (R121). -/
def fixedLatency (preset : Nat) : Nat := [16, 12, 8, 9].getD preset 9
def fixedSettle (preset : Nat) : Nat := [96, 64, 48, 40].getD preset 40

def State.preset (s : State) (n : Nat) : Nat := s.fld (F.LPn_CTL_PRESET n)
def State.lpOn (s : State) (n : Nat) : Bool := s.on (F.LPn_CTL_EN n)

/-- SETTLE_N for the current preset and the ACTIVE_TAPS in force (R148). -/
def State.settleN (s : State) (n : Port) : Nat := fixedSettle (s.preset n) + (s.lp[n].taps + 1) / 2

/-- The written ACTIVE_TAPS as it is treated (R130). -/
def State.tapsHeld (s : State) (n : Nat) : Nat :=
  let t := s.fld (F.LPn_FIR_CTL_ACTIVE_TAPS n)
  if 1 ≤ t ∧ t ≤ 96 then t else 96

/-- The port a yoked port is joined with (R178). -/
def State.partner (s : State) (n : Port) : Option Port :=
  if s.dmd.yoked.getLsbD (n.val / 2) then
    if h : n.val % 2 = 0 then some ⟨n.val + 1, by omega⟩ else some ⟨n.val - 1, by omega⟩
  else none

/-- A span of TXEN_N covers the instant t (R221). -/
def inSpans (spans : List (Time × Option Time)) (t : Int) : Bool :=
  spans.any fun p => decide ((p.1.toNat : Int) ≤ t) && (match p.2 with | none => true | some e => decide (t < e.toNat))

/-- TXH of a port at an instant: its own span or its yoke partner's (R221). -/
def State.txhAt (s : State) (n : Port) (t : Int) : Bool :=
  inSpans s.lp[n].spans t || (match s.partner n with | some m => inSpans s.lp[m].spans t | none => false)

/-! ### Gain control (R126, R127) -/

/-- The conditions under which the gain control makes no step. -/
def State.agcHeld (s : State) (n : Port) : Bool := decide (0 < s.lp[n].settle) || inSpans s.lp[n].overs s.now || s.txhAt n s.now

def State.agcActive (s : State) (n : Port) : Bool :=
  s.lpOn n && s.on (F.LPn_AGC_CTL_EN n) && !s.on (F.LPn_AGC_CTL_FREEZE n) && !s.agcHeld n

/-- The PGA takes a code now; the code it leaves is kept for the samples taken before (R124). -/
def State.setCode (s : State) (n : Port) (c : Nat) : State :=
  let old := s.fld (F.LPn_PGA_CUR n)
  (s.setFld (F.LPn_PGA_CUR n) c).modLp n fun l => { l with codes := ((s.time, old) :: l.codes).take 32 }

/-- The code in force at instant t, given the code in force now. -/
def LpChain.codeAt (l : LpChain) (cur : Nat) (t : Int) : Nat :=
  (l.codes.foldl (fun (c : Nat × Bool) p => if c.2 && decide (t < (p.1.toNat : Int)) then (p.2, true) else (c.1, false)) (cur, true)).1

/-- Set CUR to a wanted code, clamped; a code beyond 32 is treated as 32 (R120); a clamped step sets AGC_LIMIT. [DESIGN CHOICE, log 57] -/
def State.agcStep (s : State) (n : Port) (want : Int) (lo hi : Nat) : State :=
  let c : Int := min 32 (max lo (min want hi))
  let s := s.setCode n c.toNat
  if c = want then s else s.flag (F.LPn_FLAGS_AGC_LIMIT n)

/-- A decay window starts now. -/
def State.decayStart (s : State) (n : Port) : State :=
  s.modLp n fun l => { l with decayAt := s.time, decSum := 0, decCnt := 0, decPk := 0 }

/-- AGC_ATTACK: a sample of the first decimator's output; at or above -PK_HI dBFS it is an attack. [DESIGN CHOICE, log 57] -/
def execAgcAttack (n : Port) (x : Rat) (s : State) : Out :=
  if s.agcActive n && dbGe (x * x) 1 (-(4 * s.fld (F.LPn_AGC_LIM_PK_HI n) : Int)) then
    let s := s.agcStep n (s.fld (F.LPn_PGA_CUR n) - s.fld (F.LPn_AGC_LIM_STEP_DN n)) (s.fld (F.LPn_AGC_LIM_MIN_CODE n)) 63
    let hold := s.time + BitVec.ofNat 64 (usDticks (s.fld (F.LPn_AGC_TIME_HOLD_US n)))
    .next ((s.decayStart n).modLp n fun c => { c with holdUntil := hold })
  else .next s

/-- The code wanted at the end of a decay window of mean power `rms` and peak `pk`, relative to full scale. -/
def State.agcWant (s : State) (n : Port) (rms pk : Rat) : Int :=
  let target : Int := s.fld (F.LPn_AGC_CTL_TARGET n)
  let cur : Int := s.fld (F.LPn_PGA_CUR n)
  if !dbGe 1 rms (4 * (target - 3)) then cur - 1
  else if !dbGe rms 1 (-(4 * (target + 3))) && dbGe 1 (pk * pk) (4 * (s.fld (F.LPn_AGC_LIM_PK_HI n) + 3)) then cur + 1
  else cur

/-- A decay window is DECAY_US long, 0 treated as 1. -/
def State.decayLen (s : State) (n : Port) : Nat := usDticks (max 1 (s.fld (F.LPn_AGC_TIME_DECAY_US n)))

/-- The decay window has run out. -/
def State.decayDue (s : State) (n : Port) : Bool := decide (s.lp[n].decayAt.toNat + s.decayLen n ≤ s.now)

/-- AGC_DECAY_WINDOW: the end of a decay window; the next one begins. [DESIGN CHOICE, log 57] -/
def execAgcDecayWindow (n : Port) (s : State) : Out :=
  let l := s.lp[n]
  if !s.decayDue n then .next s
  else if s.agcActive n && decide (l.holdUntil.toNat ≤ s.now) && l.decCnt != 0 then
    .next ((s.agcStep n (s.agcWant n (2 * l.decSum / (l.decCnt : Nat)) l.decPk) (s.fld (F.LPn_AGC_LIM_MIN_CODE n))
      (s.fld (F.LPn_AGC_LIM_MAX_CODE n))).decayStart n)
  else .next (s.decayStart n)

/-- A write of LPn_AGC_CTL; setting EN starts a decay window. [DESIGN CHOICE, log 57] -/
def State.writeAgcCtl (s : State) (n : Port) (v : Word) : State :=
  let was := s.on (F.LPn_AGC_CTL_EN n)
  let s := s.setReg (R.LPn_AGC_CTL n) (v &&& 0x0000FF03)
  if v.getLsbD 0 && !was then s.decayStart n else s

/-- A write of LPn_PGA: REF waits for a synchronising reset (R125), CODE takes effect at once (R120, R127). -/
def State.writePga (s : State) (n : Port) (v : Word) : State :=
  let cur := s.fld (F.LPn_PGA_CUR n)
  ((s.setReg (R.LPn_PGA n) (v &&& 0x003F003F)).setFld (F.LPn_PGA_CUR n) cur).setCode n (min 32 (natBits v.toNat 5 0))

def execPgaCodeWrite (n : Port) (v : Word) (s : State) : Out := .next (s.writePga n v)

/-! ### Notches (R128, R129) -/

/-- A write of a notch coefficient: held, but for A2, which commits the five. -/
def State.writeNotch (s : State) (n : Port) (i : Fin 4) (c : Nat) (v : Word) : State :=
  let s := s.setReg (R.LPn_NOTCHi n i c) (v &&& 0x00FFFFFF)
  if c = 4 then
    let cs := (List.range 5).map fun c => signedOf 24 (s.fld (F.LPn_NOTCHi_COEF n i c))
    s.modLp n fun l => { l with notch := l.notch.set i { l.notch[i] with coef := cs } }
  else s

def execNotchCommit (n : Port) (i : Fin 4) (v : Word) (s : State) : Out := .next (s.writeNotch n i 4 v)

/-- A write of LPn_NOTCH_CTL: a notch newly enabled starts from zeroed history. -/
def State.writeNotchCtl (s : State) (n : Port) (mask : BitVec 4) : State :=
  let old := s.fld (F.LPn_NOTCH_CTL_EN n)
  let s := s.setReg (R.LPn_NOTCH_CTL n) (mask.setWidth 32)
  [0, 1, 2, 3].foldl (fun s (i : Fin 4) =>
    if mask.getLsbD i && !old.testBit i then
      s.modLp n fun l => { l with notch := l.notch.set i { l.notch[i] with x1 := 0, x2 := 0, y1 := 0, y2 := 0 } }
    else s) s

def execNotchEnable (n : Port) (mask : BitVec 4) (s : State) : Out := .next (s.writeNotchCtl n mask)

/-- One sample through a notch; coefficients carry 22 fraction bits. -/
def Notch.run (k : Notch) (x : Rat) : Notch × Rat :=
  let c := fun i => (k.coef.getD i 0 : Int) / (4194304 : Rat)
  let y := c 0 * x + c 1 * k.x1 + c 2 * k.x2 - c 3 * k.y1 - c 4 * k.y2
  ({ k with x1 := x, x2 := k.x1, y1 := y, y2 := k.y1 }, y)

/-! ### The FIR (R130-R134) -/

/-- Coefficient t of a bank. -/
def State.firTap (s : State) (n : Nat) (bank : Bool) (t : Nat) : Rat :=
  (signedOf 18 (s.fld (if bank then F.LPn_FIRB1_Tt_H n t else F.LPn_FIRB0_Tt_H n t)) : Int) / (65536 : Rat)

/-- The FIR's answer over an input history, newest first. -/
def firSum (taps : List Rat) (hist : List Rat) : Rat := sumRat (List.zipWith (· * ·) taps hist)

/-- A cross-fade ends: its target is active, and a queued request for the other bank starts the next fade (R133). -/
def LpChain.endFade (len : Nat) (l : LpChain) : LpChain :=
  match l.fade, l.queued with
  | none, _ => l
  | some f, none => { l with bank := f.bank, fade := none }
  | some f, some q =>
    if q = f.bank then { l with bank := f.bank, fade := none, queued := none }
    else if len = 0 then { l with bank := q, fade := none, queued := none }
    else { l with bank := f.bank, fade := some ⟨q, 0, len⟩, queued := none }

/-- FIR_FADE_END: a fade all of whose samples have come ends; a hop that brings the last of them ends it itself (R132). -/
def State.endFade (s : State) (n : Port) : State :=
  match s.lp[n].fade with
  | none => s
  | some f => if f.pos < f.len then s else s.modLp n (LpChain.endFade (s.fld (F.LPn_FIR_CTL_FADE_LEN n)))

def execFirFadeEnd (n : Port) (s : State) : Out := .next (s.endFade n)

/-- A write of LPn_FIR_CTL; ACTIVE_TAPS waits for a synchronising reset, a swap request starts or queues a cross-fade. [DEDUCED, log 36] -/
def State.writeFirCtl (s : State) (n : Port) (v : Word) : State :=
  let s := s.setReg (R.LPn_FIR_CTL n) (v &&& 0x00FF7F7F)
  if v.getLsbD 25 then
    let b := v.getLsbD 24
    let len := s.fld (F.LPn_FIR_CTL_FADE_LEN n)
    s.modLp n fun l =>
      if l.fade.isSome then { l with queued := some b }
      else if b = l.bank then l
      else if len = 0 then { l with bank := b }
      else { l with fade := some ⟨b, 0, len⟩ }
  else s

def execFirSwapRequest (n : Port) (v : Word) (s : State) : Out := .next (s.writeFirCtl n v)

/-- A coefficient write: refused during a cross-fade and to the active bank (R134). -/
def State.writeFirTap (s : State) (n : Port) (bank : Bool) (t : Nat) (v : Word) : State :=
  if s.lp[n].fade.isSome || s.lp[n].bank == bank then s.flag (F.LPn_FLAGS_BANK_BUSY n)
  else s.setReg (if bank then R.LPn_FIRB1_Tt n t else R.LPn_FIRB0_Tt n t) (v &&& 0x3FFFF)

def execFirCoefWrite (n : Port) (bank : Bool) (t : Fin 96) (v : Word) (s : State) : Out := .next (s.writeFirTap n bank t v)

/-! ### Level detectors (R135-R138) -/

/-- The peak detector's reading. -/
def State.peakReading (s : State) (n : Port) : Nat :=
  let p := if s.on (F.LPn_DET_CTL_PEAK_MODE n) then s.lp[n].lastPeak else s.lp[n].peak
  logp (p * p)

/-- A read of LPn_PEAK restarts the detector when PEAK_MODE = 0. -/
def State.readPeak (s : State) (n : Port) : State × Word :=
  let v := BitVec.ofNat 32 (s.peakReading n)
  (if s.on (F.LPn_DET_CTL_PEAK_MODE n) then s else s.modLp n fun l => { l with peak := 0 }, v)

def execPeakRead (n : Port) (s : State) : Out :=
  let r := s.readPeak n
  .next { r.1 with busOut := r.2 }

/-- The RMS window in dticks: RMS_SYM symbols, 0 treated as 1 (R136). -/
def State.rmsDticks (s : State) (n : Nat) : Nat := symDticks * max 1 (s.fld (F.LPn_DET_CTL_RMS_SYM n))

/-- A window of whole symbols of the device-time grid ends with the hop that ends at `t`: its sums wait to be shown (R136). [DESIGN CHOICE, log 57] -/
def LpChain.endWindow (w t : Nat) (l : LpChain) : LpChain :=
  if t % w = 0 then { l with rmsDone := some (l.rmsSum, l.rmsCnt, l.winPeak), rmsSum := 0, rmsCnt := 0, winPeak := 0 } else l

/-- RMS_WINDOW: an RMS window has ended: the mean square of its samples, doubled to be relative to a full-scale sine, and the peak over it; a window
without a settled sample leaves both as they are (R148). [DESIGN CHOICE, log 57] -/
def execRmsWindow (n : Port) (s : State) : Out :=
  match s.lp[n].rmsDone with
  | none => .next s
  | some (sum, cnt, peak) =>
    let s := if cnt = 0 then s else s.setReg (R.LPn_RMS n) (BitVec.ofNat 32 (logp (2 * sum / (cnt : Nat))))
    .next (s.modLp n fun l => { l with rmsDone := none, lastPeak := if cnt = 0 then l.lastPeak else peak })

/-- The overload that lasts, if one does, ends now: its span reaches SETTLE_N samples further (R123). -/
def State.endOverload (s : State) (n : Port) : State :=
  match s.lp[n].overs with
  | (a, none) :: l =>
    let e := s.time + BitVec.ofNat 64 (s.settleN n * samplePeriod (s.preset n))
    s.modLp n fun c => { c with overs := (a, some e) :: l }
  | _ => s

/-- ADC_OVERLOAD: the ADC modulator overloads, or the overload ends (R123): output samples from its start until SETTLE_N after its end are
unsettled. -/
def execAdcOverload (n : Port) (active : Bool) (s : State) : Out :=
  if !s.lpOn n then .next s
  else
    match active, s.lp[n].overs with
    | true, (_, none) :: _ => .next s
    | true, l =>
      let s := (s.flag (F.LPn_FLAGS_ADC_OVL n)).raiseLimited (Lim.adcOverload n) 24576 Ev.ADC_OVERLOAD (Src.lpChain n)
        (BitVec.ofNat 32 n) 0
      .next (s.modLp n fun c => { c with overs := ((s.time, none) :: l).take 16 })
    | false, _ => .next (s.endOverload n)

/-! ### Zero crossings (R139-R143) -/

/-- The nominal period with 8 fraction bits. -/
def State.zcNominal (s : State) (n : Nat) : Nat := (if s.on (F.LPn_ZC_CTL_NOM n) then 409600 else 491520) * 256

/-- A positive-going edge at instant `at_` through the tracker (R140). [DESIGN CHOICE, log 10; DEDUCED, log 36] -/
def State.zcEdge (s : State) (n : Port) (at_ : Time) : Out :=
  if !s.on (F.LPn_ZC_CTL_EN n) then .next s
  else
    let l := s.lp[n]
    let i : Int := (at_.toNat : Int) - ((l.zcLast.getD 0).toNat : Int)
    let t : Int := s.fld (F.LPn_ZC_PERIOD_T n)
    let m : Int := if l.zcLock then (2 * 256 * i + t) / (2 * t) else 1
    let ok := if l.zcLock then decide (1 ≤ m ∧ m ≤ 3 ∧ 16 * (256 * i - m * t).natAbs ≤ t.toNat) else decide (378092 ≤ i ∧ i ≤ 546133)
    if ok then
      let t := t + (256 * i - m * t) / (m * 2 ^ s.fld (F.LPn_ZC_CTL_TC n))
      let s := (s.setFld (F.LPn_ZC_PERIOD_T n) t.toNat).setReg (R.LPn_ZC_EDGE n) (at_.setWidth 32)
      let locks := !l.zcLock && decide (4 ≤ l.zcOk + 1)
      let s := s.modLp n fun l => { l with zcLast := some at_, zcOk := l.zcOk + 1, zcLock := l.zcLock || locks }
      .next (if locks then s.raise Ev.ZC_LOCKED (Src.lpZc n) (BitVec.ofNat 32 n) 0 else s)
    else
      let s := (s.flag (F.LPn_FLAGS_ZC_JUMP n)).tally (33 + 4 * n)
      .next (if l.zcLock then s else s.modLp n fun l => { l with zcLast := some at_, zcOk := 0 })

/-- ZC_EDGE: the Schmitt trigger of ZCn has held `level` since an instant. Inverted by POL, it is accepted when it is new and has held for
GLITCH x 16 dticks; a positive-going edge is stamped with that instant (R139). [DEDUCED, log 36] -/
def execZcEdge (n : Port) (level : Bool) (since : Time) (s : State) : Out :=
  let lv := level ^^ s.on (F.LPn_ZC_CTL_POL n)
  if lv = s.lp[n].zcLevel ∨ s.now < since.toNat + 16 * s.fld (F.LPn_ZC_CTL_GLITCH n) then .next s
  else
    let s := s.modLp n fun l => { l with zcLevel := lv }
    if lv then s.zcEdge n since else .next s

/-- No edge accepted for 4 x T (R142). -/
def execZcTimeout (n : Port) (s : State) : Out :=
  if s.on (F.LPn_ZC_CTL_EN n) then
    let s := (s.flag (F.LPn_FLAGS_ZC_LOST n)).raise Ev.ZC_LOST (Src.lpZc n) (BitVec.ofNat 32 n) 0
    .next (s.modLp n fun l => { l with zcLock := false, zcOk := 0 })
  else .next s

/-- A write of LPn_ZC_CTL; setting EN starts the tracker at the nominal period, the last edge's instant as it was. [DEDUCED, log 36] -/
def State.writeZcCtl (s : State) (n : Port) (v : Word) : State :=
  let was := s.on (F.LPn_ZC_CTL_EN n)
  let s := s.setReg (R.LPn_ZC_CTL n) (v &&& 0xFFFFFF7F)
  if v.getLsbD 0 && !was then
    (s.setFld (F.LPn_ZC_PERIOD_T n) (s.zcNominal n)).modLp n fun l => { l with zcOk := 0, zcLock := false }
  else if v.getLsbD 0 then s
  else s.modLp n fun l => { l with zcLock := false, zcOk := 0 }

/-- The port's mains phase at an instant (R141). -/
def State.mainsPhase (s : State) (n : Port) (t : Int) : Nat :=
  let since := t - ((s.lp[n].zcLast.getD 0).toNat : Int)
  ((65536 * 256 * since / (s.fld (F.LPn_ZC_PERIOD_T n) : Int) + signedOf 16 (s.fld (F.LPn_ZC_CTL_PHASE_OFS n))) % 65536).toNat

/-- The phase bin of R141. -/
def phaseBin (phase : Nat) : Nat := phase % 32768 / 512

/-- The reference port (R143). -/
def State.refPort (s : State) : Option Port :=
  allPorts.find? fun n => s.on (F.LPn_ZC_CTL_EN n) && s.on (F.LPn_ZC_CTL_REF n)

/-! ### The noise map (R144, R145) -/

/-- MAP_VALID; FREEZE keeps it as it stood. -/
def State.mapValid (s : State) (n : Port) : Bool :=
  if s.on (F.LPn_NMAP_CTL_FREEZE n) then s.lp[n].mapHeld
  else s.lp[n].zcLock && decide (2 ^ s.fld (F.LPn_NMAP_CTL_TC n) ≤ s.lp[n].halves)

/-- One half-cycle's sums into the map: each bin with a qualifying sample moves by `g` of its distance to the mean (R144). -/
def LpChain.mapHalf (g : Rat) (l : LpChain) (sums : Vector (Rat × Nat) 64) : LpChain :=
  { l with
    nmap := Vector.zipWith (fun m (a : Rat × Nat) => if a.2 = 0 then m else m + (a.1 / (a.2 : Nat) - m) * g) l.nmap sums
    halves := l.halves + 1 }

/-- The mains half-cycle under way ends: its sums wait for NOISE_MAP_UPDATE. -/
def LpChain.endHalf (l : LpChain) : LpChain :=
  { l with halfDone := l.halfDone ++ [l.nsum], nsum := Vector.replicate 64 (0, 0) }

/-- NOISE_MAP_UPDATE: the half-cycles whose samples have all come enter the map, where it is enabled, locked and not frozen; else they are
lost. [DESIGN CHOICE, log 57] -/
def execNoiseMapUpdate (n : Port) (s : State) : Out :=
  if s.lpOn n && s.on (F.LPn_NMAP_CTL_EN n) && !s.on (F.LPn_NMAP_CTL_FREEZE n) && s.lp[n].zcLock then
    let g : Rat := mkRat 1 (2 ^ s.fld (F.LPn_NMAP_CTL_TC n))
    .next (s.modLp n fun l => { l.halfDone.foldl (LpChain.mapHalf g) l with halfDone := [] })
  else .next (s.modLp n fun l => { l with nsum := Vector.replicate 64 (0, 0), halfDone := [] })

/-- CLEAR. -/
def State.clearMap (s : State) (n : Port) : State :=
  s.modLp n fun l => { l with nmap := Vector.replicate 64 0, nsum := Vector.replicate 64 (0, 0), halfDone := [], halves := 0 }

def execNmapClear (n : Port) (s : State) : Out := .next (s.clearMap n)

/-- A write of LPn_NMAP_CTL; CLEAR while the map is frozen leaves MAP_VALID as it is held. [DEDUCED, log 36] -/
def State.writeNmapCtl (s : State) (n : Port) (v : Word) : State :=
  let wasEn := s.on (F.LPn_NMAP_CTL_EN n)
  let wasFrz := s.on (F.LPn_NMAP_CTL_FREEZE n)
  let held := s.mapValid n
  let s := s.setReg (R.LPn_NMAP_CTL n) (v &&& 0x00000F03)
  let s := if v.getLsbD 1 && !wasFrz then s.modLp n fun l => { l with mapHeld := held } else s
  let s := if v.getLsbD 0 && !wasEn then s.modLp n fun l => { l with halves := 0 } else s
  if v.getLsbD 2 then s.clearMap n else s

/-! ### Synchronising reset (R147, R148) -/

def State.syncReset (s : State) (n : Port) : State :=
  let taps := s.tapsHeld n
  let ref := s.fld (F.LPn_PGA_REF n)
  let s := s.modLp n fun l =>
    let bank := match l.fade with | some f => f.bank | none => l.bank
    let bank := l.queued.getD bank
    { l with
      taps := taps, ref := ref, bank := bank, fade := none, queued := none, hist := [], samples := [], trans := []
      notch := l.notch.map fun k => { k with x1 := 0, x2 := 0, y1 := 0, y2 := 0 }
      idle := List.replicate 320 0
      idleCnt := List.replicate 20 0 }
  s.modLp n fun l => { l with settle := s.settleN n, resetAt := some s.time, decayAt := s.time, decSum := 0, decCnt := 0, decPk := 0 }

/-! ### A hop of samples (R117-R119, R124, R130-R137) -/

/-- The gain of stage 4: 1.5 dB for each code of REF - CUR (R124). -/
def gainRatio (ref cur : Nat) : Rat := quarterDb (6 * ((ref : Int) - cur))

/-- The enabled notches in order. -/
def runNotches (en : Nat) (l : LpChain) (x : Rat) : LpChain × Rat :=
  [0, 1, 2, 3].foldl (fun (p : LpChain × Rat) (i : Fin 4) =>
    if en.testBit i then
      let r := p.1.notch[i].run p.2
      ({ p.1 with notch := p.1.notch.set i r.1 }, r.2)
    else p) (l, x)

/-- What a sample's processing needs of the registers. -/
structure HopRegs where
  notch : Nat
  taps0 : List Rat
  taps1 : List Rat
  fade  : Nat
  envTc : Nat
  nmap  : Bool
  decay : Nat
  lb    : Bool
deriving DecidableEq, Repr

/-- What comes with one stage-3 sample: the device time of its output and the time it is referred to, the samples of the first decimator's
output in its period, the gain of stage 4, its phase bin and TXH, and whether an overload marks it. -/
structure HopSample where
  x    : Rat
  at_  : Int
  ref  : Int
  per  : Nat
  fine : List Rat
  gain : Rat
  bin  : Option Nat
  txh  : Bool
  loud : Bool
deriving DecidableEq, Repr

/-- A sample of the first decimator's output belongs to the gain control's decay window of `len` dticks that began at `start`. -/
def inDecay (start : Time) (len : Nat) (t : Int) : Bool := decide ((start.toNat : Int) < t ∧ t ≤ (start.toNat : Int) + len)

/-- The peak detector and the gain control's measurements over the samples of the first decimator's output in one period (R126, R135): the
gain control takes those of its decay window, and holds through TXH. [DESIGN CHOICE, log 57] -/
def LpChain.measure (r : HopRegs) (l : LpChain) (h : HopSample) : LpChain :=
  let pk := maxRat (h.fine.map absRat)
  let l := { l with peak := max l.peak pk, winPeak := max l.winPeak pk }
  if h.txh then l
  else
    let fine := (h.fine.zipIdx.filter fun p => inDecay l.decayAt r.decay (h.at_ + 4 * p.2)).map (·.1)
    { l with decSum := l.decSum + sumRat (fine.map fun x => x * x), decCnt := l.decCnt + fine.length, decPk := max l.decPk (maxRat (fine.map absRat)) }

/-- A stage-4 sample through the loopback detector, which holds through unsettled samples: windows of 16,384 dticks of device time, correlated with
tones 4 and 6; the power of a window of settled samples counts (R471). [DEDUCED, log 53] -/
def LpChain.loopback (r : HopRegs) (l : LpChain) (h : HopSample) (x : Rat) (settled : Bool) : LpChain :=
  if !r.lb then { l with lbWin := ⟨Cplx.zero, Cplx.zero, 0⟩ }
  else
    let n := 16384 / h.per
    let turn := fun (k : Int) => Cplx.scale x (cis (-(mkRat ((k * h.ref) % 16384) 16384)))
    let w := l.lbWin
    let w : LbWindow := ⟨w.t4.add (turn 4), w.t6.add (turn 6), w.cnt + settled.toNat⟩
    if (h.ref + h.per) % 16384 ≠ 0 then { l with lbWin := w }
    else if w.cnt < n then { l with lbWin := ⟨Cplx.zero, Cplx.zero, 0⟩ }
    else
      let sq := fun (z : Cplx) => (Cplx.scale (mkRat 2 n) z).sq
      { l with lbWin := ⟨Cplx.zero, Cplx.zero, 0⟩, lbSum := l.lbSum + sq w.t4 + sq w.t6, lbCnt := l.lbCnt + 2 }

/-- A sample's phase bin ends a half-cycle when it is lower than the last one's; without a valid phase the half-cycle is given up (R144). -/
def LpChain.mainsBin (l : LpChain) (bin : Option Nat) : LpChain :=
  let l := match l.lastBin, bin with
    | some a, some b => if b < a then l.endHalf else l
    | _, none => { l with nsum := Vector.replicate 64 (0, 0) }
    | none, _ => l
  { l with lastBin := bin }

/-- One stage-3 sample to the FIR output, with its tags; a fade runs and ends by output samples (R132, R133), and the detectors take settled
samples (R148). A sample of before the last synchronising reset is no output. -/
def LpChain.sample (r : HopRegs) (l : LpChain) (h : HopSample) : LpChain :=
  if l.resetAt.any fun t => decide (h.at_ < t.toNat) then l
  else
  let settled := l.settle == 0 && !h.loud
  let l := l.loopback r h (h.gain * h.x) settled
  let p := runNotches r.notch l (h.gain * h.x)
  let bin := h.bin
  let l := p.1
  let hist := (p.2 :: l.hist).take 96
  let out := fun (b : Bool) => firSum ((if b then r.taps1 else r.taps0).take l.taps) hist
  let y := match l.fade with
    | none => out l.bank
    | some f => out l.bank + mkRat (min f.len f.pos + 1) (f.len + 1) * (out f.bank - out l.bank)
  let y2 := y * y
  let l : LpChain := { l with fade := l.fade.map fun (f : Fade) => { f with pos := f.pos + 1 } }
  let l : LpChain := if l.fade.any fun (f : Fade) => decide (f.len ≤ f.pos) then l.endFade r.fade else l
  let l : LpChain := { l with
    hist := hist
    settle := l.settle - 1
    samples := (⟨y, settled, bin, h.txh⟩ :: l.samples).take 1024 }
  let l := l.mainsBin bin
  if !settled then l
  else
    let l := l.measure r h
    let l := { l with env := l.env + (y2 - l.env) * mkRat 1 (2 ^ r.envTc), rmsSum := l.rmsSum + y2, rmsCnt := l.rmsCnt + 1 }
    match bin with
    | some b =>
      if h.txh || !r.nmap then l
      else if hb : b < 64 then { l with nsum := l.nsum.set b (l.nsum[b].1 + 2 * y2, l.nsum[b].2 + 1) } else l
    | none => l

/-- The delay from the input balls that output samples are referred by (R118). [DEDUCED, log 36] -/
def State.referDelay (s : State) (n : Port) : Nat :=
  (fixedLatency (s.preset n) + s.fld (F.LPn_FIR_CTL_FIR_DLY n)) * samplePeriod (s.preset n)

/-- The device time the newest output sample is referred to (R118). [DEDUCED, log 36] -/
def State.referred (s : State) (n : Port) : Int :=
  (s.now : Int) - ((s.referDelay n : Nat) : Int)

/-- The hop just completed: its samples are referred to [1024 q, 1024 (q+1)). -/
def State.hopIndex (s : State) (n : Port) : Nat := (s.referred n / 1024).toNat - 1

/-- A hop's samples through the chain, with those of the first decimator's output at 4 dticks over the hop (R117). A sample's gain is that of the
code in force when it entered the FIR, its referred time and FIR_DLY samples more (R118, R124). [DEDUCED, log 36] -/
def State.runHop (s : State) (n : Port) (samples first : List Rat) : State :=
  let q := s.hopIndex n
  let per := samplePeriod (s.preset n)
  let lp := s.lp[n]
  let cur := s.fld (F.LPn_PGA_CUR n)
  let dly := s.fld (F.LPn_FIR_CTL_FIR_DLY n) * per
  let r : HopRegs :=
    { notch := s.fld (F.LPn_NOTCH_CTL_EN n),
      taps0 := (List.range 96).map (s.firTap n false), taps1 := (List.range 96).map (s.firTap n true),
      fade := s.fld (F.LPn_FIR_CTL_FADE_LEN n), envTc := s.fld (F.LPn_DET_CTL_ENV_TC n),
      nmap := s.on (F.LPn_NMAP_CTL_EN n) && !s.on (F.LPn_NMAP_CTL_FREEZE n),
      decay := s.decayLen n, lb := s.on F.AGE_CTL_LB_EN }
  let l := samples.zipIdx.foldl (fun l p =>
    let t : Int := 1024 * q + per * p.2
    let u : Int := t + s.referDelay n
    l.sample r
      { x := p.1, at_ := u, ref := t, per := per, fine := (first.drop (per / 4 * p.2)).take (per / 4)
        gain := gainRatio lp.ref (lp.codeAt cur (t + dly))
        bin := if lp.zcLock then some (phaseBin (s.mainsPhase n t)) else none, txh := s.txhAt n t, loud := inSpans lp.overs u }) lp
  s.modLp n fun _ => l.endWindow (s.rmsDticks n) (1024 * (q + 1))

/-! ### The transform (R150, R151) -/

/-- Bin k of the N samples, scaled so that a full-scale sine has |X| = 1. -/
def dftBin (n : Nat) (xs : List Rat) (k : Nat) : Cplx :=
  let z := xs.zipIdx.foldl (fun z p => z.add (Cplx.scale p.1 (cis (-(mkRat (k * p.2 % n) n))))) Cplx.zero
  Cplx.scale (mkRat 2 n) z

/-- The phase bins a window's samples cover, `none` when any sample's phase is not valid. -/
def coveredBins (ss : List Sample) : Option (List Nat) :=
  if ss.all (·.bin.isSome) then some ((ss.filterMap (·.bin)).eraseDups) else none

/-- The transform of the newest N samples, for the lots given; `noise` is R170's pair for the phase bins covered. -/
def makeTransform (preset h : Nat) (lots blk : List Nat) (noise : List Nat → Option (Rat × Rat)) (ss : List Sample) : Transform :=
  let n := fftSize preset
  let w := (ss.take n).reverse
  let xs := w.map (·.y)
  { h := h, unsettled := decide (w.length < n) || w.any (fun x => !x.settled), txh := w.any (·.txh), blk := blk,
    noise := (coveredBins w).bind noise,
    x := (List.range 320).map fun t => if lots.contains (t / 16) then dftBin n xs (t + 8) else Cplx.zero }

end Sys2Proof.Machine
end

