-- ==== Sys2Proof/Machine/TxCore.lean ====
section
/-! DEFINITION. Transmissions as the MAC and the transmit paths keep them: queue entries (R259), reports (R35, R515), TXEN_N (R219),
gates and the return of RXIDs (R22, R262), and the deferred store (R254, R258). -/

namespace Sys2Proof.Machine

def State.modMac (s : State) (f : Mac → Mac) : State := { s with mac := f s.mac }

/-! ### Addresses -/

/-- The domain a sample of MAC_DOMAIN holds. -/
def SfSample.dom (b : SfSample) : Nat := natBits b.domain.toNat 13 0

/-- The 14-bit domain of the device: MAC_DOMAIN as sampled for the running superframe (R232). -/
def State.domain (s : State) : Nat := s.mac.cur.dom

/-- A network address from a domain and a node (R82). -/
def netAddr (domain node : Nat) : Word := BitVec.ofNat 32 (domain * 2 ^ 18 + node % 2 ^ 18)

/-- The node number of an address. -/
def nodeOf (a : Word) : Nat := a.toNat % 2 ^ 18

/-! ### Ports and plans -/

/-- The LASTGASP frame's port. -/
def State.lgPort (s : State) : Port := ⟨min 5 (s.fld F.SYS_MAINS_CTL_LG_PORT), by omega⟩

/-- A port joined in a yoked pair. -/
def State.yokedPort (s : State) (n : Nat) : Bool := s.dmd.yoked.getLsbD (n / 2)

/-- The port whose streams, plan and levels serve port n: the lower port of a yoked pair (R224). -/
def State.txPort (s : State) (n : Port) : Port := if s.yokedPort n then ⟨n.val / 2 * 2, by omega⟩ else n

/-- The ports on which the samples of port n's streams leave (R224). -/
def State.outPorts (s : State) (n : Port) : List Nat :=
  let p := n.val / 2
  if s.yokedPort n then
    if s.on (F.TXP_PAIRp_BOTH p) then [2 * p, 2 * p + 1] else [2 * p + s.fld (F.TXP_PAIRp_SEL p)]
  else [n.val]

def State.plan (s : State) (n : Nat) : Nat := s.fld (F.TXP_PnCTL_PLAN n)

/-- Modes in which the device may transmit other than its LASTGASP frame (R36, R223). -/
def State.txMode (s : State) : Bool :=
  match s.sys.mode with
  | .head | .follow | .holdover | .subordinate => true
  | _ => false

/-- The mode whose beacon opens the superframe being built: one that is pending opens its first superframe itself (R39, R234, R533). -/
def State.beaconMode (s : State) : Mode :=
  match s.sys.pend with
  | some .head => .head
  | some .follow => .follow
  | some .holdover => .holdover
  | _ => s.sys.mode

/-- The mode lets this transmission leave (R36, R223): a beacon by the mode of the superframe it opens. [DEDUCED, log 47] -/
def State.maySend (s : State) (o : TxOp) : Bool :=
  match o.kind with
  | .beacon => { s with sys := { s.sys with mode := s.beaconMode } }.txMode
  | .lastgasp => s.txMode || s.sys.mode == .lastgasp
  | _ => s.txMode

/-! ### TXEN_N -/

/-- TXEN_N of port n is asserted. -/
def State.txenOn (s : State) (n : Port) : Bool :=
  match s.lp[n].spans with
  | (_, none) :: _ => true
  | _ => false

def State.txenAssert (s : State) (n : Port) : State :=
  if s.txenOn n then s else s.modLp n fun l => { l with spans := ((s.time, none) :: l.spans).take 16 }

/-- TXEN_N rises; its span of R221 ends 100 us later. -/
def State.txenRise (s : State) (n : Port) : State :=
  s.modLp n fun l =>
    match l.spans with
    | (a, none) :: rest => { l with spans := (a, some (s.time + BitVec.ofNat 64 (usDticks 100))) :: rest }
    | _ => l

/-- Calibrations whose symbols reach the line. -/
def State.calOnAir (s : State) : Bool := s.mac.cal.any (·.drv)

/-- TXEN_N rises unless a transmission, a release still due or a driven calibration keeps it asserted. -/
def State.txenSettle (s : State) (n : Port) : State :=
  if s.txenOn n && !(s.mac.ops.any fun o => o.txen.contains n.val) && (s.mac.lag.getD n none).isNone
      && !(s.mac.cal.any fun c => c.port == n && c.drv) then s.txenRise n else s

def State.txenSettleAll (s : State) : State := allPorts.foldl (fun s n => s.txenSettle n) s

/-! ### Transmissions -/

def State.findOp (s : State) (id : Nat) : Option TxOp := s.mac.ops.find? fun o => o.id == id
def State.modOp (s : State) (id : Nat) (f : TxOp → TxOp) : State :=
  s.modMac fun m => { m with ops := m.ops.map fun o => if o.id == id then f o else o }
def State.removeOp (s : State) (id : Nat) : State := (s.modMac fun m => { m with ops := m.ops.filter fun o => o.id != id }).crcTxEnd id

/-- Queue entries in use. -/
def State.queueUsed (s : State) : List Nat :=
  (s.mac.ops.filter (·.inQueue)).map (·.index) ++ s.mac.events.map (·.index)

/-- The first of the queue entries given that is free (R259). -/
def State.freeEntry (s : State) (lo n : Nat) : Option Nat :=
  ((List.range n).map (· + lo)).find? fun i => !s.queueUsed.contains i

/-- The generation count of an entry goes up each time the entry is taken (R261). -/
def State.genOf (s : State) (i : Nat) : Nat := (kget? s.mac.gens i).getD 0
def State.newGen (s : State) (i : Nat) : State := s.modMac fun m => { m with gens := sput m.gens i ((s.genOf i + 1) % 256) }

/-- A transmission with nothing yet decided. -/
def TxOp.blank : TxOp :=
  { id := 0, index := 0, inQueue := true, kind := .beacon, stage := .queued, encr := .done, time := 0, port := 0, pair := false,
    gate := none, lots := [], mc := 0, e := 0, hdr := ⟨false, 0, 0, false, false, 0, 0, 0, 0, 0, 0, 0, 0, []⟩, addr := 0, ksel := 0,
    stall := none, fc := none, bound := none, plain := [], payload := [], mask := none, tones := [], txen := [], level := 0, taper := 0, att := [], plan := 0,
    launch := none, cut := none, status := none }

/-- Put a transmission into queue entry i under a number of its own. -/
def State.addOp (s : State) (i : Nat) (o : TxOp) : State × Nat :=
  let id := s.mac.nextId
  let s := s.newGen i
  (s.modMac fun m => { m with ops := m.ops ++ [{ o with id := id, index := i }], nextId := id + 1 }, id)

/-! ### RXIDs (R22) -/

/-- Whether a trace of the reception is not settled: the reception itself, its ACK, an action gated on it or a marker not yet sent (R199). -/
def State.rxidBusy (s : State) (id : Rxid) : Bool :=
  s.ulk.waiting.any (·.marks id) ||
  (s.dmd.rx.any fun r => r.rxid == id) || (s.dmd.ctx.any fun c => c.rxid == some id) ||
  (s.mac.ops.any fun o => o.gate == some id) || (s.mac.events.any fun e => e.gate == some id)

/-- Return an RXID to the free pool once every trace is settled. -/
def State.freeRxid (s : State) (id : Rxid) : State :=
  if s.rxidBusy id then s else { s with dmd := { s.dmd with used := s.dmd.used.filter (· != id) } }

/-- A commit releases actions from their gates (R262). -/
def State.openGates (s : State) (id : Rxid) : State :=
  s.modMac fun m =>
    { m with
      ops := m.ops.map fun o => if o.gate == some id then { o with gate := none } else o
      events := m.events.map fun e => if e.gate == some id then { e with gate := none } else e }

/-! ### The deferred store (R254, R258) -/

/-- DL_PEND of a hot stall follows the store. -/
def State.refreshPend (s : State) (a : Word) : State :=
  match s.hotFind a with
  | some i =>
    let p := s.mac.store.any fun d => d.addr == a
    if s.stallFlag i 4 == p then s else s.setStallFlag i 4 p
  | none => s

def State.modDeferred (s : State) (no : Nat) (f : Deferred → Deferred) : State :=
  s.modMac fun m => { m with store := m.store.map fun d => if d.no == no then f d else d }

/-- A stored descriptor completes and leaves the store. -/
def State.finishDeferred (s : State) (no : Nat) (st : CStatus) (reason ackres : Nat) : State :=
  match s.mac.store.find? fun d => d.no == no with
  | none => s
  | some d =>
    let s := s.modMac fun m => { m with store := m.store.filter fun x => x.no != no }
    let s := s.refreshPend d.addr
    s.completeEntry d.ring d.n ⟨st, reason, ackres, d.tries, d.fc.getD 0, d.launch⟩

/-- A stored descriptor leaves the store unsent: one not booked is counted here, one that is with its transmission (R384). -/
def State.dropStored (s : State) (d : Deferred) (reason : Nat) : State :=
  (if d.booked then s else s.tally 6).finishDeferred d.no .dropped reason (if d.d.ackreq then 2 else 0)

/-! ### The lots a port sends on (R222) -/

/-- The span of a transmission begins on some ports, where it has not. -/
def State.sentFrom (s : State) (ns : List Nat) (id : Nat) (lots : List Nat) : State :=
  allPorts.foldl (fun (s : State) (n : Port) =>
    if ns.contains n.val then
      s.modLp n fun l => if l.sending.any (fun f => f.id == id) then l else { l with sending := (⟨id, lots, s.now, none⟩ :: l.sending).take 64 }
    else s) s

/-- The span of a transmission ends on each port 100 us after TXEN_N's release for it, at the instant given. -/
def State.sentTill (s : State) (id : Nat) (release : Nat → Nat) : State :=
  allPorts.foldl (fun (s : State) (n : Port) =>
    s.modLp n fun l => { l with sending := l.sending.map fun f =>
      if f.id == id && f.till.isNone then { f with till := some (release n.val + usDticks 100) } else f }) s

/-! ### Reports (R35, R377, R378, R515) -/

namespace Drop
def txConflict : Nat := 1
def mode : Nat := 2
def maskViolation : Nat := 3
def masterSlot : Nat := 4
def keyPolicy : Nat := 5
def keyZeroised : Nat := 6
def fcExhausted : Nat := 7
def cancelled : Nat := 8
def gate : Nat := 9
def lastgasp : Nat := 10
def dlqFull : Nat := 11
def noAck : Nat := 12
def txLate : Nat := 13
def persistFail : Nat := 14
end Drop

def TxOp.tries (o : TxOp) : Nat := if o.launch.isSome then 1 else 0

def TxOp.completion (o : TxOp) (st : CStatus) (reason ackres : Nat) : Completion :=
  ⟨st, reason, ackres, o.tries, o.fc.getD 0, o.launch.getD 0⟩

/-- The ACKRES of a transmission that got no ACK. -/
def TxOp.noAck (o : TxOp) : Nat := if o.hdr.ackreq then 2 else 0

/-- The core mask of one core. -/
def coreMask (k : CoreId) : BitVec 8 := BitVec.twoPow 8 k

/-- Report a transmission dropped, cut or cancelled. -/
def State.reportDrop (s : State) (o : TxOp) (reason : Nat) : State :=
  let s := s.tally 6
  match o.kind with
  | .ack _ | .beacon => s.raise Ev.TX_DROPPED Src.macQueue 0 reason
  | .lastgasp =>
    let s := s.raise Ev.TX_DROPPED Src.macQueue 0 reason
    { s with sys := { s.sys with outage := s.sys.outage.map fun g => { g with result := BitVec.ofNat 8 reason } } }
  | .host r n => s.completeEntry r n (o.completion .dropped reason o.noAck)
  | .core k desc =>
    (s.completeDesc desc.toNat (o.completion .dropped reason o.noAck)).raiseTo Ev.TX_DROPPED Src.macQueue desc reason (coreMask k) s.stamp
  | .deferred no => s.finishDeferred no .dropped reason o.noAck

/-- A transmission is dropped or cancelled before its end: its TXEN_N is withdrawn, its stream and entry are free, its gate is settled, and
it is reported. -/
def State.dropOp (s : State) (o : TxOp) (reason : Nat) : State :=
  let s := (((s.removeOp o.id).txenSettleAll).sentTill o.id fun _ => s.now).reportDrop o reason
  match o.gate with
  | some id => s.freeRxid id
  | none => s

/-- A transmission is cancelled without a report. -/
def State.cancelOp (s : State) (o : TxOp) : State :=
  let s := (((s.removeOp o.id).txenSettleAll).sentTill o.id fun _ => s.now).tally 6
  match o.gate with
  | some id => s.freeRxid id
  | none => s

/-- A transmission completes DONE: `ackres` as in R513. [DEDUCED, log 39] -/
def State.completeOp (s : State) (o : TxOp) (ackres : Nat) : State :=
  match o.kind with
  | .ack _ | .beacon | .lastgasp => s
  | .host r n => s.completeEntry r n (o.completion .done 0 ackres)
  | .core k desc =>
    (s.completeDesc desc.toNat (o.completion .done 0 ackres)).raiseTo Ev.TX_DONE Src.macQueue desc o.port (coreMask k)
      (BitVec.ofNat 48 (o.launch.getD 0))
  | .deferred no => s.finishDeferred no .done 0 ackres

/-- Drop every transmission that satisfies p, in queue order. -/
def State.dropWhere (s : State) (p : TxOp → Bool) (reason : Nat) : State :=
  (s.mac.ops.filter p).foldl (fun s o => s.dropOp o reason) s

/-- A frame that ends with the symbol under way at `now`. -/
def OnLine.shortened (e : OnLine) (now : Nat) : OnLine := { e with symbols := e.symbols.take ((now - e.launch) / symDticks + 1) }

/-- Cut the calibrations whose symbols reach the line, at their current symbol (R36, R41). [DEDUCED, log 40] -/
def State.cutCals (s : State) : State :=
  let ids := (s.mac.cal.filter fun c => c.drv && !c.cut).map (·.frame.id)
  s.modMac fun m =>
    { m with
      cal := m.cal.map fun c => if ids.contains c.frame.id then { c with cut := true, frame := c.frame.shortened s.now } else c
      line := m.line.map fun e => if ids.contains e.id then e.shortened s.now else e }

/-- Cut streams (R41, R226): those on the line end at their current symbol, those that have only taken a stream are dropped. -/
def State.cutAtSymbol (s : State) (p : TxOp → Bool) (reason : Nat) : State :=
  let s := s.modMac fun m => { m with ops := m.ops.map fun o =>
    match o.stage with
    | .onAir _ => if p o && o.cut.isNone then { o with cut := some reason } else o
    | _ => o }
  let ids := (s.mac.ops.filter fun o => o.cut.isSome).map (·.id)
  let s := s.modMac fun m => { m with line := m.line.map fun e => if ids.contains e.id then e.shortened s.now else e }
  s.dropWhere (fun o => match o.stage with | .taken _ => p o | _ => false) reason

end Sys2Proof.Machine
end

