-- ==== Sys2Proof/Machine/Squash.lean ====
section
/-! DEFINITION. Receptions and contexts: RXID allocation (R21-R23), roles (R154), and the squash (R26, R188, R194). -/

namespace Sys2Proof.Machine

/-! Squash reasons (R194). -/
namespace Sq
def QUAL_FAIL : Nat := 1
def NO_TIMING : Nat := 2
def HCS_FAIL : Nat := 3
def HDR_INVALID : Nat := 4
def CAPTURED : Nat := 5
def CTX_FULL : Nat := 6
def LEDGER_FULL : Nat := 7
def LEDGER_BUSY : Nat := 8
def RING_FULL : Nat := 9
def FCS_FAIL : Nat := 10
def TAG_FAIL : Nat := 11
def REPLAY_OLD : Nat := 12
def KEY_ZEROISED : Nat := 13
def PORT_RESET : Nat := 14
def PERSIST_FAIL : Nat := 15
def LASTGASP : Nat := 16
def RING_FAULT : Nat := 17
end Sq

def State.modDmd (s : State) (f : Dmd → Dmd) : State := { s with dmd := f s.dmd }

/-! ### Receptions -/

def State.findRx (s : State) (id : Rxid) : Option Rx := s.dmd.rx.find? fun r => r.rxid == id
def State.modRx (s : State) (id : Rxid) (f : Rx → Rx) : State :=
  s.modDmd fun d => { d with rx := d.rx.map fun r => if r.rxid == id then f r else r }
def State.removeRx (s : State) (id : Rxid) : State := s.modDmd fun d => { d with rx := d.rx.filter fun r => r.rxid != id }

/-- The preamble start of a reception (R162). -/
def Rx.pre (r : Rx) : Int := r.tB - 110592

/-- Payload bytes a delivery entry carries: the plaintext of a secured frame (R103, R508). -/
def Hdr.plainLen (h : Hdr) : Nat := if h.sec then h.len - 13 else h.len

/-- A secured payload's bytes as far as they are known. -/
def Rx.secBytes (r : Rx) : List Byte := if r.block.isEmpty then r.sechdr else r.block

/-- The FC and KSEL of a secured payload whose security header has been decoded. -/
def Rx.fc (r : Rx) : Nat := match r.hdr with | some h => if h.sec then leNat ((r.secBytes.drop 1).take 4) else 0 | none => 0
def Rx.ksel (r : Rx) : Nat := match r.hdr with | some h => if h.sec then leNat (r.secBytes.take 1) else 0 | none => 0

/-- The SURVEY record's length (R508). -/
def State.surveyLen (s : State) (h : Hdr) (dataTones : Nat) : Nat :=
  if h.ft = 5 ∧ s.on F.DMD_SURV_CTL_EN ∧ s.on F.DMD_SURV_CTL_REC then 20 + dataTones else 0

/-- The descriptor fields of a reception (R509). -/
def Rx.fields (r : Rx) (reason : Nat) (fcsBad : Bool) : DelHdr :=
  match r.hdr with
  | none => ⟨false, 0, false, reason, r.rxid, 0, false, false, false, r.port, 0, 0, 0, 0, 0, 0, 0, 0, 0, 0, 0, 0, 0⟩
  | some h =>
    { fcsBad := fcsBad, surv := r.surv.length, copy := false, reason := reason, rxid := r.rxid, ft := h.ft, sec := h.sec,
      ackreq := h.ackreq, sh := h.sh, port := r.port, mc := h.mc, ackst := r.ackst, src := r.src,
      dst := netAddr (r.src.toNat / 2 ^ 18) h.dst, fc := r.fc, total := h.plainLen, ksel := r.ksel, cid := 0,
      tPre := (r.pre % 2 ^ 48).toNat, level := r.level, lots := lotBits r.lots, miss := h.miss, batt := h.batt }

/-! ### Contexts (R153, R154) -/

def Ctx.blank : Ctx := ⟨.idle, false, none, none⟩
def State.ctx (s : State) (c : Nat) : Ctx := s.dmd.ctx.getD c Ctx.blank
def State.modCtx (s : State) (c : Nat) (f : Ctx → Ctx) : State := s.modDmd fun d => { d with ctx := lmod d.ctx c f }

/-- Context i of lot j of port n. -/
def ctxAt (n j i : Nat) : Nat := 40 * n + 2 * j + i
def ctxPort (c : Nat) : Nat := c / 40
def ctxLot (c : Nat) : Nat := c % 40 / 2

/-- The other context of a context's lot. -/
def ctxPeer (c : Nat) : Nat := c / 2 * 2 + (1 - c % 2)

/-- The active and the watcher context of a lot. -/
def State.activeCtx (s : State) (n j : Nat) : Nat := if (s.ctx (ctxAt n j 0)).watcher then ctxAt n j 1 else ctxAt n j 0
def State.watcherCtx (s : State) (n j : Nat) : Nat := if (s.ctx (ctxAt n j 0)).watcher then ctxAt n j 0 else ctxAt n j 1

/-- The context takes the active role of its lot. -/
def State.makeActive (s : State) (c : Nat) : State :=
  (s.modCtx c fun x => { x with watcher := false }).modCtx (ctxPeer c) fun x => { x with watcher := true }

/-- The reception waits for a capture: for its active's verdict or, in PENDING, for its header (R175, R176). -/
def Rx.capWaits (r : Rx) : Bool := r.caps.any fun p => p.2 != .decided
def Rx.pendingOn (r : Rx) : Bool := r.caps.any fun p => p.2 == .header

/-- The capture of lot j has come to `w` for a watcher reception; one in PENDING shows it in its lead's state. -/
def State.setCap (s : State) (id : Rxid) (j : Nat) (w : Option CapWait) : State :=
  let s := s.modRx id fun r => { r with caps := (r.caps.filter fun p => p.1 != j) ++ (w.map fun x => (j, x)).toList }
  match s.findRx id with
  | some r => s.modCtx r.lead fun x =>
      { x with state := if r.pendingOn then .pending else if x.state == .pending then .header else x.state }
  | none => s

/-- The lot's other context has no active reception any more: a watcher reception that waited for it proceeds there (R175, R176). -/
def State.release (s : State) (c : Nat) : State :=
  match (s.ctx c).rxid with
  | some id => if (s.findRx id).isSome then s.setCap id (ctxLot c) none else s
  | none => s

/-- A context returns to IDLE; the other context of its lot takes the active role when it is in QUALIFY, PENDING or HEADER (R154), and what
waited for this one proceeds. -/
def State.idleCtx (s : State) (c : Nat) : State :=
  let s := s.modCtx c fun x => { x with state := .idle, rxid := none, qual := none }
  let p := ctxPeer c
  let s := match (s.ctx p).state with
    | .qualify | .pending | .header => s.makeActive p
    | _ => s
  s.release p

/-- Contexts that serve an RXID. -/
def State.ctxsOf (s : State) (id : Rxid) : List Nat := (List.range 240).filter fun c => (s.ctx c).rxid == some id

/-! ### RXIDs -/

/-- The lowest free RXID above the one last allocated, wrapping (R22). -/
def State.nextRxid (s : State) : Option Rxid :=
  ((List.range 256).map fun i => s.dmd.last + 1 + BitVec.ofNat 8 i).find? fun id => !s.dmd.used.contains id

/-- Take an RXID for a trigger on a port; a trigger with none free is ignored and counted (R23). -/
def State.allocRxid (s : State) (n : Nat) : State × Option Rxid :=
  match s.nextRxid with
  | some id => (s.modDmd fun d => { d with used := d.used ++ [id], last := id }, some id)
  | none =>
    (((s.tally 7).flag F.DMD_FLAGS_RXID_EXH).raiseLimited Lim.rxidExhausted 24576 Ev.RXID_EXHAUSTED (Src.dmd n) (BitVec.ofNat 32 n) 0, none)

/-! ### The squash -/

/-- The reason's event, where this unit raises it; the events of LEDGER_FULL, RING_FULL, KEY_ZEROISED and PORT_RESET are raised by those
who find their cause. -/
def State.squashEvent (s : State) (id : Rxid) (reason : Nat) : State :=
  if reason = Sq.LEDGER_BUSY then (s.flag F.LGR_FLAGS_LEDGER_BUSY).raise Ev.LEDGER_BUSY Src.lgrPage (id.setWidth 32) 0
  else if reason = Sq.TAG_FAIL then s.raise Ev.TAG_FAIL Src.cph (id.setWidth 32) 0
  else if reason = Sq.PERSIST_FAIL then s.raise Ev.PERSIST_FAIL Src.lgrCommit (id.setWidth 32) 0
  else s

/-- The record index a tentative stall's neighbour has taken with a decision (R286). -/
def State.indexTaken (s : State) (i : Nat) : Option Nat := (s.dmd.rx.filter fun r => r.stall == some i).findSome? (·.record)

/-- The high-water word of a stall's record; a tentative stall has one once a decision has taken its index. -/
def State.markWord (s : State) (i : Nat) : Option Nat :=
  (if s.stallFlag i 5 then s.indexTaken i else (s.hotInfo i).map (·.c)).map hwmWord

/-- A waiting write of step 1's word at `a`: asked for by a reception and not yet begun. -/
def MramWrite.waitsFor (w : MramWrite) (a : Nat) : Bool :=
  w.addr.toNat == a && !w.started && (match w.writer with | .commit _ => true | _ => false)

/-- A waiting write of step 1's word at `a` carries v. -/
def MramWrite.carry (a v : Nat) (w : MramWrite) : MramWrite :=
  if w.waitsFor a then { w with bytes := (leBytes 4 v).zipIdx.map fun p => (a + p.2, p.1) } else w

/-- The ledger word at `a` is to hold v: a waiting write of step 1 takes it, else the word is written where it differs. -/
def State.wordTo (s : State) (a v : Nat) : State :=
  if s.memu.mramPend.any (MramWrite.waitsFor · a) then { s with memu := { s.memu with mramPend := s.memu.mramPend.map (MramWrite.carry a v) } }
  else if s.mramLe a 4 = v then s
  else s.mramRecord .table a (leBytes 4 v)

/-- The highest mark that stall i's word holds for: the stall's own, and the FCs decided new or counted in a write that waited (R204). -/
def State.markNeeded (s : State) (i : Nat) : Nat :=
  let sec := fun (r : Rx) => match r.hdr with | some h => h.sec | none => false
  (s.dmd.rx.filter fun r => r.stall == some i && (r.marked || (r.decision == some .new && sec r))).foldl (fun m r => max m r.fc)
    (if s.stallFlag i 3 then s.stallLe i Rec.hwm 4 else 0)

/-- A reception squashed before its commit leaves the high-water word as it was (R187): its waiting writes are withdrawn, a word begun or written
for it is written back, and a word raised for it with others' goes back to what they need; receptions that counted on its write ask
for their own. [DEDUCED, log 28] -/
def State.dropCommit (s : State) (r : Rx) : State :=
  let mine := fun (w : MramWrite) => match w.writer with | .commit ids => ids.contains r.rxid | _ => false
  let pend := (s.memu.mramPend.filter fun w => !(mine w && !w.started)).map fun w => if mine w then { w with writer := .commit [] } else w
  let s : State := { s with memu := { s.memu with mramPend := pend } }
  let s := match r.undo.find? fun p => decide (p.1 < addrWord 0) with
    | some p =>
      let s := s.modDmd fun d => { d with rx := d.rx.map fun (x : Rx) => if x.stall == r.stall then { x with marked := false } else x }
      s.wordTo p.1 (leNat p.2)
    | none =>
      match r.marked, r.stall.bind fun i => (s.markWord i).map fun a => (i, a) with
      | true, some (i, a) => if s.markNeeded i < s.mramLe a 4 then s.wordTo a (s.markNeeded i) else s
      | _, _ => s
  s.mramKick

/-- The record index a squashed reception had taken for a new neighbour is unused again, unless another reception takes the neighbour on with
it (R286). -/
def State.dropRecord (s : State) (r : Rx) : State :=
  match r.record with
  | none => s
  | some c =>
    if (s.dmd.rx.any fun x => x.record == some c) || (s.lgr.hot.any fun p => p.2.c == c && s.stallLe p.1 Rec.addr 4 == r.src.toNat && !s.stallFlag p.1 5)
        || s.indexFree c then s
    else s.mramRecord .table (addrWord c) (leBytes 4 0xFFFFFFFF)

/-- A stall lent to a source returns to FREE when no reception holds it (R286). -/
def State.dropTentative (s : State) (i : Nat) : State :=
  if (s.hotInfo i).isSome && s.stallFlag i 5 && !(s.dmd.rx.any fun r => r.stall == some i) then s.freeUp i else s

/-- The VOID marker of a cut-through copy (R199). -/
def State.voidMarker (s : State) (r : Rx) (reason : Nat) : State :=
  if 0 < r.sent then s.ulkSend 11 0 r.rxid.toNat [BitVec.ofNat 8 reason] else s

/-- Squash what an RXID stands for: a reception with everything begun for it, or a context not yet formed into one (R26, R188). -/
def State.squash (s : State) (id : Rxid) (reason : Nat) : State :=
  if !(s.findRx id).isSome && (s.ctxsOf id).isEmpty then s
  else
    let s := s.bump (R.TAL_SQn reason) 1
    let s : State := match s.findRx id with
      | none => s
      | some r =>
        let ack := s.mac.ops.find? fun (o : TxOp) => o.kind == TxKind.ack id
        let s := s.removeRx id
        let s := match ack with | some o => s.cancelOp o | none => s
        let s := match r.ring with
          | some k => s.settle k (.rx id) .void (r.fields reason false) []
          | none => s
        let s := (((s.voidMarker r reason).crcRxAbort id).dropCommit r).dropRecord r
        match r.stall with | some i => s.dropTentative i | none => s
    let s := (s.ctxsOf id).foldl (fun (s : State) c => s.idleCtx c) s
    (s.squashEvent id reason).freeRxid id

/-- A reception loses a capture decision to the reception `by_` on a lot (R177). -/
def State.squashCaptured (s : State) (id by_ : Rxid) (port lot : Nat) : State :=
  (s.squash id Sq.CAPTURED).raise Ev.CAPTURED (Src.dmd port) (by_.setWidth 32) lot

/-- Squash everything in flight that satisfies p, receptions and contexts alike. -/
def State.squashAll (s : State) (p : Rxid → Bool) (reason : Nat) : State :=
  (s.dmd.used.filter p).foldl (fun s id => s.squash id reason) s

/-- An RXID's reception or context uses port n, on its own or through the yoked pair served by n. -/
def State.rxidOnPort (s : State) (id : Rxid) (n : Nat) : Bool := (s.ctxsOf id).any fun c => ctxPort c == n

/-- The reception of an RXID was taken on port n, also when its contexts have gone idle. -/
def State.usesPort (s : State) (id : Rxid) (n : Nat) : Bool :=
  s.rxidOnPort id n || (match s.findRx id with | some r => r.port.val == n || (r.pair && r.port.val + 1 == n) | none => false)

/-! ### Port enables and yoking (R146, R153, R178, R183) -/

/-- Whether port n processes receptions: its chain and its DMD bit are on, and it is not the upper port of a yoked pair. [DEDUCED, log 37] -/
def State.dmdOn (s : State) (n : Port) : Bool :=
  s.lpOn n && s.fldBit F.DMD_CTL_PORT_EN n && !(s.yokedPort n && n.val % 2 == 1) &&
  (!s.yokedPort n || (s.fldBit F.DMD_CTL_PORT_EN (n.val / 2 * 2 + 1) && s.on (F.LPn_CTL_EN (n.val / 2 * 2 + 1))))

/-- The contexts of each port are HELD while it is off, and IDLE with context 0 active once it is on. -/
def State.refreshHeld (s : State) : State :=
  allPorts.foldl (fun s n =>
    let on := s.dmdOn n
    (List.range 40).foldl (fun s i =>
      let c := 40 * n.val + i
      if on then s.modCtx c fun x => if x.state == .held then ⟨.idle, x.watcher, none, none⟩ else x
      else s.modCtx c fun x => ⟨.held, x.watcher, none, none⟩) s) s

/-- The ports that share receptions with port n. -/
def State.pairOf (s : State) (n : Port) : List Nat :=
  if s.yokedPort n then [n.val / 2 * 2, n.val / 2 * 2 + 1] else [n.val]

/-- Squash every reception of a port, with its yoke partner's, reason PORT_RESET, and raise PORT_RESET for it. -/
def State.portReset (s : State) (n : Port) : State :=
  let ps := s.pairOf n
  let s := s.squashAll (fun id => ps.any fun p => s.usesPort id p) Sq.PORT_RESET
  s.raise Ev.PORT_RESET (Src.dmd n) (BitVec.ofNat 32 n) 0

/-! ### LPn_CTL (R122, R146-R148) -/

/-- A write of LPn_CTL: clearing EN powers the port down, and an overload ends with it; setting it, a new PRESET or SYNC_RST make one synchronising reset. -/
def State.writeLpCtl (s : State) (n : Port) (v : Word) : State :=
  let was := s.lpOn n
  let old := s.preset n
  let en := v.getLsbD 0
  let s := s.setReg (R.LPn_CTL n) (v &&& 7)
  if !en then
    if was then ((s.endOverload n).portReset n).refreshHeld else s
  else if !was then (s.syncReset n).refreshHeld
  else if old != s.preset n || v.getLsbD 4 then (s.syncReset n).portReset n
  else s

def execLpPortEnable (n : Port) (s : State) : Out := .next (s.writeLpCtl n ((s.reg (R.LPn_CTL n) &&& 6) ||| 1))
def execLpPortDisable (n : Port) (s : State) : Out := .next (s.writeLpCtl n (s.reg (R.LPn_CTL n) &&& 6))
def execLpPresetChange (n : Port) (preset : BitVec 2) (s : State) : Out :=
  .next (s.writeLpCtl n ((s.reg (R.LPn_CTL n) &&& 1) ||| (preset.setWidth 32 <<< 1)))
def execLpSyncRst (n : Port) (s : State) : Out := .next (s.writeLpCtl n ((s.reg (R.LPn_CTL n) &&& 7) ||| 16))

/-! ### DMD_CTL and DMD_LOTENn -/

/-- A pair may be yoked: both ports enabled in PORT_EN with one PRESET (R178). -/
def State.mayYoke (s : State) (portEn p : Nat) : Bool :=
  portEn.testBit (2 * p) && portEn.testBit (2 * p + 1) && s.preset (2 * p) == s.preset (2 * p + 1)

/-- A change of a pair's yoke state squashes the receptions of both ports and raises PORT_RESET for each. -/
def State.setYoke (s : State) (p : Fin 3) (b : Bool) : State :=
  if s.dmd.yoked.getLsbD p == b then s
  else
    let lo : Port := ⟨2 * p.val, by omega⟩
    let hi : Port := ⟨2 * p.val + 1, by omega⟩
    let s := s.squashAll (fun id => s.usesPort id lo || s.usesPort id hi) Sq.PORT_RESET
    let s := s.modDmd fun d => { d with yoked := if b then d.yoked ||| BitVec.twoPow 3 p else d.yoked &&& ~~~(BitVec.twoPow 3 p) }
    (s.raise Ev.PORT_RESET (Src.dmd lo) (BitVec.ofNat 32 lo) 0).raise Ev.PORT_RESET (Src.dmd hi) (BitVec.ofNat 32 hi) 0

/-- A write of DMD_CTL (R178, R183): ports cleared lose their receptions; a pair is yoked as YOKE asks, where it may be. -/
def State.writeDmdCtl (s : State) (v : Word) : State :=
  let old := s.fld F.DMD_CTL_PORT_EN
  let new := natBits v.toNat 5 0
  let s := allPorts.foldl (fun s (n : Fin 6) =>
    if old.testBit n && !new.testBit n then
      let ps := s.pairOf n
      s.squashAll (fun id => ps.any fun p => s.usesPort id p) Sq.PORT_RESET
    else s) s
  let s := s.setReg R.DMD_CTL (v &&& 0x0003073F)
  let s := ([0, 1, 2] : List (Fin 3)).foldl (fun s (p : Fin 3) =>
    let want := v.getLsbD (8 + p)
    if want && !s.mayYoke new p then (s.setYoke p false).flag F.DMD_FLAGS_YOKE_ERR else s.setYoke p want) s
  s.refreshHeld

def execYokeChange (v : BitVec 3) (s : State) : Out :=
  .next (s.writeDmdCtl ((s.reg R.DMD_CTL &&& 0x0003003F) ||| (v.setWidth 32 <<< 8)))

def execDmdPortDisable (n : Port) (s : State) : Out :=
  .next (s.writeDmdCtl (s.reg R.DMD_CTL &&& ~~~(BitVec.twoPow 32 n)))

/-- A write of DMD_LOTENn: receptions that use a lot cleared are squashed, reason PORT_RESET (R183, R194). -/
def State.writeLoten (s : State) (n : Port) (v : Word) : State :=
  let s := s.setReg (R.DMD_LOTENn n) (v &&& 0xFFFFF)
  let lost := fun (id : Rxid) =>
    (s.ctxsOf id).any (fun c => ctxPort c == n.val && !v.getLsbD (ctxLot c)) ||
    (match s.findRx id with | some r => r.port == n && r.lots.any (fun j => !v.getLsbD j) | none => false)
  s.squashAll lost Sq.PORT_RESET

def execLotenWrite (n : Port) (v : Word) (s : State) : Out := .next (s.writeLoten n v)

end Sys2Proof.Machine
end

