-- ==== Sys2Proof/Machine/Detect.lean ====
section
/-! DEFINITION. One hop of a port (R150-R171, R175-R178): transforms, idle noise, lot detectors, qualifiers, lot-set formation, training,
tracking, soft decisions and capture. -/

namespace Sys2Proof.Machine

/-! ### What serves a reception -/

/-- The ports whose transforms serve port n's receptions: both of a yoked pair, lower first. -/
def State.rxPorts (s : State) (n : Port) : List Port :=
  if s.yokedPort n then [⟨n.val / 2 * 2, by omega⟩, ⟨n.val / 2 * 2 + 1, by omega⟩] else [n]

/-- Lots of a port that are used: enabled, in its plan, and in the preset of every port that serves it (R48, R151). -/
def State.usedLots (s : State) (n : Port) : List Nat :=
  (List.range 20).filter fun j =>
    s.fldBit (F.DMD_LOTENn_LOT n) j && (s.rxPorts n).all (fun p => decide (j < presetLots (s.preset p))) && planLot (s.plan n) j

/-- The settings words in force (R184). -/
def State.thrNow (s : State) : List Word :=
  [s.reg R.DMD_TRIG, s.reg R.DMD_QUAL, s.reg R.DMD_MERGE, s.reg R.DMD_CAPT, s.reg R.DMD_EQ, s.reg R.DMD_ERASE]

/-- Detection runs (R41, R572). -/
def State.detecting (s : State) : Bool :=
  s.sys.phase == .running && !s.sys.dormReq && s.sys.mode != .lastgasp && s.sys.mode != .dormant

def State.transAt (s : State) (p : Port) (h : Nat) : Option Transform := s.lp[p].trans.find? fun t => t.h == h

/-- The transforms of hop h on all ports given. -/
def State.allTrans (s : State) (ps : List Port) (h : Nat) : Option (List Transform) := ps.mapM fun p => s.transAt p h

/-- The bins of some tones at hop h, one port's after the other's. -/
def State.toneVec (s : State) (ps : List Port) (ts : List Nat) (h : Nat) : Option (List Cplx) :=
  (s.allTrans ps h).map fun l => l.flatMap fun t => ts.map fun k => t.x.getD (k - 8) Cplx.zero

/-- The transforms of hop h are neither UNSETTLED nor TXH. -/
def State.cleanAt (s : State) (ps : List Port) (h : Nat) : Bool :=
  match s.allTrans ps h with
  | some l => l.all fun t => !t.unsettled && !t.txh
  | none => false

/-! ### Blocked lots and the noise map (R170, R222) -/

/-- Lots within BLK_LOTS of a lot that the ports given are sending in the window of hop h. -/
def State.blockedLots (s : State) (n : Port) (h : Nat) : List Nat :=
  let sent := (s.rxPorts n).flatMap fun p =>
    (s.lp[p].sending.filter fun f => decide (f.since < 1024 * h + 16384) && f.till.all fun t => decide (1024 * h < t)).flatMap (·.lots)
  let b := s.fld (F.TXP_PnCTL_BLK_LOTS (s.txPort n))
  (List.range 20).filter fun j => sent.any fun i => decide (i ≤ j + b ∧ j ≤ i + b)

def insertRat (x : Rat) : List Rat → List Rat
  | [] => [x]
  | y :: ys => if x ≤ y then x :: y :: ys else y :: insertRat x ys

/-- m_ref and m_s over the phase bins given. -/
def State.mapNoise (s : State) (n : Port) (bins : List Nat) : Option (Rat × Rat) :=
  if !s.mapValid n || bins.isEmpty then none
  else
    let m := s.lp[n].nmap.toList
    some (meanRat ((m.foldl (fun l x => insertRat x l) []).take 16), meanRat (bins.map fun b => m.getD b 0))

/-! ### Reference noise (R157, R171) -/

def State.idleNu (s : State) (ps : List Port) (ts : List Nat) : List Rat :=
  ps.flatMap fun p => ts.map fun k => s.lp[p].idle.getD (k - 8) 0

/-- |H'_k|^2 of a reception on a lot, one port after the other. -/
def Rx.chanPower (r : Rx) (lot : Nat) : List Rat :=
  match r.chan.find? fun c => c.lot == lot with
  | none => []
  | some c =>
    let m := c.h.length / r.track.length
    (List.range r.track.length).flatMap fun i =>
      (portPart m i c.h).map fun h => (r.track.getD i ⟨0, 0, 1⟩).gain * (r.track.getD i ⟨0, 0, 1⟩).gain * h.sq

/-- Hops whose windows could lie inside P2, with those 18 hops before inside P1, for a start within 100 us of `tAck`. -/
def dirHops (tAck : Nat) : List Nat :=
  let lo : Rat := tAck + 36864 - 12288 / 5
  let hi : Rat := tAck + 36864 + 12288 / 5 + 2048
  ((List.range 8).map fun i => ((lo / 1024).ceil).toNat + i).filter fun h => decide (lo ≤ 1024 * (h : Rat) ∧ 1024 * (h : Rat) ≤ hi)

/-- The hop of P2: it maximises -Re of the sum of X(P2) conj X(P1). -/
def State.dirHop (s : State) (ps : List Port) (ts : List Nat) (tAck : Nat) : Option Nat :=
  let vals := (dirHops tAck).filterMap fun h =>
    match s.toneVec ps ts h, s.toneVec ps ts (h - 18) with
    | some b, some a => some (h, -(sumVec (mulConj b a)).re)
    | _, _ => none
  (vals.foldl (fun (b : Option (Nat × Rat)) v => match b with | some u => if u.2 < v.2 then some v else b | none => some v) none).map (·.1)

/-- The hop of P2 and the trained channel of a directed window, once every hop it may choose has come (R180). -/
def State.dirChan (s : State) (ps : List Port) (plan : Nat) (w : DirWin) : Option (Nat × LotChan) :=
  let ts := lotTones plan w.lot
  if (s.allTrans ps ((dirHops w.tAck).foldl max 0)).isNone then none
  else match s.dirHop ps ts w.tAck with
    | none => none
    | some h =>
      match s.toneVec ps ts (h - 36), s.toneVec ps ts (h - 18) with
      | some x0, some x1 =>
        let nu := s.idleNu ps ts
        some (h, ⟨w.lot, (trainLot ts ps.length [x0, x1] nu).1, nu⟩)
      | _, _ => none

/-- The directed window a context is claimed by, with its training. -/
def State.dirOn (s : State) (c : Nat) : Option (Nat × LotChan) :=
  if (s.ctx c).state != .directed then none
  else match s.mac.dirs.find? fun w => w.ctx == some c with
    | some w => s.dirChan (s.rxPorts w.op.port) (s.plan w.op.port) w
    | none => none

/-- On-tone power of each tone of a context's lot: |H'_k|^2 once trained, |S_k/n|^2 before; |H_k|^2 of a directed window's training. [DEDUCED, log 36] -/
def State.onTone (s : State) (c : Nat) : List Rat :=
  let trained := match (s.ctx c).rxid with
    | some id => match s.findRx id with | some r => r.chanPower (ctxLot c) | none => []
    | none => (s.dirOn c).elim [] fun p => p.2.h.map Cplx.sq
  if trained.isEmpty then
    match (s.ctx c).qual with
    | some q => if q.syms.isEmpty then [] else meanPower q.syms
    | none => []
  else trained

/-- The reference noise of a context: the watcher adds the active reception's power. -/
def State.refNu (s : State) (c : Nat) (ps : List Port) (ts : List Nat) : List Rat :=
  let nu := s.idleNu ps ts
  let p := ctxPeer c
  if (s.ctx c).watcher && (s.ctx p).state != .idle then
    let cur := s.onTone p
    if cur.isEmpty then nu else List.zipWith (· + ·) nu cur
  else nu

/-- The update of a lot's idle noise from hop h (R171). [DEDUCED, log 36] -/
def State.idleUpdate (s : State) (n : Port) (ps : List Port) (h j : Nat) : State :=
  if h % 18 = 0 ∧ (s.ctx (ctxAt n j 0)).state = .idle ∧ (s.ctx (ctxAt n j 1)).state = .idle ∧ s.cleanAt ps h = true then
    let g : Rat := mkRat 1 (2 ^ Thr.ntc s.thrNow)
    ps.foldl (fun (s : State) (p : Port) =>
      match s.transAt p h with
      | none => s
      | some t => s.modLp p fun l =>
        let first := l.idleCnt.getD j 0 == 0
        let new := (lotTones (s.plan n) j).foldl (fun (l : List Rat) k =>
          let x := (t.x.getD (k - 8) Cplx.zero).sq
          lmod l (k - 8) fun v => if first then x else v + (x - v) * g) l.idle
        { l with idle := new, idleCnt := lmod l.idleCnt j (· + 1) }) s
  else s

/-! ### The lot detector (R156-R159) -/

/-- D and Pk at hop h over L symbols, where none of the transforms is UNSETTLED or TXH. [DEDUCED, log 36] -/
def State.detectAt (s : State) (ps : List Port) (ts : List Nat) (l h : Nat) (nu : List Rat) : Option (Rat × Rat) :=
  if 18 * (l - 1) ≤ h ∧ (List.range l).all (fun m => s.cleanAt ps (h - 18 * m)) = true then
    some (detector ps.length ts (addVecs ((List.range l).filterMap fun m => s.toneVec ps ts (h - 18 * m))) l nu)
  else none

/-- The trigger condition at hop h with a context's reference noise. -/
def State.trigMet (s : State) (c : Nat) (ps : List Port) (ts : List Nat) (h : Nat) : Bool :=
  match s.detectAt ps ts (Thr.trigSym s.thrNow) h (s.refNu c ps ts) with
  | some (d, pk) => dbGe d 1 (Thr.trigD s.thrNow) && dbGe pk 1 (Thr.peakR s.thrNow)
  | none => false

/-- The tone vectors of the L symbols that end at hop h, newest first. -/
def State.lastSyms (s : State) (ps : List Port) (ts : List Nat) (l h : Nat) : List (List Cplx) :=
  (List.range l).filterMap fun m => if 18 * m ≤ h then s.toneVec ps ts (h - 18 * m) else none

/-- A trigger: an RXID is taken and the context enters QUALIFY with the sums S_k, n = L (R158). -/
def State.trigger (s : State) (n : Port) (ps : List Port) (ts : List Nat) (c h : Nat) : State :=
  let l := Thr.trigSym s.thrNow
  match (s.tally (32 + 4 * n)).allocRxid n with
  | (s, none) => s
  | (s, some id) =>
    let q : Qual :=
      { start := h, ds := [], hop := none, next := 0, syms := s.lastSyms ps ts l h, q := addVecs (s.lastSyms ps ts l h), nq := l, cnt := 0,
        pend := none, p6 := none, tB := none, wait := 0, pass := none, thr := s.thrNow }
    s.modCtx c fun x => { x with state := .qualify, rxid := some id, qual := some q }

def hopNear (a b : Nat) : Bool := let d := (a % 18 + 18 - b % 18) % 18; d == 0 || d == 1 || d == 17

/-- The hops of the preamble's symbols of the frame a context is busy with, and the hop of P6 where it is known: the reception's, the
qualifier's once h* is chosen, or those a directed window's symbols may have. -/
def State.frameHops (s : State) (c : Nat) : List Nat × Option Nat :=
  match (s.ctx c).rxid with
  | some id =>
    let q := (s.ctx c).qual
    let own := (q.bind (·.hop)).toList
    match s.findRx id with
    | some r => (r.p6 :: own, some r.p6)
    | none => (own, q.bind (·.p6))
  | none =>
    match s.mac.dirs.find? fun w => w.ctx == some c with
    | some w => (dirHops w.tAck, some ((dirHops w.tAck).foldl max 0))
    | none => ([], none)

/-- A trigger at hop h would be on the preamble of the frame that context c is busy with: its h* is yet to be chosen, or h is a hop of its
symbols or next to one while the L symbols reach into its preamble, which ends with P7 (R154, R157). [DEDUCED, log 37] -/
def State.onPreamble (s : State) (c h : Nat) : Bool :=
  let f := s.frameHops c
  ((s.ctx c).state == .qualify && f.1.isEmpty) ||
    (f.1.any (hopNear h) && f.2.all fun p => decide (h ≤ p + 18 * Thr.trigSym s.thrNow))

/-- The detector of a lot at hop h (R154, R158, R159): the watcher hunts for preambles other than that of the frame the active context has. [DEDUCED, log 37] -/
def State.huntLot (s : State) (n : Port) (ps : List Port) (h j : Nat) : State :=
  if !(ps.all fun p => decide (2 ^ Thr.ntc s.thrNow ≤ s.lp[p].idleCnt.getD j 0)) then s
  else
    let ts := lotTones (s.plan n) j
    let a := s.activeCtx n j
    let w := s.watcherCtx n j
    if (s.ctx a).state = .idle then (if s.trigMet a ps ts h then s.trigger n ps ts a h else s)
    else
      let met := fun (h : Nat) => s.trigMet w ps ts h && !s.onPreamble a h
      if (s.ctx w).state = .idle then (if met h then s.trigger n ps ts w h else s)
      else if met h && !s.onPreamble w h && !met (h - 1) then (s.tally 8).flag F.DMD_FLAGS_CTX_FULL
      else s

/-! ### The qualifier (R158, R160) -/

def State.modQual (s : State) (c : Nat) (f : Qual → Qual) : State := s.modCtx c fun x => { x with qual := x.qual.map f }

/-- h*: the latest hop whose D is within HOP_DROP of the largest. -/
def Qual.bestHop (q : Qual) : Nat :=
  let m := maxRat (q.ds.map (·.2))
  q.ds.foldl (fun b d => if dbGe d.2 m (-(Thr.hopDrop q.thr : Int)) then d.1 else b) q.start

/-- The 18 transforms after the trigger. -/
def State.collectHop (s : State) (n : Port) (ps : List Port) (h c : Nat) : State :=
  match (s.ctx c).qual with
  | none => s
  | some q =>
    if q.hop.isSome || decide (h ≤ q.start) then s
    else
      let ts := lotTones (s.plan n) (ctxLot c)
      let l := Thr.trigSym q.thr
      let s := match s.detectAt ps ts l h (s.refNu c ps ts) with
        | some d => s.modQual c fun q => { q with ds := q.ds ++ [(h, d.1)] }
        | none => s
      if q.start + 18 ≤ h then
        s.modQual c fun q =>
          let best := q.bestHop
          let xs := s.lastSyms ps ts l best
          { q with hop := some best, next := best + 18, syms := xs, q := addVecs xs, nq := xs.length }
      else s

/-- The channel of a lot trained on the six symbols before the one at hop `p6` (R166). -/
def State.trainAt (s : State) (n : Port) (ps : List Port) (j p6 : Nat) : LotChan :=
  let ts := lotTones (s.plan n) j
  let xs := [6, 5, 4, 3, 2, 1].filterMap fun m => if 18 * m ≤ p6 then s.toneVec ps ts (p6 - 18 * m) else none
  let r := trainLot ts ps.length xs (s.idleNu ps ts)
  ⟨j, r.1, r.2⟩

/-- The start of the symbol at hop `p6` that a trained channel gives (R162). -/
def State.startOf (s : State) (n : Port) (ps : List Port) (p6 : Nat) (chan : List LotChan) : Int × Rat :=
  let tau := tauOf (s.plan n) ps.length chan
  (roundUp (1024 * (p6 : Rat) - tau), tau)

/-- One symbol X at hop hx through a qualifier's timing search. [DEDUCED, log 36] -/
def Qual.timeStep (q : Qual) (hx : Nat) (x : List Cplx) : Qual :=
  if q.tB.isSome then q
  else
    let b := bValue x q.syms
    match q.pend with
    | none => { q with pend := some (hx, x, b) }
    | some (h0, x0, b0) =>
      if b0 + b ≤ -(mkRat (2 * Thr.bThr q.thr) 256) then
        { q with p6 := some h0, q := subVec (subVec q.q x0) x, nq := q.nq + 2, pend := none }
      else { q with syms := (x0 :: q.syms).take 6, q := addVec q.q x0, nq := q.nq + 1, pend := some (hx, x, b) }

/-- DQ and the verdict it gives after this symbol. -/
def Qual.verdict (q : Qual) (ports : Nat) (ts : List Nat) (nu : List Rat) : Option Bool :=
  if q.pass.isSome then q.pass
  else
    let d := (detector ports ts q.q q.nq nu).1
    if !dbGe d 1 (Thr.trigD q.thr) then some false
    else if q.cnt = Thr.qualSym q.thr then some (dbGe d 1 (Thr.qualD q.thr))
    else none

/-- A context's qualifier has work: it is not part of another context's reception, and it is untimed or without its verdict. -/
def State.qualOpen (s : State) (c : Nat) : Option (Rxid × Qual) :=
  match (s.ctx c).rxid, (s.ctx c).qual with
  | some id, some q =>
    let own := match s.findRx id with | some r => r.qctx == c && q.pass.isNone | none => (q.tB.isNone && decide (q.cnt < Thr.bWait q.thr)) || q.pass.isNone
    if own && q.hop.isSome then some (id, q) else none
  | _, _ => none

/-- One symbol of a context's qualifier, when its hop has come. [DEDUCED, log 36] -/
def State.qualStep (s : State) (n : Port) (ps : List Port) (h c : Nat) : State :=
  match s.qualOpen c with
  | none => s
  | some (id, q) =>
    if h < q.next then s
    else
      let ts := lotTones (s.plan n) (ctxLot c)
      match s.allTrans ps q.next, s.toneVec ps ts q.next with
      | some tr, some x =>
        if (s.findRx id).isNone && tr.any (fun t => t.txh && t.blk.contains (ctxLot c)) then s.squash id Sq.QUAL_FAIL
        else
          let nu := s.refNu c ps ts
          let q := { q with cnt := q.cnt + 1, next := q.next + 18 }.timeStep (q.next) x
          let q := { q with pass := q.verdict ps.length ts nu }
          let q := match q.p6 with
            | some p6 => if q.tB.isSome then q
              else { q with tB := some (s.startOf n ps p6 [s.trainAt n ps (ctxLot c) p6]).1 }
            | none => q
          let s := s.modCtx c fun y => { y with qual := some q }
          if q.pass = some false then s.squash id Sq.QUAL_FAIL
          else if q.pass = some true then s.modRx id fun r => if r.qctx == c then { r with passed := true } else r
          else s
      | _, _ => s.modQual c fun q => { q with next := q.next + 18 }

/-- NO_TIMING (R160): an untimed context that has waited B_WAIT symbols is squashed. -/
def execNoTiming (c : Fin 240) (s : State) : Out :=
  .next (match (s.ctx c).rxid, (s.ctx c).qual with
    | some id, some q =>
      if (s.findRx id).isNone && q.tB.isNone && decide (Thr.bWait q.thr ≤ q.cnt) then s.squash id Sq.NO_TIMING else s
    | _, _ => s)

/-! ### Armed windows (R240, R247) -/

/-- The window counts as armed at an instant. -/
def Window.openAt (w : Window) (t : Int) : Bool := decide (max w.lo (w.armed : Int) ≤ t ∧ t ≤ w.hi + 8 * symDticks)

def State.windowsAt (s : State) (ps : List Port) (t : Int) : List Window :=
  s.mac.windows.filter fun w => ps.contains w.port && w.openAt t

/-! ### Lot-set formation (R164, R165) -/

/-- Contexts of port n. -/
def ctxsOfPort (n : Nat) : List Nat := (List.range 40).map (· + 40 * n)

/-- The timed contexts of a port that are in no reception and newly timed at hop h: those a formation of this hop has left are among them. -/
def State.newlyTimed (s : State) (n : Port) (h : Nat) : List (Nat × Int × Nat) :=
  (ctxsOfPort n).filterMap fun c =>
    match (s.ctx c).state, (s.ctx c).qual with
    | .qualify, some q => match q.tB with
      | some t => if q.wait ≤ h ∨ q.wait = h + 18 then some (c, t, q.wait) else none
      | none => none
    | _, _ => none

/-- F: the earliest by t_B, then lot. -/
def State.nextTimed (s : State) (n : Port) (h : Nat) : Option (Nat × Int) :=
  (s.newlyTimed n h).foldl (fun b p =>
    match b with
    | some (_, u) => if p.2.1 < u then some (p.1, p.2.1) else b
    | none => some (p.1, p.2.1)) none

/-- Timed contexts among those given stay in QUALIFY and are newly timed again one symbol later. [DEDUCED, log 37] -/
def State.leaveQualify (s : State) (g : List Nat) (h : Nat) : State :=
  g.foldl (fun (s : State) c =>
    s.modCtx c fun x => if x.state == .qualify then
      { x with qual := x.qual.map fun q => if q.tB.isSome then { q with wait := h + 18 } else q } else x) s

/-- Contexts in QUALIFY near F in hop and, when timed, in time. -/
def State.near (s : State) (n : Port) (f : Nat) (q : Qual) (t : Int) : List Nat :=
  (ctxsOfPort n).filter fun c =>
    (s.ctx c).state == .qualify && (c == f ||
      match (s.ctx c).qual with
      | some x =>
        (match x.hop with | some h => hopNear h (q.hop.getD 0) | none => false) &&
        (match x.tB with | some u => decide ((t - u).natAbs * 1000 ≤ Thr.mergeTol q.thr * 24576) | none => true)
      | none => false)

/-- The choice between two contexts of one lot. -/
def State.preferCtx (s : State) (f a b : Nat) : Nat :=
  let timed := fun c => match (s.ctx c).qual with | some q => q.tB.isSome | none => false
  if a = f then a else if b = f then b
  else if timed a && !timed b then a
  else if timed b && !timed a then b
  else
    let x := sumRat (s.onTone a)
    let y := sumRat (s.onTone b)
    if y < x then a else if x < y then b else if (s.ctx a).watcher then b else a

/-- At most one member a lot. -/
def State.onePerLot (s : State) (f : Nat) (g : List Nat) : List Nat :=
  (List.range 20).filterMap fun j =>
    match g.filter fun c => ctxLot c == j with
    | [] => none
    | [c] => some c
    | a :: b :: _ => some (s.preferCtx f a b)

/-- The armed set with most lots of G; the lowest lowest lot of equals. -/
def bestSet (g : List Nat) (ws : List Window) : Option (List Nat) :=
  let cnt := fun (a : List Nat) => (g.filter fun c => a.contains (ctxLot c)).length
  ws.foldl (fun b w =>
    match b with
    | none => some w.lots
    | some a => if cnt a < cnt w.lots ∨ (cnt a = cnt w.lots ∧ w.lots.headD 20 < a.headD 20) then some w.lots else b) none

/-- An IDLE context of a lot, the active one first. -/
def State.idleOn (s : State) (n j : Nat) : Option Nat :=
  [s.activeCtx n j, s.watcherCtx n j].find? fun c => (s.ctx c).state == .idle

/-- Pilots of port i of a reception in a transform, those of blocked lots left out (R167, R222). -/
def Rx.pilots (plan : Nat) (r : Rx) (i : Nat) (t : Transform) : List (Nat × Cplx × Cplx) :=
  r.chan.flatMap fun c =>
    if t.txh && t.blk.contains c.lot then []
    else
      let ts := lotTones plan c.lot
      (List.zipWith (fun k h => (k, t.x.getD (k - 8) Cplx.zero, h)) ts (portPart ts.length i c.h)).filter fun p => isPilot p.1

/-- A symbol's pilots update the tracked values of every port. -/
def Rx.trackStep (plan : Nat) (r : Rx) (neg : Bool) (tr : List Transform) : Rx :=
  let centre := pilotCentre plan r.lots
  { r with track := r.track.zipIdx.map fun p =>
      match tr[p.2]? with
      | some t => p.1.update (Thr.pilTc r.thr) centre neg (r.pilots plan p.2 t)
      | none => p.1 }

/-- The reception made of some members: roles, RXID, training, t_B and the pilots of P6; P7 is its next symbol (R167). [DEDUCED, log 36; DEDUCED, log 37] -/
def State.makeRx (s : State) (n : Port) (ps : List Port) (f : Nat) (q : Qual) (members : List Nat) : State :=
  let lots := members.map ctxLot
  let holder := if members.contains f then some f else members.find? fun c => (s.ctx c).rxid.isSome
  match holder, members with
  | some hc, lead :: _ =>
    match (s.ctx hc).rxid with
    | none => s
    | some id =>
      let off : Int := match (s.ctx lead).qual with
        | some l => (((l.hop.getD 0 % 18 + 18 - q.hop.getD 0 % 18) % 18 + 1) % 18 : Nat) - 1
        | none => 0
      let p6 := (((q.p6.getD 0 : Nat) : Int) + off).toNat
      let chan := lots.map fun j => s.trainAt n ps j p6
      let st := s.startOf n ps p6 chan
      let ws := s.windowsAt ps st.1
      let gone := members.filterMap fun c => match (s.ctx c).rxid with | some x => if x == id then none else some x | none => none
      let passed := match (s.ctx hc).qual with | some x => x.pass == some true | none => false
      let r : Rx :=
        { rxid := id, port := n, pair := s.yokedPort n, thr := q.thr, passed := passed, caps := [], lots := lots, ctxs := members,
          lead := lead, qctx := hc, tB := st.1, tau0 := st.2, p6 := p6, next := p6 + 18, track := ps.map fun _ => ⟨0, 0, 1⟩, chan := chan,
          erased := [], short := ws.any fun w => w.lots == lots, armed := lots.filter fun j => ws.any fun w => w.lots.contains j,
          settled := none, syms := [], lastSym := 0, hdrSyms := 0, tried := 0, badLots := false, hdr := none, src := 0, stall := none,
          paging := false, tones := none, mask := none, sechdr := [], block := [], fcsOk := false, bound := none, tagOk := none, plain := [], surv := [], snr := [],
          level := 0, ring := none, sent := 0, ack := none, late := false, decision := none, turn := 0, ackst := 0, record := none, waits := [], undo := [], asked := false, marked := false }
      let r := match s.allTrans ps p6 with | some tr => r.trackStep (s.plan n) true tr | none => r
      let s := members.foldl (fun (s : State) c =>
        s.modCtx c fun x => { x with state := if c == lead then .header else .joined, rxid := some id }) s
      s.modDmd fun d => { d with rx := d.rx ++ [r], used := d.used.filter fun x => !gone.contains x }
  | _, _ => s

/-- One formation (R164). A lot that the port does not use has no context to claim (R49, R151). -/
def State.formOne (s : State) (n : Port) (ps : List Port) (h : Nat) : State :=
  match s.nextTimed n h with
  | none => s
  | some (f, t) =>
    match (s.ctx f).qual with
    | none => s
    | some q =>
      let all := s.near n f q t
      let g := s.onePerLot f all
      let ws := (s.windowsAt ps t).filter fun w => g.any fun c => w.lots.contains (ctxLot c)
      let armed := match bestSet g ws with
        | some a => if 256 * (g.filter fun c => a.contains (ctxLot c)).length < Thr.mergeFrac q.thr * a.length then none else some a
        | none => none
      match armed with
      | some a =>
        let on := fun j => match g.find? fun c => ctxLot c == j with | some c => some c | none => if (s.usedLots n).contains j then s.idleOn n j else none
        if a.all fun j => (on j).isSome then (s.makeRx n ps f q (a.filterMap on)).leaveQualify all h
        else
          let lost := (g.filter fun c => a.contains (ctxLot c)).filterMap fun c => (s.ctx c).rxid
          ((lost.foldl (fun (s : State) id => s.squash id Sq.CTX_FULL) s).flag F.DMD_FLAGS_CTX_FULL).leaveQualify all h
      | none =>
        let e := fun c => sumRat (s.onTone c)
        let top := maxRat (g.map e)
        (s.makeRx n ps f q (g.filter fun c => dbGe (e c) top (-(Thr.mergeDb q.thr : Int)))).leaveQualify all h

/-- Formations until every newly timed context is in a reception or has been left in QUALIFY by a formation; each takes a context out of
QUALIFY, so 40 are enough. -/
def State.formAll : Nat → State → Port → List Port → Nat → State
  | 0, s, _, _, _ => s
  | k + 1, s, n, ps, h => if (s.newlyTimed n h).any fun p => decide (p.2.2 ≤ h) then State.formAll k (s.formOne n ps h) n ps h else s

/-! ### Symbols of a reception (R163, R167-R170) -/

/-- Soft values and derotated bins of one port's data tones of a lot. -/
def Rx.lotSoft (r : Rx) (plan : Nat) (eraseEn : Bool) (i : Nat) (t : Transform) (c : LotChan) : List (Int × Cplx) :=
  let ts := lotTones plan c.lot
  let centre := pilotCentre plan r.lots
  let tk := r.track.getD i ⟨0, 0, 1⟩
  let w := if r.erased.contains c.lot || (t.txh && t.blk.contains c.lot) then 0 else eraseWeight eraseEn (Thr.eraseDb r.thr) t
  let hs := portPart ts.length i c.h
  let ns := portPart ts.length i c.nu
  (List.range ts.length).filterMap fun m =>
    let k := ts.getD m 0
    if isPilot k then none
    else
      let x := t.x.getD (k - 8) Cplx.zero
      some (softTone (Thr.thrK r.thr) (Thr.llrScale r.thr) w k x (tk.equal centre k (hs.getD m Cplx.zero)) (ns.getD m 0),
        (x.mul (unref k)).mul (cis (-(tk.phase centre k))))

/-- One symbol's soft values, a pair's added, and its bins, one port after the other. -/
def Rx.softSymbol (r : Rx) (plan : Nat) (eraseEn : Bool) (tr : List Transform) : RxSymbol :=
  let per : List (List (Int × Cplx)) := tr.zipIdx.map fun p => r.chan.flatMap (r.lotSoft plan eraseEn p.2 p.1)
  let soft : List Int := match per with
    | [] => []
    | x :: rest => rest.foldl (fun a b => List.zipWith (fun u (v : Int × Cplx) => u + v.1) a b) (x.map Prod.fst)
  ⟨soft.map fun v => max (-62) (min 62 v), per.flatMap fun l => l.map Prod.snd⟩

/-- The tracked window offset. [DEDUCED, log 36] -/
def Rx.tau (r : Rx) : Rat := r.tau0 + (r.track.getD 0 ⟨0, 0, 1⟩).beta * 16384

/-- Every H_k turned by k/16 of a turn, forward or back. -/
def Rx.rotate (plan : Nat) (r : Rx) (fwd : Bool) : List LotChan :=
  r.chan.map fun c =>
    let ts := lotTones plan c.lot
    { c with h := List.zipWith (fun k h => h.mul (cis (if fwd then mkRat k 16 else -(mkRat k 16)))) (List.replicate r.track.length ts).flatten c.h }

/-- The move to the adjacent hop that brings the offset back into (1,024, 2,048]. [DEDUCED, log 36] -/
def Rx.hopMove (plan : Nat) (r : Rx) : Rx :=
  if 2048 < r.tau then { r with chan := r.rotate plan false, tau0 := r.tau0 - 1024, next := r.next - 1 }
  else if r.tau ≤ 1024 then { r with chan := r.rotate plan true, tau0 := r.tau0 + 1024, next := r.next + 1 }
  else r

/-- Data tones of the payload as far as known. -/
def State.payTones (s : State) (r : Rx) : List Nat := r.tones.getD (dataTones (s.plan r.port) r.lots)

/-- Symbols of a reception from its first header symbol to its last, once its header is known. -/
def State.rxLength (s : State) (r : Rx) : Option Nat :=
  r.hdr.map fun h => r.hdrSyms + payloadSyms h.mc h.len (s.payTones r).length

/-- The contexts of a reception that has its last symbol return to IDLE (R155). -/
def State.endSymbols (s : State) (id : Rxid) : State :=
  match s.findRx id with
  | none => s
  | some r =>
    match s.rxLength r with
    | none => s
    | some n =>
      if r.syms.length < n || r.ctxs.isEmpty then s
      else
        let s := s.modRx id fun r =>
          { r with syms := r.syms.take n, lastSym := r.lastSym - 18432 * ((r.syms.length - n : Nat) : Rat), ctxs := [] }
        r.ctxs.foldl (fun (s : State) c => s.idleCtx c) s

/-- The symbol of a reception whose transform has come: P7, of which only the pilots are measured, or one after it (R167). -/
def State.rxSymbol (s : State) (n : Port) (ps : List Port) (h : Nat) (id : Rxid) : State :=
  match s.findRx id with
  | none => s
  | some r =>
    if r.port != n || r.ctxs.isEmpty || decide (h < r.next) then s
    else
      let plan := s.plan n
      match s.allTrans ps r.next with
      | none => s.modRx id fun r => { r with next := r.next + 18 }
      | some tr =>
        if r.next = r.p6 + 18 then s.modRx id fun _ => { r.trackStep plan true tr with next := r.next + 18 } else
        let r := r.trackStep plan false tr
        let sym := r.softSymbol plan (s.on F.DMD_CTL_ERASE_EN) tr
        let moved := match tr with | t :: _ => !(r.pilots plan 0 t).isEmpty | [] => false
        let r := { r with syms := r.syms ++ [sym], lastSym := 1024 * (r.next : Rat) - r.tau, next := r.next + 18 }
        (s.modRx id fun _ => if moved then r.hopMove plan else r).endSymbols id

/-! ### Capture (R175-R177) -/

/-- The reception or context an RXID stands for has passed its qualifier. -/
def State.passedRx (s : State) (c : Nat) (id : Rxid) : Bool :=
  match s.findRx id with
  | some r => r.passed
  | none => match (s.ctx c).qual with | some q => q.pass == some true | none => false

/-- A watcher's capture energy on its lot: |S_k/n|^2, or the trained mean of a context claimed without a trigger. -/
def State.watchEnergy (s : State) (w : Nat) : Rat :=
  match (s.ctx w).qual with
  | some q => sumRat (meanPower q.syms)
  | none => sumRat (s.onTone w)

/-- The settings a context's reception started with. -/
def State.thrOf (s : State) (c : Nat) (id : Rxid) : List Word :=
  match s.findRx id with
  | some r => r.thr
  | none => match (s.ctx c).qual with | some q => q.thr | none => s.thrNow

/-- A capture decision on lot j settles a reception that none has settled (R177). -/
def State.settleRx (s : State) (id : Rxid) (j : Nat) : State := s.modRx id fun r => { r with settled := r.settled <|> some j }

/-- The watcher's reception takes the active role on the lots it serves, and the decision settles it. [DEDUCED, log 37] -/
def State.takeOver (s : State) (id : Rxid) (j : Nat) : State :=
  ((s.ctxsOf id).foldl (fun (s : State) c =>
      if (s.ctx c).watcher && (s.ctx (ctxPeer c)).rxid.isNone then s.makeActive c else s) s).settleRx id j

/-- Another lot's capture decision has settled the reception. -/
def Rx.settledElsewhere (r : Rx) (j : Nat) : Bool := match r.settled with | some i => i != j | none => false

/-- The active reception `ra` is kept on lot j; under KEEP_ERASE the lot carries weight 0 from here (R177). -/
def State.eraseLot (s : State) (ra : Rx) (j : Nat) : State :=
  if s.on F.DMD_CTL_KEEP_ERASE then s.modRx ra.rxid fun r => { r with erased := if r.erased.contains j then r.erased else r.erased ++ [j] } else s

/-- A switch: the active is squashed whole, and the watcher goes on in its place. -/
def State.switchTo (s : State) (ida idw : Rxid) (n : Port) (j : Nat) : State :=
  ((s.setCap idw j (some .decided)).squashCaptured ida idw n j).takeOver idw j

/-- The decision between the active reception and a ready watcher reception of lot j (R176, R177); `ra` is the active's, where it is formed. A
reception settled on another lot is squashed no more: what a later decision does is erase the lot in the one kept. [DEDUCED, log 37] -/
def State.decideCapture (s : State) (n : Port) (j : Nat) (ida idw : Rxid) (thr : List Word) (test : Bool) (ra : Option Rx) (rw : Rx) : State :=
  match ra with
  | some ra =>
    let policy := if ra.armed.contains j then Thr.capAssigned thr else Thr.capOpen thr
    if rw.settledElsewhere j then
      let s := s.setCap idw j (some .decided)
      if ra.hdr.isSome && test && !policy then s.eraseLot ra j else s
    else if ra.settledElsewhere j then
      let s := s.squashCaptured idw ida n j
      if test then s.eraseLot ra j else s
    else if ra.hdr.isNone then
      if test then s.switchTo ida idw n j else s.setCap idw j (some .header)
    else if test && policy then s.switchTo ida idw n j
    else
      let s := (s.squashCaptured idw ida n j).settleRx ida j
      if test then s.eraseLot ra j else s
  | none =>
    if rw.settledElsewhere j then s.setCap idw j (some .decided)
    else if test then s.switchTo ida idw n j
    else s.setCap idw j (some .header)

/-- The capture of lot j: its watcher reception, once ready, waits for the verdict of the active one, and is then decided (R175, R176). -/
def State.captureLot (s : State) (n : Port) (j : Nat) : State :=
  let a := s.activeCtx n j
  let w := s.watcherCtx n j
  match (s.ctx a).rxid, (s.ctx w).rxid with
  | some ida, some idw =>
    match s.findRx idw with
    | none => s
    | some rw =>
      if ida == idw || !rw.passed || rw.caps.any (fun p => p.1 == j && p.2 != .verdict) then s
      else if !s.passedRx a ida then s.setCap idw j (some .verdict)
      else
        let thr := s.thrOf a ida
        let test := dbGe (s.watchEnergy w) (sumRat (s.onTone a)) (Thr.margin thr)
        (s.setCap idw j none).decideCapture n j ida idw thr test (s.findRx ida) rw
  | _, _ => s

/-! ### A hop -/

/-- All receptions of a port at hop h. -/
def State.processHop (s : State) (n : Port) (h : Nat) : State :=
  let ps := s.rxPorts n
  let lots := s.usedLots n
  let s := lots.foldl (fun (s : State) j => s.idleUpdate n ps h j) s
  let s := lots.foldl (fun (s : State) j => s.huntLot n ps h j) s
  let s := (ctxsOfPort n).foldl (fun (s : State) c => s.collectHop n ps h c) s
  let s := (ctxsOfPort n).foldl (fun (s : State) c => s.qualStep n ps h c) s
  let s := State.formAll 40 s n ps h
  let s := (s.dmd.rx.map (·.rxid)).foldl (fun (s : State) id => s.rxSymbol n ps h id) s
  (List.range 20).foldl (fun (s : State) j => s.captureLot n j) s

/-- FFT_HOP: a hop of port n's samples, its transform, and what every context does with it. The samples are those of stage 3 over the hop, and
`first` those of the first decimator's output, which the peak detector and the gain control measure (R117). -/
def execFftHop (n : Port) (samples first : List Rat) (s : State) : Out :=
  if !s.lpOn n then .next s
  else
    let s := s.runHop n samples first
    let h := s.hopIndex n - 15
    let p := s.txPort n
    if s.hopIndex n < 15 || (s.transAt n h).isSome then .next s
    else
      let t := makeTransform (s.preset n) h (s.usedLots p) (s.blockedLots n h) (s.mapNoise n) s.lp[n].samples
      let s := s.modLp n fun l => { l with trans := (t :: l.trans).take 440 }
      if s.detecting && s.dmdOn p && (s.allTrans (s.rxPorts n) h).isSome then .next (s.processHop p h) else .next s

end Sys2Proof.Machine
end

