-- ==== Sys2Proof/Machine/Frames.lean ====
section
/-! DEFINITION. Frames bit by bit (R81-R113): headers, check values, security, the beacon payload, and frame geometry. -/

namespace Sys2Proof.Machine

/-! ### Headers -/

/-- Bits hi:lo of header bytes (R83). -/
def hdrField (bs : List Byte) (hi lo : Nat) : Nat := leNat bs / 2 ^ lo % 2 ^ (hi + 1 - lo)

/-- The HCS over the header bytes before it (R92). -/
def hcsOf (bs : List Byte) : Byte := (crcStored .crc8 bs).headD 0

/-- The long header of R84, HCS included. -/
def longHeader (ft mc : Nat) (sec ackreq : Bool) (lots len dst src domlo : Nat) : List Byte :=
  let body := leBytes 11 (ft + 16 * mc + 128 * sec.toNat + 256 * ackreq.toNat + 2 ^ 9 * lots + 2 ^ 29 * len
    + 2 ^ 40 * dst + 2 ^ 58 * src + 2 ^ 76 * domlo)
  body ++ [hcsOf body]

/-- Read a long header (R84). -/
def parseLong (bs : List Byte) : Hdr :=
  { sh := false, ft := hdrField bs 3 0, mc := hdrField bs 6 4, sec := hdrField bs 7 7 == 1, ackreq := hdrField bs 8 8 == 1,
    lots := hdrField bs 28 9, len := hdrField bs 39 29, dst := hdrField bs 57 40, src := hdrField bs 75 58,
    domlo := hdrField bs 83 76, miss := 0, batt := 0, hcs := bs.getD 11 0, bytes := bs }

/-- Read a short header (R85); `src` is SRCLO until R89 resolves it. -/
def parseShort (bs : List Byte) : Hdr :=
  { sh := true, ft := hdrField bs 3 0, mc := hdrField bs 6 4, sec := hdrField bs 7 7 == 1, ackreq := hdrField bs 8 8 == 1,
    lots := 0, len := hdrField bs 17 9, dst := 0, src := hdrField bs 25 18, domlo := 0, miss := hdrField bs 29 26,
    batt := hdrField bs 31 30, hcs := bs.getD 5 0, bytes := bs }

/-- A header passes its HCS (R91). -/
def hcsPasses (bs : List Byte) : Bool := hcsOf bs.dropLast == bs.getLastD 0

/-- The stored FCS over the header and the payload (R92). -/
def fcsOf (hdr payload : List Byte) : List Byte := crcStored .crc24 (hdr ++ payload)

/-- The ACK token over a frame's header and, when secured, its FC (R92, R108). -/
def tokenOf (hdr : List Byte) (fc : Option Nat) : BitVec 16 :=
  BitVec.ofNat 16 (leNat (crcStored .crc16 (hdr ++ (match fc with | some f => leBytes 4 f | none => []))))

/-- The 24-bit ACK body (R107). -/
def ackBody (token : BitVec 16) (status : Nat) : List Byte := leBytes 3 (2 + 16 * token.toNat + 2 ^ 20 * status)

/-! ### Node numbers (R82) -/

/-- A group or broadcast node number. -/
def groupNode (node : Nat) : Bool := decide (0x3FFF0 ≤ node)
def broadcastNode : Nat := 0x3FFFF

/-! ### Security (R103-R105) -/

/-- The 13-byte nonce of R105. -/
def ccmNonce (node domain fc ft : Nat) : List Byte := leBytes 3 node ++ leBytes 2 domain ++ leBytes 4 fc ++ leBytes 1 ft ++ [0, 0, 0]

/-- The associated data: the header without its HCS. -/
def ccmAad (hdr : List Byte) : List Byte := hdr.dropLast

/-- A secured payload (R103). -/
def sealPayload (key : List Byte) (hdr : List Byte) (ksel node domain fc ft : Nat) (plain : List Byte) : List Byte :=
  let r := ccmSeal key (ccmNonce node domain fc ft) (ccmAad hdr) plain 8
  leBytes 1 ksel ++ leBytes 4 fc ++ r.1 ++ r.2

/-- The plaintext of a secured payload and whether its MIC verifies. -/
def openPayload (key : List Byte) (hdr : List Byte) (node domain ft : Nat) (payload : List Byte) : List Byte × Bool :=
  let fc := leNat ((payload.drop 1).take 4)
  let body := payload.drop 5
  ccmOpen key (ccmNonce node domain fc ft) (ccmAad hdr) (body.take (body.length - 8)) (body.drop (body.length - 8))

/-- The reserved KSEL codes of R104. -/
def kselReserved (ksel : Nat) : Bool := !(ksel == 0 || decide (0x10 ≤ ksel ∧ ksel ≤ 0x1F))

/-! ### Geometry (R74) -/

/-- Symbols of a frame with a long header: E extended symbols, lots under a plan, and the payload's data tones. -/
def frameSyms (e mc len dh dp : Nat) : Nat := e + 8 + mcCopies mc * headerSyms false dh + payloadSyms mc len dp

/-! ### The beacon (R99-R101) -/

/-- What a beacon says. -/
structure Beacon where
  domain  : Nat
  bsn     : Nat
  slotlen : Nat
  epoch   : Nat
  mphase  : Nat
  rank    : Nat
  flags   : Nat
  openmap : Nat
  pend    : List Nat
deriving DecidableEq, Repr

/-- The payload before TAG (R100). -/
def Beacon.body (b : Beacon) : List Byte :=
  leBytes 2 b.domain ++ leBytes 2 b.bsn ++ leBytes 2 b.slotlen ++ leBytes 6 b.epoch ++ leBytes 2 b.mphase ++ leBytes 1 b.rank
    ++ leBytes 1 b.flags ++ leBytes 1 b.pend.length ++ leBytes 8 b.openmap ++ b.pend.flatMap (leBytes 3)

/-- Its header on a lot set (R99). -/
def Beacon.header (b : Beacon) (lots : List Nat) : List Byte :=
  longHeader 0 0 false false (lotBits lots) (33 + 3 * b.pend.length) broadcastNode 0 (b.domain % 256)

/-- The CMAC message of R101. -/
def Beacon.message (b : Beacon) (lots : List Nat) : List Byte := (b.header lots).take 11 ++ b.body

/-- Read a beacon payload (R100). -/
def parseBeacon (p : List Byte) : Beacon :=
  let f := fun o n => leNat ((p.drop o).take n)
  { domain := f 0 2 % 0x4000, bsn := f 2 2, slotlen := f 4 2, epoch := f 6 6, mphase := f 12 2, rank := f 14 1, flags := f 15 1,
    openmap := f 17 8, pend := (List.range (f 16 1)).map fun i => f (25 + 3 * i) 3 }

/-- Symbols of a beacon with `n` pending nodes (R235). -/
def beaconSyms (plan : Nat) (lots : List Nat) (n : Nat) : Nat :=
  let d := (dataTones plan lots).length
  frameSyms 0 0 (33 + 3 * n) d d

end Sys2Proof.Machine
end

