-- ==== Sys2Proof/Machine/TxBuild.lean ====
section
/-! DEFINITION. Building transmissions: descriptors (R513, R514), reading their payloads (R512, R516), the superframe grid (R230), frame
geometry in time (R74, R110, R113), neighbour masks (R56, R57) and bookings from the deferred store (R254-R257). -/

namespace Sys2Proof.Machine

/-! ### Descriptors -/

/-- Bytes 0-47 of a submission or transmit descriptor. -/
def parseSub (b : List Byte) : SubDesc :=
  let f := fun o n => leNat ((b.drop o).take n)
  { buf := f 0 8, time := f 8 8, mode := f 16 1 % 4, irq := (f 16 1).testBit 2, ft := f 17 1 % 16, sec := (f 17 1).testBit 4,
    ackreq := (f 17 1).testBit 5, mc := f 18 1 % 8, port := f 18 1 / 16 % 8, e := f 19 1, len := f 20 2, ksel := f 22 1,
    dst := f 24 4 % 2 ^ 18, lots := f 28 4 % 2 ^ 20, htag := (b.drop 32).take 16 }

/-- A descriptor of MODE 0 or 1, or one TQADD names, that cannot be sent (R514). -/
def State.descBad (s : State) (d : SubDesc) (next : Bool) : Bool :=
  !(d.ft == 1 || d.ft == 3) || (d.ackreq && groupNode d.dst) || (d.sec && kselReserved d.ksel)
    || decide ((if d.sec then 2034 else 2047) < d.len)
    || (!next && (decide (5 < d.port) || decide (32 < d.e) || d.mc == 7 || (lotsOf d.lots).isEmpty
      || (lotsOf d.lots).any fun j => !planLot (s.plan (if h : d.port < 6 then (s.txPort ⟨d.port, h⟩).val else 0)) j))

/-- How a payload read ends. -/
inductive PayRead where
  | ok (bs : List Byte)
  | bufErr
  | hostTag
deriving DecidableEq, Repr

/-- Read a payload for a TQADD descriptor. -/
def State.readPlain (s : State) (d : SubDesc) : State × PayRead :=
  if d.len = 0 then (s, .ok [])
  else match s.dmaRead d.buf d.len with
    | (s, some bs) => (s, .ok bs)
    | (s, none) => (s, .bufErr)

/-- Read the payload of entry n of submission ring r: a transfer of channel r (R507), opened under the host channel's key where the ring is
secured (R516). APPEND and STRIP leave it as it is: they act on the delivery buffer. A read error sets DMA_ERR (R517), a failed tag HTAG_FAIL. -/
def State.readEntry (s : State) (r : Fin 8) (n : Nat) (d : SubDesc) : State × PayRead :=
  match s.readPlain d with
  | (s, .ok bs) =>
    let s := (s.crcDma r bs).1
    if s.ringSecure r then
      match s.namedKey (s.fld (F.HIF_RINGr_CFG_KEYSLOT r)), s.dmaRead (s.entryAddr r n) 32 with
      | some k, (s, some desc) =>
        if k.policy = 4 ∧ k.dec = true then
          let res := gcmOpen k.key (hostIv r n) (desc.drop 8) bs d.htag
          if res.2 then (s, .ok res.1) else (s.hifFlag F.HIF_FLAGS_HTAG_FAIL, .hostTag)
        else (s.hifFlag F.HIF_FLAGS_HTAG_FAIL, .hostTag)
      | _, (s, _) => (s.hifFlag F.HIF_FLAGS_HTAG_FAIL, .hostTag)
    else (s, .ok bs)
  | (s, x) => (s.hifFlag F.HIF_FLAGS_DMA_ERR, x)

/-! ### The superframe grid -/

/-- Dticks of a slot and of a superframe now running. -/
def State.slotDticks (s : State) : Nat := s.mac.cur.slotlen * symDticks
def State.sfDticks (s : State) : Nat := 64 * s.slotDticks

/-- Slots since the start of the running superframe, and the instant the slot of t starts. -/
def State.slotsTo (s : State) (t : Int) : Int := (t - (s.mac.cur.start : Int)) / ((max 1 s.slotDticks : Nat) : Int)
def State.slotStart (s : State) (t : Int) : Int := (s.mac.cur.start : Int) + s.slotsTo t * (s.slotDticks : Int)

/-- The slot number and the BSN of the superframe that hold t. -/
def State.slotNo (s : State) (t : Int) : Nat := (s.slotsTo t % 64).toNat
def State.bsnAt (s : State) (t : Int) : Nat := (((s.mac.cur.bsn.toNat : Int) + s.slotsTo t / 64) % 65536).toNat
def State.openSlot (s : State) (t : Int) : Bool := s.mac.cur.openmap.getLsbD (s.slotNo t)

/-- A number in the latest TIME packet (R456, R460). -/
def State.timeField (s : State) (o n : Nat) : Nat := leNat (((s.ulk.timeSf.getD []).drop o).take n)

/-- The master slot of R268 and R460, where there is one. -/
def State.masterSlot (s : State) : Option Nat :=
  match s.sys.mode with
  | .follow | .holdover => some (64 - s.fld F.MAC_FOLLOW_BCN_OFS)
  | .subordinate =>
    let b := s.timeField 22 1
    if b = 0 ∨ 63 < b then none else some (64 - b)
  | _ => none

/-! ### The next superframe -/

def State.slotlenReg (s : State) : Nat := max 16 (min 4096 (s.fld F.MAC_SF_CTL_SLOTLEN))

/-- A subordinate's next superframe from the latest TIME packet (R460): start, SLOTLEN and BSN. It is the first to come, and where a superframe of
the master's runs already not the one that corresponds to it. [DEDUCED, log 51] -/
def State.timeNext (s : State) : Nat × Nat × Nat :=
  let sl := s.timeField 18 2
  let len := max 1 (64 * sl * symDticks)
  let t := s.timeField 10 8
  let due := if s.sys.mode == .subordinate then max s.now (s.mac.cur.start + len / 2) else s.now
  let k := (due - t + len - 1) / len
  (t + k * len, sl, (s.timeField 20 2 + k) % 65536)

/-- The length of the master's superframe on own time, and the start of its latest verified one (R267). -/
def State.masterPeriod (s : State) : Rat := ((64 * s.mac.follow.slotlen * symDticks : Nat) : Rat) * (1 + s.mac.follow.v)
def State.masterStart (s : State) : Rat := (s.mac.follow.ownAt : Rat) + s.mac.follow.x

/-- A follower's target for its superframe that corresponds to the master's k-th after the latest verified. -/
def State.followTarget (s : State) (k : Int) : Rat :=
  s.masterStart + (k : Rat) * s.masterPeriod
    + ((s.fld F.MAC_FOLLOW_BCN_OFS * s.mac.follow.slotlen * symDticks : Nat) : Rat) * (1 + s.mac.follow.v)

/-- A follower's next start (R267): a step when it enters FOLLOW, a slew after that. [DEDUCED, log 41] -/
def State.followNext (s : State) : Nat :=
  let p := s.masterPeriod
  let z := s.followTarget 0
  if p = 0 then s.mac.cur.start + s.sfDticks
  else if !s.mac.follow.entered then (roundUp (s.followTarget ((s.now : Rat) - z |> (· / p)).ceil)).toNat
  else
    let due : Rat := ((s.mac.cur.start + s.sfDticks : Nat) : Rat)
    let t := s.followTarget (roundUp ((due - z) / p))
    let lim : Rat := (s.fld F.MAC_HOLD_SLEW_MAX : Nat)
    (roundUp (due + clampRat (-lim) lim (t - due))).toNat

/-- The mode whose grid places the next superframe: one that is pending places its first superframe itself (R39, R267, R460). [DEDUCED, log 41] -/
def State.gridMode (s : State) : Mode :=
  match s.sys.pend with
  | some .follow => .follow
  | some .subordinate => .subordinate
  | _ => s.sys.mode

/-- The start of the next superframe. -/
def State.nextStart (s : State) : Nat :=
  match s.gridMode with
  | .subordinate => s.timeNext.1
  | .follow | .holdover => s.followNext
  | _ => s.mac.next

/-! ### Almanac entries (R237) -/

structure AlmEntry where
  ulSlot : Nat
  dlSlot : Nat
  lots   : List Nat
  mc     : Nat
  w      : Nat
  phase  : Nat
  port   : Nat
  dlExt  : Bool
  valid  : Bool
deriving DecidableEq, Repr

def parseAlm (n : Nat) : AlmEntry :=
  let f := fun hi lo => natBits n hi lo
  { ulSlot := f 5 0, dlSlot := f 11 6, lots := lotsOf (f 31 12), mc := f 34 32, w := f 38 35, phase := f 50 39, port := f 53 51,
    dlExt := n.testBit 54, valid := n.testBit 55 }

def State.almOf (s : State) (i : Nat) : AlmEntry := parseAlm (s.stallLe i Rec.alm 8)

/-- The wake of an entry falls in the superframe of this BSN. -/
def AlmEntry.wakes (a : AlmEntry) (bsn : Nat) : Bool := a.valid && bsn % 2 ^ a.w == a.phase

/-- Lots a neighbour's mask leaves in its lot sets (R57). -/
def State.neighbourLots (s : State) (i plan : Nat) (lots : List Nat) : List Nat :=
  lots.filter fun j => !(maskedLot plan (s.stallMask i) j).isEmpty

/-- The mask over a payload sent to stall i's neighbour at t: the neighbour mask is in force in its assigned slots (R56). -/
def State.sentMask (s : State) (i : Nat) (t : Int) : Option (List Byte) :=
  let a := s.almOf i
  let k := s.slotNo t
  if a.wakes (s.bsnAt t) && !s.openSlot t && k != 0 && (k == a.dlSlot || k == a.ulSlot) then some (s.stallMask i)
  else none

/-! ### Frames in time -/

/-- Symbols of a transmission under its plan. -/
def TxOp.syms (o : TxOp) : Nat :=
  match o.kind with
  | .ack _ => 4 + ackSyms (dataTones o.plan o.lots).length
  | _ => frameSyms o.e o.mc o.hdr.len (dataTones o.plan o.lots).length o.tones.length

/-- Symbols of the gap and the ACK that answers a frame on a lot set. -/
def ackTail (plan : Nat) (lots : List Nat) : Nat := 2 + 4 + ackSyms (dataTones plan (lots.take 1)).length

/-- When a transmission and the ACK it asks for have ended. -/
def TxOp.ends (o : TxOp) (t : Nat) : Nat := t + (o.syms + (if o.hdr.ackreq then ackTail o.plan o.lots else 0)) * symDticks

/-- A long-header frame of the device for a descriptor (R514). -/
def State.frameOp (s : State) (d : SubDesc) (kind : TxKind) (port : Port) (lots : List Nat) (mc e : Nat) (mask : Option (List Byte)) (time : Nat)
    (gate : Option Rxid) (plain : List Byte) : TxOp :=
  let len := if d.sec then d.len + 13 else d.len
  let p := s.txPort port
  { TxOp.blank with
    kind := kind, encr := if d.sec then .waiting else .done, time := time, port := p, pair := s.yokedPort port, gate := gate, lots := lots
    mc := mc, e := e, hdr := parseLong (longHeader d.ft mc d.sec d.ackreq (lotBits lots) len d.dst 0 (s.domain % 256))
    addr := netAddr s.domain d.dst, ksel := d.ksel, plain := plain, payload := if d.sec then [] else plain, mask := mask, tones := payloadTones (s.plan p) mask lots
    plan := s.plan p }

/-! ### The deferred store -/

/-- The first stored descriptor of a stall's address. -/
def State.firstStored (s : State) (a : Word) : Option Deferred := s.mac.store.find? fun d => d.addr == a

/-- Book a stored descriptor: its payload is read now (R512), and a read that fails completes its entry. -/
def State.bookStored (s : State) (d : Deferred) (port : Port) (lots : List Nat) (mc e : Nat) (mask : Option (List Byte)) (time : Nat)
    (gate : Option Rxid) : State :=
  match s.freeEntry 126 130 with
  | none => s
  | some i =>
    match s.readEntry d.ring d.n d.d with
    | (s, .bufErr) => s.finishDeferred d.no .bufErr 0 0
    | (s, .hostTag) => s.finishDeferred d.no .hostTag 0 0
    | (s, .ok bs) =>
      let o := { s.frameOp d.d (.deferred d.no) port lots mc e mask time gate bs with fc := d.fc }
      (s.addOp i o).1.modDeferred d.no fun d => { d with booked := true }

end Sys2Proof.Machine
end

