-- ==== Sys2Proof/Machine/RxDecode.lean ====
section
/-! DEFINITION. Decoding of receptions (R70, R87-R89, R172, R173), the stall fetch (R189, R284-R287), the reservation (R195), the payload with
its check, key and provisional delivery (R20, R103, R181, R199), and page-ins. -/

namespace Sys2Proof.Machine

/-! ### Header candidates (R70, R172, R173) -/

/-- The header bytes decoded from the first n copies. -/
def Rx.headerBytes (r : Rx) (d : Nat) (sh : Bool) (n : Nat) : List Byte :=
  let len := headerSyms sh d
  let bits := if sh then 48 else 96
  let nc := 2 * (bits + 6)
  let sums := (List.range n).foldl (fun acc i =>
    List.zipWith (· + ·) acc (softSums 2 nc d (((r.syms.drop (i * len)).take len).map (·.soft)))) (List.replicate nc 0)
  bitsBytes (decodeBits hseed .half bits sums)

/-- The candidate accepted at symbol count m, if one is: an LH before an SH. -/
def Rx.acceptAt (r : Rx) (d m : Nat) : Option (Bool × List Byte) :=
  let try_ := fun (sh : Bool) =>
    let len := headerSyms sh d
    let n := m / len
    if len = 0 ∨ m % len ≠ 0 ∨ 8 < n then none
    else
      let bs := r.headerBytes d sh n
      let h := if sh then parseShort bs else parseLong bs
      if hcsPasses bs && decide (n ≤ mcCopies h.mc) && (sh || !r.short || h.lots == lotBits r.lots) then some (sh, bs) else none
  match try_ false with
  | some x => some x
  | none => if r.short then try_ true else none

/-- An LH copy count passed its HCS with LOTS other than the lot set. -/
def Rx.lotsDiffer (r : Rx) (d m : Nat) : Bool :=
  let len := headerSyms false d
  decide (len ≠ 0 ∧ m % len = 0 ∧ m / len ≤ 8) &&
    (let bs := r.headerBytes d false (m / len); hcsPasses bs && (parseLong bs).lots != lotBits r.lots)

/-! ### Stall fetch -/

/-- LEDGER_FULL (R287). -/
def State.ledgerFull (s : State) (id : Rxid) (a : Word) : State :=
  ((s.flag F.LGR_FLAGS_LEDGER_FULL).raiseLimited Lim.ledgerFull 2458 Ev.LEDGER_FULL Src.lgrPage a 0).squash id Sq.LEDGER_FULL

/-- The payload of a reception comes in an assigned slot of its source, whose stall is i: it is an SH, a window of the source holds its
preamble start, or that start, to the nearest symbol, lies in a slot of the source's almanac entry (R56). [DEDUCED, log 37] -/
def State.inOwnSlot (s : State) (r : Rx) (i : Nat) : Bool :=
  (match r.hdr with | some h => h.sh | none => false) || (s.sentMask i (r.pre + symDticks / 2)).isSome ||
  s.mac.windows.any fun w => (s.rxPorts r.port).contains w.port && w.addr == r.src && decide (w.lo ≤ r.pre ∧ r.pre ≤ w.hi)

/-- A reception gets its stall, and with it the tone mask of its payload (R56); a payload with no tones is dropped (R87). [DEDUCED, log 33] -/
def State.giveStall (s : State) (id : Rxid) (i : Nat) : State :=
  match s.findRx id with
  | none => s
  | some r =>
    let plan := s.plan r.port
    let mask := if s.inOwnSlot r i then some (s.stallMask i) else none
    let ts := payloadTones plan mask r.lots
    let s := (s.touch i).modRx id fun r => { r with stall := some i, paging := false, tones := some ts, mask := mask }
    if ts.isEmpty then s.squash id Sq.HDR_INVALID else s

/-- Lend a stall to an unknown source, or refuse it (R286, R287). -/
def State.lendTo (s : State) (id : Rxid) (a : Word) : State :=
  let room := if s.coldOn then s.freeIndex.isSome && (s.dirRoom a).2.isSome else s.freeStall.isSome
  let s := if s.coldOn && s.freeIndex.isSome then (s.dirRoom a).1 else s
  if !room then s.ledgerFull id a
  else match s.takeStall with
    | (s, some i) => (s.lend i a).giveStall id i
    | (s, none) => s.ledgerFull id a

/-- Stage 4 of R20 for a source address. [DEDUCED, log 33] -/
def State.fetchStall (s : State) (id : Rxid) (a : Word) : State :=
  if !s.on F.LGR_CTL_EN then s.ledgerFull id a
  else match s.hotFind a with
    | some i => s.giveStall id i
    | none =>
      if s.lgr.pages.any (fun p => p.addr == a) || s.ulk.queries.any (fun q => q.addr == a && q.rxid.isSome) then
        s.modRx id fun r => { r with paging := true }
      else match s.recordOf a with
        | (s, some (c, true)) =>
          let s := s.modRx id fun r => { r with paging := true }
          { s with lgr := { s.lgr with pages := s.lgr.pages ++ [⟨a, c, none⟩] } }
        | (s, some (_, false)) => s.ledgerFull id a
        | (s, none) =>
          if !s.on F.LGR_CTL_AUTO_ALLOC then s.ledgerFull id a
          else if !s.on F.ULK_CTL_LOOKUP then s.lendTo id a
          else if !s.on F.ULK_STAT_RING_UP then (s.flag F.ULK_FLAGS_LKUP_TO).ledgerFull id a
          else (s.askRing a (some id)).modRx id fun r => { r with paging := true }

/-! ### Page-ins (R284, R285) -/

def State.modPage (s : State) (a : Word) (f : PageIn → PageIn) : State :=
  { s with lgr := { s.lgr with pages := s.lgr.pages.map fun p => if p.addr == a then f p else p } }

/-- Receptions that wait for a page-in or a query of an address; all refused, or given stall i. -/
def State.waitingRx (s : State) (a : Word) : List Rxid := (s.dmd.rx.filter fun r => r.paging && r.src == a).map (·.rxid)
def State.refuseAll (s : State) (a : Word) : State := (s.waitingRx a).foldl (fun (s : State) id => s.ledgerFull id a) s
def State.giveAll (s : State) (a : Word) (i : Nat) : State := (s.waitingRx a).foldl (fun (s : State) id => s.giveStall id i) s

/-- A page-in is no longer wanted or has ended. -/
def State.dropPage (s : State) (a : Word) : State := { s with lgr := { s.lgr with pages := s.lgr.pages.filter fun p => p.addr != a } }

/-- PAGE_IN: a requested page-in starts, taking a FREE stall or the victim's; with every stall held it waits. Where a page-in of another
requester has made the record resident meanwhile, it completes with it (R285); a ledger disabled meanwhile refuses those that wait (R287). -/
def execPageIn (addr : Word) (s : State) : Out :=
  match s.lgr.pages.find? fun p => p.addr == addr && p.stall.isNone with
  | none => .next s
  | some _ =>
    if !s.on F.LGR_CTL_EN then .next ((s.dropPage addr).refuseAll addr)
    else match s.hotFind addr with
    | some i => .next ((s.dropPage addr).giveAll addr i)
    | none =>
      match s.takeStall with
      | (s, some i) => .next (s.modPage addr fun p => { p with stall := some i })
      | (s, none) => .next s

/-- The record of a page-in under way that no other requester has made resident: read into its stall, or found to fail (R281, R402). -/
def State.endPageIn (s : State) (a : Word) (i c : Nat) (mram : ScrubOutcome) : State × Bool :=
  match s.recordOf a with
  | (s, some (_, true)) =>
    match s.mramRead (hwmWord c) mram with
    | (s, true) => s.finishPageIn a i c
    | (s, false) => ((s.integrity c).awaitImport a, false)
  | (s, _) => (s, false)

/-- PAGE_IN_COMPLETE: the record is resident and its receptions hold it; a line that fails verification, or whose mark cannot be read from
MRAM, and a ledger disabled meanwhile refuse them (R281, R287, R402). [DEDUCED, log 31] -/
def execPageInComplete (addr : Word) (mram : ScrubOutcome) (s : State) : Out :=
  match s.lgr.pages.find? fun p => p.addr == addr with
  | some ⟨_, c, some i⟩ =>
    let s := s.dropPage addr
    if !s.on F.LGR_CTL_EN then .next (s.refuseAll addr)
    else match s.hotFind addr with
      | some j => .next (s.giveAll addr j)
      | none =>
        match s.endPageIn addr i c mram with
        | (s, true) => .next (s.giveAll addr i)
        | (s, false) => .next (s.refuseAll addr)
  | _ => .next s

/-! ### The header verdict -/

/-- The reservation of R508, or RING_FULL. -/
def State.reserveRx (s : State) (id : Rxid) : State :=
  match s.findRx id with
  | none => s
  | some r =>
    match r.hdr with
    | none => s
    | some h =>
      match s.matchRing h.ft h.mc r.port false with
      | none => (s.ringFull none).squash id Sq.RING_FULL
      | some k =>
        let n := s.entriesFor k (h.plainLen + s.surveyLen h (s.payTones r).length)
        if s.ringFits k n then (s.reserve k n (.rx id)).modRx id fun r => { r with ring := some k }
        else (s.ringFull (some k)).squash id Sq.RING_FULL

/-- The source an accepted header names, where R87 to R89 let it pass. [DEDUCED, log 33] -/
def State.headerSource (s : State) (r : Rx) (h : Hdr) : Option Word :=
  if h.ft = 2 ∨ 5 < h.ft ∨ h.mc = 7 ∨ (h.sec = true ∧ h.len < 13) then none
  else if h.sh then
    if h.ft = 1 ∨ h.ft = 3 ∨ h.ft = 4 then
      match (s.windowsAt (s.rxPorts r.port) r.tB).filter fun w => w.lots == r.lots && w.addr.toNat % 256 == h.src with
      | [w] => some w.addr
      | _ => none
    else none
  else if h.lots ≠ lotBits r.lots then none
  else if h.ft = 0 then some (netAddr s.domain h.src)
  else if h.domlo = s.domain % 256 ∧ (h.dst = 0 ∨ groupNode h.dst = true) ∧ h.src ≠ 0 then some (netAddr s.domain h.src)
  else none

/-- Watcher receptions held in PENDING against a reception lose to it, lot by lot, when its header passes (R176). -/
def State.dropPending (s : State) (r : Rx) : State :=
  r.ctxs.foldl (fun (s : State) c =>
    match (s.ctx (ctxPeer c)).rxid with
    | some idw =>
      match s.findRx idw with
      | some w =>
        if w.caps.contains (ctxLot c, .header) then (s.squashCaptured idw r.rxid r.port (ctxLot c)).settleRx r.rxid (ctxLot c) else s
      | none => s
    | none => s) s

/-- An accepted header: R87 to R89, capture, the stall fetch and the reservation. -/
def State.headerPass (s : State) (id : Rxid) (sh : Bool) (bs : List Byte) : State :=
  match s.findRx id with
  | none => s
  | some r =>
    let s := s.crcRxHeader r.port id bs
    let h := if sh then parseShort bs else parseLong bs
    match s.headerSource r h with
    | none => s.squash id Sq.HDR_INVALID
    | some a =>
      let d := (dataTones (s.plan r.port) r.lots).length
      let h := if sh then { h with src := nodeOf a, lots := lotBits r.lots } else h
      let s := s.modRx id fun r => { r with hdr := some h, src := a, hdrSyms := mcCopies h.mc * headerSyms sh d }
      let s := (s.modCtx r.lead fun x => { x with state := .payload }).dropPending r
      let s := if h.ft = 0 then s.modRx id fun x => { x with tones := some (dataTones (s.plan r.port) r.lots) } else s.fetchStall id a
      (s.reserveRx id).endSymbols id

/-- The header work of a block: the first symbol count not yet examined at which a candidate is accepted, or the failure of all. [DEDUCED, log 38] -/
def State.decodeHeader (s : State) (id : Rxid) (r : Rx) : State :=
  let d := (dataTones (s.plan r.port) r.lots).length
  let counts := (List.range (r.syms.length + 1)).filter fun m => decide (r.tried < m)
  match counts.findSome? (r.acceptAt d) with
  | some (sh, bs) => s.headerPass id sh bs
  | none =>
    let bad := r.badLots || (r.short && counts.any (r.lotsDiffer d))
    if 8 * headerSyms false d ≤ r.syms.length then s.squash id (if bad then Sq.HDR_INVALID else Sq.HCS_FAIL)
    else s.modRx id fun r => { r with tried := r.syms.length, badLots := bad }

/-! ### SNR and level (R181, R509) -/

/-- Per lot the linear mean of |H_k|^2 / nu_k. -/
def Rx.lotSnr (r : Rx) : List (Nat × Nat) :=
  r.chan.map fun c => (c.lot, snrCode (meanRat (List.zipWith (fun (h : Cplx) n => ratioOf h.sq n) c.h c.nu)))

/-- SNR of data tone u of a SURVEY payload over the ports, from the tones' on and off symbols. -/
def toneSnr (ports d u : Nat) (on : List (List Bool)) (bins : List (List Cplx)) : Rat :=
  meanRat ((List.range ports).map fun i =>
    let xs := List.zipWith (fun (o : List Bool) (b : List Cplx) => (o.getD u false, b.getD (i * d + u) Cplx.zero)) on bins
    let ons := (xs.filter (·.1)).map (·.2)
    let offs := (xs.filter fun x => !x.1).map fun x => x.2.sq
    let mu := Cplx.scale (ratioOf 1 ((ons.length : Nat) : Rat)) (sumVec ons)
    ratioOf mu.sq (ratioOf (sumRat offs) ((offs.length : Nat) : Rat)))

/-- The SURVEY measurement: per-lot codes and the record. [DEDUCED, log 36] -/
def State.survey (s : State) (r : Rx) (h : Hdr) (tones : List Nat) : List (Nat × Nat) × List Byte :=
  let z := zeros h.len
  let d := tones.length
  let on := codeBlock (pseed h.hcs h.src) (mcRate h.mc) (mcRep h.mc) d (z ++ fcsOf h.bytes z)
  let bins := (r.syms.drop r.hdrSyms).map (·.bins)
  let snr := tones.zipIdx.map fun p => (toneLot p.1, toneSnr r.track.length d p.2 on bins)
  let lots := r.lots.map fun j => (j, snrCode (meanRat ((snr.filter fun p => p.1 == j).map (·.2))))
  let first := (List.range 20).map fun j =>
    match lots.find? fun p => p.1 == j with
    | some p => BitVec.ofNat 8 p.2
    | none => Config.freeValue 8 (s.freeCtr + j)
  (lots, first ++ snr.map fun p => BitVec.ofNat 8 (snrCode p.2))

/-- Mean on-tone power, LOGP. -/
def Rx.levelCode (r : Rx) : Nat := logp (meanRat (r.lots.flatMap r.chanPower))

/-! ### The payload -/

/-- The payload has been decoded. -/
def Rx.decoded (r : Rx) : Bool := !r.snr.isEmpty

def Rx.payload (r : Rx) : List Byte := match r.hdr with | some h => r.block.take h.len | none => []

/-- The node that a reception's source has. -/
def Rx.srcNode (r : Rx) : Nat := nodeOf r.src

/-- The key slot of a KSEL (R303). -/
def Rx.keySlot (r : Rx) (ksel : Nat) : Option Nat := if ksel = 0 then r.stall.map (· + 256) else some ksel

/-- The key a secured reception binds, `none` where R303 takes the tag to fail. [DEDUCED, log 35] -/
def State.rxKey (s : State) (r : Rx) : Option Bound :=
  match r.keySlot r.ksel with
  | none => none
  | some slot =>
    match s.namedKey slot with
    | some k => if k.policy = 1 ∧ k.dec = true then some ⟨slot, k.gen, k.key⟩ else none
    | none => none

/-- CCM of a reception under its bound key (R105). -/
def State.openRx (s : State) (r : Rx) (h : Hdr) (b : Bound) : List Byte × Bool :=
  openPayload b.key h.bytes r.srcNode s.domain h.ft r.payload

/-- The 16-byte copy header of R463. -/
def Rx.copyHeader (r : Rx) (h : Hdr) : List Byte :=
  leBytes 4 r.src.toNat ++ leBytes 2 h.plainLen ++ leBytes 1 (h.ft + 16 * h.sec.toNat) ++ leBytes 1 r.port
    ++ leBytes 6 (r.pre % 2 ^ 48).toNat ++ [0, 0]

/-- Cut-through segments of at most 256 bytes (R199). -/
def State.sendSegs (s : State) (id : Rxid) (data : List Byte) : State :=
  let segs := chunks 256 data.length data
  (segs.foldl (fun (s : State) seg => s.ulkSend 9 0 id.toNat seg) s).modRx id fun r => { r with sent := segs.length }

/-- The soft values of a payload's symbols on its data tones. -/
def State.paySoft (s : State) (r : Rx) (tones : List Nat) : List (List Int) :=
  let all := dataTones (s.plan r.port) r.lots
  (r.syms.drop r.hdrSyms).map fun y => (all.zip y.soft).filterMap fun p => if tones.contains p.1 then some p.2 else none

/-- Trellis steps after which the security header's 40 bits have left the decoder: its traceback behind them (R172), or the block's end. -/
def secSteps (len : Nat) : Nat := min 88 (8 * (len + 3) + 6)

/-- Payload symbols that hold every copy of the coded bits those steps take. -/
def secSyms (h : Hdr) (d : Nat) : Nat :=
  let nc := codedBits (mcRate h.mc) (8 * (h.len + 3) + 6)
  listMax ((List.range (codedBits (mcRate h.mc) (secSteps h.len))).flatMap fun b =>
    (List.range (mcRep h.mc)).map fun c => (placeOf (mcRep h.mc) nc d c b).1 + 1)

/-- The security header as it leaves the decoder (R172). -/
def secBytesOf (h : Hdr) (d : Nat) (soft : List (List Int)) : List Byte :=
  let sums := softSums (mcRep h.mc) (codedBits (mcRate h.mc) (8 * (h.len + 3) + 6)) d soft
  let bits := viterbiRun 0 (depuncture (mcRate h.mc) (secSteps h.len) 0 (sums.map clampSoft)) viterbiStart
  bitsBytes (scramble (pseed h.hcs h.src) (bits.take 40))

/-- The security header leaves the decoder, once its symbols have come: the reception binds its key (R319). [DEDUCED, log 35] -/
def State.bindSec (s : State) (id : Rxid) (r : Rx) (h : Hdr) : State :=
  match r.tones with
  | none => s
  | some ts =>
    if !h.sec || !r.sechdr.isEmpty || r.paging || decide (r.syms.length - r.hdrSyms < secSyms h ts.length) then s
    else
      let r := { r with sechdr := secBytesOf h ts.length (s.paySoft r ts) }
      if kselReserved r.ksel then (s.modRx id fun _ => r).squash id Sq.HDR_INVALID
      else s.modRx id fun _ => { r with bound := s.rxKey r }

/-- The source of a decoded frame: a beacon's is a node of the domain its payload names (R82, R100), whatever head-end sent it (R88). -/
def Rx.sourceOf (r : Rx) (h : Hdr) (payload : List Byte) : Word :=
  if h.ft = 0 ∧ h.sec = false ∧ 2 ≤ payload.length then netAddr (leNat (payload.take 2) % 16384) h.src else r.src

/-- The payload block, decoded whole (R172): check, key, plaintext, provisional delivery and cut-through. [DEDUCED, log 38] -/
def State.decodePayload (s : State) (id : Rxid) (r : Rx) (h : Hdr) (tones : List Nat) : State :=
  let soft := s.paySoft r tones
  let block := decodeBlock (pseed h.hcs h.src) (mcRate h.mc) (mcRep h.mc) tones.length (h.len + 3) soft
  let fcsOk := fcsOf h.bytes (block.take h.len) == block.drop h.len
  let surveyed := h.ft = 5 && s.on F.DMD_SURV_CTL_EN
  let m := if surveyed then s.survey r h tones else (r.lotSnr, [])
  let rec_ := if surveyed && s.on F.DMD_SURV_CTL_REC then m.2 else []
  let s := if rec_.isEmpty then s else s.drawn 20
  let r := { r with block := block, fcsOk := fcsOk, snr := m.1, surv := rec_, level := r.levelCode, src := r.sourceOf h (block.take h.len) }
  let s := (s.modRx id fun _ => r).crcRxBytes id block true
  if h.sec && kselReserved r.ksel then s.squash id Sq.HDR_INVALID
  else
    let b := if !h.sec then none else if r.sechdr.isEmpty then s.rxKey r else r.bound
    let data : Option (List Byte) := if h.sec then b.map fun b => (s.openRx r h b).1 else some r.payload
    let s := s.modRx id fun r => { r with bound := b, plain := data.getD [] }
    match data with
    | none => s
    | some bs =>
      let s := match r.ring with | some k => s.fillResv k (.rx id) (bs ++ rec_) | none => s
      if s.collects then s.sendSegs id (r.copyHeader h ++ bs) else s

/-- Dticks after a frame's end by which its last frame-check bit is decoded, by preset (R28), with the excess of FIR_DLY (R131). -/
def State.vitBound (s : State) (n : Port) : Rat :=
  let p := s.preset n
  mkRat (([38, 44, 56, 80].getD p 38) * 3072) 125
    + (((s.fld (F.LPn_FIR_CTL_FIR_DLY n) - [24, 12, 8, 4].getD p 24) * samplePeriod p : Nat) : Rat)

/-- The frame-check bits of a reception come after that bound (R174). -/
def State.vitLate (s : State) (r : Rx) : Bool :=
  decide (r.lastSym + 18432 + ((s.rxPorts r.port).map s.vitBound).foldl max 0 < (s.now : Rat))

/-- VITERBI_DECODE: the pool delivers what it can of a reception's header or payload. Header work is held until the qualifier passes (R161) and while
the reception waits for a capture (R175, R176); a payload complete before its stall's page-in is LEDGER_BUSY (R189). [DEDUCED, log 38] -/
def execViterbiDecode (rxid : Rxid) (s : State) : Out :=
  match s.findRx rxid with
  | none => .next s
  | some r =>
    if !r.passed || r.capWaits then .next s
    else match r.hdr with
      | none => .next (s.decodeHeader rxid r)
      | some h =>
        if r.decoded then .next s
        else if !r.ctxs.isEmpty then .next (s.bindSec rxid r h)
        else if r.paging then .next (s.squash rxid Sq.LEDGER_BUSY)
        else match r.tones with
          | some ts => .next ((if s.vitLate r then s.flag F.DMD_FLAGS_VIT_LATE else s).decodePayload rxid r h ts)
          | none => .next s

/-- TAG_RESULT: the MIC check of a secured reception (R29, R302, R303). [DEDUCED, log 35] -/
def execTagResult (rxid : Rxid) (s : State) : Out :=
  match s.findRx rxid with
  | none => .next s
  | some r =>
    match r.hdr with
    | some h =>
      if !h.sec || !r.decoded || r.tagOk.isSome then .next s
      else match r.bound with
        | some b => .next (if (s.openRx r h b).2 then s.modRx rxid fun r => { r with tagOk := some true } else s.squash rxid Sq.TAG_FAIL)
        | none => .next (s.squash rxid Sq.TAG_FAIL)
    | none => .next s

end Sys2Proof.Machine
end

