-- ==== Sys2Proof/Machine/Commit.lean ====
section
/-! DEFINITION. From frame end to commit (R25-R31, R185-R207): ACK booking and decision, the follow-on downlink (R257), the commit with its
replay window and ephemeris (R244, R245, R288, R289), and the horizons (R31, R262). -/

namespace Sys2Proof.Machine

/-! ### ACK booking (R30, R202) -/

/-- The instant of a reception's frame end (R163). -/
def Rx.frameEnd (r : Rx) : Rat := r.lastSym + 18432

/-- The nearest multiple of 4 dticks, ties earlier (R218). -/
def gridOf (t : Rat) : Nat := (4 * (-((-(t / 4) + 1 / 2).floor))).toNat

/-- The FC that enters an ACK's token (R107). -/
def Rx.tokenFc (r : Rx) (h : Hdr) : Option Nat := if h.sec then some r.fc else none

/-- ACKREQ as R94 treats it. -/
def Hdr.wantsAck (h : Hdr) : Bool := h.ackreq && h.dst == 0

def State.ackOp (s : State) (id : Rxid) : Option TxOp := s.mac.ops.find? fun o => o.kind == TxKind.ack id

/-- An ACK's body without its status; empty while a secured frame's FC is not yet known (R107, R202). [DEDUCED, log 39] -/
def Rx.ackToken (r : Rx) (h : Hdr) : List Byte := if h.sec && r.secBytes.isEmpty then [] else ackBody (tokenOf h.bytes (r.tokenFc h)) 0

/-- Book the ACK of a reception in a queue entry, its body encoded but for the status (R30, R202). [DEDUCED, log 39] -/
def State.bookAck (s : State) (rxid : Rxid) (h : Hdr) : State :=
  match s.findRx rxid, s.freeEntry 0 120 with
  | some r, some i =>
    let o := { TxOp.blank with
      kind := .ack rxid, time := gridOf (r.frameEnd + 36864), port := r.port, pair := r.pair, gate := some rxid
      lots := r.lots.take 1, addr := r.src, plan := s.plan r.port, payload := r.ackToken h, fc := r.tokenFc h }
    let (s, id) := s.addOp i o
    s.modRx rxid fun r => { r with ack := some id }
  | _, _ => s

/-- ACK_BOOKING. -/
def execAckBooking (rxid : Rxid) (s : State) : Out :=
  match s.findRx rxid with
  | none => .next s
  | some r =>
    match r.hdr with
    | none => .next s
    | some h =>
      if !h.wantsAck || !s.txMode || !r.ctxs.isEmpty || r.decision.isSome || r.ack.isSome then .next s
      else .next ((s.bindSec rxid r h).bookAck rxid h)

/-! ### The decision (R190-R193) -/

/-- The slot a reception's frame starts in ends here (R113). -/
def State.rxSlotEnd (s : State) (r : Rx) : Int :=
  let st := match s.mac.windows.find? fun w => w.addr == r.src && decide (w.lo ≤ r.pre ∧ r.pre ≤ w.hi) with
    | some w => (w.slotAt : Int)
    | none => s.slotStart r.pre
  st + s.slotDticks

/-- The follow-on of R257: the stall's first stored descriptor and its launch, when it fits the slot. [DEDUCED, log 39] -/
def State.followOn (s : State) (r : Rx) (h : Hdr) : Option (Deferred × Nat) :=
  match r.stall with
  | none => none
  | some i =>
    match (if s.stallFlag i 4 then s.firstStored r.src else none), s.freeEntry 126 130 with
    | some d, some _ =>
      let plan := s.plan r.port
      let b := ackSyms (dataTones plan (r.lots.take 1)).length
      let t := gridOf (r.frameEnd + 18432 * ((2 + 4 + b + 1 : Nat) : Rat))
      let o := s.frameOp d.d (.deferred d.no) r.port r.lots h.mc 0 r.mask t none []
      if d.booked || decide (s.rxSlotEnd r < o.ends t) then none else some (d, t)
    | _, _ => none

/-- The ACK status of an outcome, 0 for none: 1 ACCEPTED, 2 DUPLICATE, 3 PENDING. [DEDUCED, log 39] -/
def State.ackStatus (s : State) (r : Rx) (h : Hdr) (out : Decision) : Nat :=
  if !h.wantsAck || !r.fcsOk || (s.ackOp r.rxid).isNone then 0
  else match out with
    | .duplicate => 2
    | .new => if (s.followOn r h).isSome then 3 else 1

/-- Another ACK for the same frame is booked within 1 sym (R191). -/
def State.twinAck (s : State) (r : Rx) (o : TxOp) : Bool :=
  s.mac.ops.any fun p =>
    (match p.kind with | .ack x => x != r.rxid | _ => false) && p.addr == r.src && p.fc.isSome && p.fc == some r.fc
      && p.status.isSome && decide (p.time ≤ o.time + symDticks ∧ o.time ≤ p.time + symDticks)

/-- The status field of an ACK's body (R107). -/
def withStatus (body : List Byte) (st : Nat) : List Byte := leBytes 3 (leNat body % 2 ^ 20 + 2 ^ 20 * st)

/-- The decision writes the status into the ACK's body, or cancels the action; nothing else of a body encoded at the booking changes (R202). [DEDUCED, log 39] -/
def State.decideAck (s : State) (r : Rx) (h : Hdr) (st : Nat) : State :=
  match s.ackOp r.rxid with
  | none => s
  | some o =>
    if st = 0 then s.cancelOp o
    else if st = 2 ∧ s.twinAck r o = true then s.cancelOp o
    else s.modOp o.id fun o =>
      let o := if o.payload.isEmpty then { o with payload := r.ackToken h, fc := r.tokenFc h } else o
      { o with payload := withStatus o.payload (st - 1), status := some (st - 1) }

/-- A reception's step 1 writes `v` to a ledger word and awaits it; what the word held is kept (R25). [DEDUCED, log 28] -/
def State.commitWord (s : State) (id : Rxid) (a v : Nat) : State :=
  let old := s.mramBytes a 4
  let s := s.mramIssue a ((leBytes 4 v).zipIdx.map fun p => (a + p.2, p.1)) (.commit [id])
  s.modRx id fun r => { r with waits := r.waits ++ [a], undo := r.undo ++ [(a, old)] }

/-- A word of step 1 is written and verified. -/
def State.stepDone (s : State) (id : Rxid) (a : Nat) : State := s.modRx id fun r => { r with waits := r.waits.filter (· != a) }

/-- A NEW outcome of this FC raises the stall's mark (R204, R289). -/
def State.raisesMark (s : State) (i fc : Nat) : Bool := replayPersists (s.window i).1 (s.window i).2.1 fc

/-- Step 1 of R25 for a new frame: the ADDR word of a new neighbour (R286), and the high-water word where the mark rises (R204, R289), but for
a word that a write for an earlier decision has already raised so far. A tentative stall for which no index is left has no word. [DEDUCED, log 28] -/
def State.startPersist (s : State) (r : Rx) (h : Hdr) : State :=
  match r.stall with
  | none => s
  | some i =>
    let s := if s.stallFlag i 5 then
        match s.indexFor i with
        | some c => (s.modRx r.rxid fun r => { r with record := some c }).commitWord r.rxid (addrWord c) r.src.toNat
        | none => s
      else s
    match s.markWord i with
    | none => s
    | some a =>
      if !h.sec || !s.raisesMark i r.fc || (r.marked && decide (r.fc ≤ s.mramLe a 4)) then s
      else s.commitWord r.rxid a r.fc

/-- The outcome and what follows at once. -/
def State.decideRx (s : State) (r : Rx) (h : Hdr) (out : Decision) : State :=
  let st := s.ackStatus r h out
  let follow := if st = 3 then s.followOn r h else none
  let s := match out with
    | .new => s.startPersist r h
    | .duplicate => s
  let s := s.modRx r.rxid fun r => { r with decision := some out, ackst := st }
  let s := s.decideAck r h st
  match follow with
  | some (d, t) => s.bookStored d r.port r.lots h.mc 0 r.mask t (some r.rxid)
  | none => s

/-- The verdicts of a reception are in, and it has no decision. -/
def Rx.ripe (r : Rx) (h : Hdr) : Bool := r.decoded && r.decision.isNone && (!h.sec || r.tagOk == some true)

/-- The decision of a reception that has its stall's lock (R190, R192). -/
def State.decideNow (s : State) (r : Rx) (h : Hdr) : State :=
  if !h.sec then (if r.fcsOk then s.decideRx r h .new else s.squash r.rxid Sq.FCS_FAIL)
  else match r.stall with
    | none => s
    | some i =>
      match s.replayOf i r.fc with
      | .new => s.decideRx r h .new
      | .dup => s.decideRx r h .duplicate
      | .old => s.squash r.rxid Sq.REPLAY_OLD

/-- The reception must wait for its stall's lock: a core or a decided reception has it, or one that asked before waits for it (R190, R207). -/
def State.mustWait (s : State) (r : Rx) : Bool :=
  match r.stall with
  | none => false
  | some i =>
    s.commitLocked i || s.coreLocked i || (match s.nextAsked i with | some x => x.rxid != r.rxid | none => false)

/-- A reception begins to wait for its stall's lock. A high-water write of the stall that waits too takes the highest FC for all (R204). [DEDUCED, log 28] -/
def State.askLock (s : State) (r : Rx) (h : Hdr) : State :=
  if r.asked then s
  else
    let turn := (s.dmd.rx.map (·.turn)).foldl max 0 + 1
    let s := s.modRx r.rxid fun r => { r with asked := true, turn := turn }
    match r.stall.bind fun i => (s.markWord i).map fun a => (i, a) with
    | some (i, a) =>
      if h.sec && s.raisesMark i r.fc && s.memu.mramPend.any (MramWrite.waitsFor · a) then
        (s.wordTo a (max r.fc (s.mramLe a 4))).modRx r.rxid fun r => { r with marked := true }
      else s
    | none => s

/-- The lock of stall i has been released: the receptions that wait for it take it in turn, until one holds it (R190, R356). -/
def State.serveLock : Nat → State → Nat → State
  | 0, s, _ => s
  | k + 1, s, i =>
    if s.commitLocked i || s.coreLocked i then s
    else match s.nextAsked i with
      | none => s
      | some r =>
        match r.hdr with
        | some h => State.serveLock k (s.decideNow r h) i
        | none => s

/-- Squash a decided reception; its lock goes to the next that waits for it. -/
def State.squashServe (s : State) (id : Rxid) (reason : Nat) : State :=
  let t := s.squash id reason
  match (s.findRx id).bind (·.stall) with | some i => State.serveLock 256 t i | none => t

/-- ACK_DECISION: with the verdicts in and the stall's lock free. -/
def execAckDecision (rxid : Rxid) (s : State) : Out :=
  match s.findRx rxid with
  | none => .next s
  | some r =>
    match r.hdr with
    | none => .next s
    | some h => if !r.ripe h then .next s else if s.mustWait r then .next (s.askLock r h) else .next (s.decideNow r h)

/-! ### The ephemeris (R243-R245) -/

/-- An ephemeris as its fields. -/
structure Eph where
  x        : Int
  v        : Int
  sx       : Nat
  sv       : Nat
  nmeas    : Nat
  empty    : Nat
  searches : Nat
deriving DecidableEq, Repr

def State.ephOf (s : State) (i : Nat) : Eph :=
  let f := fun o n => s.stallLe i (Rec.eph + o) n
  { x := signedOf 32 (f 0 4), v := signedOf 32 (f 4 4), sx := f 8 2, sv := f 10 2, nmeas := f 12 1 % 16, empty := f 12 1 / 16,
    searches := f 13 1 % 16 }

/-- [DEDUCED, log 42] -/
def Eph.bytes (e : Eph) : List Byte :=
  leBytes 4 (toTwos 32 e.x) ++ leBytes 4 (toTwos 32 e.v) ++ leBytes 2 (min 65535 e.sx) ++ leBytes 2 (min 65535 e.sv)
    ++ leBytes 1 (min 15 e.nmeas + 16 * min 15 e.empty) ++ leBytes 1 (min 15 e.searches)

def State.setEph (s : State) (i : Nat) (e : Eph) : State := s.setStall i Rec.eph e.bytes

/-- Settings of the update. -/
structure EphSet where
  a     : Nat
  b     : Nat
  sxTc  : Nat
  svTc  : Nat
  sig   : Nat
  floor : Nat
deriving DecidableEq, Repr

def State.ephSet (s : State) : EphSet :=
  { a := s.fld F.MAC_EPH_CTL_A, b := s.fld F.MAC_EPH_CTL_B, sxTc := s.fld F.MAC_EPH_CTL_SX_TC, svTc := s.fld F.MAC_EPH_CTL_SV_TC,
    sig := s.fld F.MAC_EPH_LIM_SIG_MEAS, floor := s.fld F.MAC_EPH_LIM_RATE_FLOOR }

/-- 50 ppm in units of 2^-40, and V as a rate. -/
def rateCap : Rat := 50 * 1099511627776 / 1000000
def Eph.rate (e : Eph) : Rat := (e.v : Rat) / 1099511627776


/-- The update of R244: d = a - n, D the time since the beacon the sender timed from, m its MISS. -/
def Eph.update (e : Eph) (k : EphSet) (d dd : Rat) (m : Nat) : Eph :=
  let e' :=
    if e.nmeas = 0 then { e with x := roundUp (d - e.rate * dd), sx := k.sig }
    else
      let r := d - ((e.x : Rat) + e.rate * dd)
      if m = 0 then
        { e with
          x := roundUp ((e.x : Rat) + r * mkRat 1 (2 ^ k.a))
          sx := (roundUp (max (k.sig : Rat) ((e.sx : Rat) + (absRat r - (e.sx : Rat)) * mkRat 1 (2 ^ k.sxTc)))).toNat }
      else
        { e with
          v := roundUp (clampRat (-rateCap) rateCap ((e.v : Rat) + r / dd * 1099511627776 * mkRat 1 (2 ^ k.b)))
          sv := (roundUp (max (k.floor : Rat) ((e.sv : Rat) + (absRat r / dd * 1000000000 - (e.sv : Rat)) * mkRat 1 (2 ^ k.svTc)))).toNat }
  { e' with nmeas := min 15 (e.nmeas + 1) }

def State.missLimit (s : State) : Nat := max 1 (s.fld F.MAC_SEARCH_MISS_LIMIT)

/-- The window of a stall's address that holds a preamble start. [DEDUCED, log 37] -/
def State.ownWindow (s : State) (r : Rx) : Option Window :=
  s.mac.windows.find? fun w => (s.rxPorts r.port).contains w.port && w.addr == r.src && decide (w.lo ≤ r.pre ∧ r.pre ≤ w.hi)

/-- The re-seed of R245. -/
def State.reseed (s : State) (i : Nat) (pre : Int) : State :=
  let off := pre - (s.mac.cur.start : Int)
  let x := off - (off + 9216) / 18432 * 18432
  let lost := s.stallState i == 3
  let s := s.setEph i { x := x, v := 0, sx := s.fld F.MAC_EPH_LIM_SIG_MEAS, sv := s.fld F.MAC_EPH_SEED_SEED_RATE, nmeas := 1, empty := 0, searches := 0 }
  if lost then
    (s.setStallState i 1).raise Ev.STALL_FOUND Src.macWalker (BitVec.ofNat 32 (s.stallLe i Rec.addr 4 % 2 ^ 18)) 0
  else s

/-- A new frame's effect on its stall's ephemeris: in an OPEN slot a stall that has lost its time is seeded anew (R245), whatever window the
frame also met; else the frame is a measurement of its own window (R244). [DEDUCED, log 37] -/
def State.ephemeris (s : State) (i : Nat) (r : Rx) (h : Hdr) : State :=
  let e := s.ephOf i
  if s.openSlot r.tB && (s.stallState i == 3 || decide (s.missLimit ≤ e.empty) || e.nmeas == 0) then s.reseed i r.pre
  else match s.ownWindow r with
  | some w =>
    if s.stallState i = 1 ∨ s.stallState i = 2 then
      let dd : Rat := (((w.slotAt : Int) - w.sfAt + ((h.miss * 2 ^ w.w * s.sfDticks : Nat) : Int) : Int) : Rat)
      s.setEph i (e.update s.ephSet ((r.pre - (w.slotAt : Int) : Int) : Rat) dd (if h.sh then h.miss else 0))
    else s
  | none => s

/-! ### Commit -/

/-- Step 2 of R25 for a new frame on stall i. [DEDUCED, log 31] -/
def State.commitNew (s : State) (i : Nat) (r : Rx) (h : Hdr) : State :=
  let s := if h.sec then s.replayCommit i r.fc else s
  let s := s.setStallLe i Rec.rxnew 2 ((s.stallLe i Rec.rxnew 2 + 1) % 65536)
  let s := if h.sec && !r.fcsOk then s.setStallLe i Rec.fcsbad 1 (min 255 (s.stallLe i Rec.fcsbad 1 + 1)) else s
  let s := r.snr.foldl (fun (s : State) p => s.setStallLe i (Rec.snr + p.1) 1 p.2) s
  s.ephemeris i r h

/-- The stall's side of a commit; false when a new neighbour finds no record index or directory entry. -/
def State.commitStall (s : State) (r : Rx) (h : Hdr) (out : Decision) : State × Bool :=
  match r.stall with
  | none => (s, true)
  | some i =>
    let s := s.touch i
    match out with
    | .duplicate => (s.setStallLe i Rec.rxdup 1 (min 255 (s.stallLe i Rec.rxdup 1 + 1)), true)
    | .new =>
      let (s, ok) := match s.stallFlag i 5, r.record with
        | true, some c => s.adopt i c
        | true, none => (s, false)
        | false, _ => (s, true)
      if ok then (s.commitNew i r h, true) else (s, false)

/-- Steps 3 and 4 of R25, the tally, the gates and the RXID. -/
def State.commitVisible (s : State) (r : Rx) (h : Hdr) (out : Decision) : State :=
  let bad := h.sec && !r.fcsOk
  let isNew := out == Decision.new
  let s := if 0 < r.sent then s.ulkSend 10 0 r.rxid.toNat [BitVec.ofNat 8 (bad.toNat + 2 * (!isNew).toNat)] else s
  let s := s.modMac fun m =>
    { m with windows := m.windows.map fun w =>
        if (s.rxPorts r.port).contains w.port && w.addr == r.src && decide (w.lo ≤ r.pre ∧ r.pre ≤ w.hi) then { w with hit := true } else w }
  let ring := match r.ring with | some k => k.val | none => 0
  let data := (if h.sec then r.plain else r.payload) ++ r.surv
  let s := match r.ring with
    | some k => s.settle k (.rx r.rxid) (if isNew then .done else .skip) (r.fields 0 (bad && isNew)) (if isNew then data else [])
    | none => s
  let s := if isNew then s.tally 0 else s.tally 1
  let s := if bad && isNew then s.tally 2 else s
  let s := s.tally (35 + 4 * r.port)
  let s := s.raise (if isNew then Ev.RX_DELIVERED else Ev.RX_DUPLICATE) Src.lgrCommit (r.rxid.setWidth 32) ring
  let s := if r.late then s.raise Ev.ACK_CANCELLED Src.macQueue (r.rxid.setWidth 32) 0 else s
  (((s.removeRx r.rxid).openGates r.rxid)).freeRxid r.rxid

/-- COMMIT (R25): step 1 is complete. The lock of its stall then goes to the reception that waits for it (R190). -/
def execCommit (rxid : Rxid) (s : State) : Out :=
  match s.findRx rxid with
  | none => .next s
  | some r =>
    match r.hdr, r.decision with
    | some h, some out =>
      if !r.waits.isEmpty then .next s
      else
        let s := match s.commitStall r h out with
          | (s, true) => s.commitVisible r h out
          | (s, false) => s.ledgerFull rxid r.src
        .next (match r.stall with | some i => State.serveLock 256 s i | none => s)
    | _, _ => .next s

/-! ### Horizons -/

/-- ACK_COMMIT_HORIZON (R31): an ACK whose reception has not committed is cancelled. -/
def execAckCommitHorizon (rxid : Rxid) (s : State) : Out :=
  match s.ackOp rxid with
  | some o => .next (if o.gate.isSome then (s.modRx rxid fun r => { r with late := true }).cancelOp o else s)
  | none => .next s

/-- GATE_HORIZON (R262): an action still gated is cancelled and reported. -/
def execGateHorizon (index : Fin 256) (s : State) : Out :=
  match s.mac.ops.find? fun o => o.inQueue && o.index == index.val && o.gate.isSome && (match o.kind with | .ack _ => false | _ => true) with
  | some o => .next (s.dropOp o Drop.gate)
  | none =>
    match s.mac.events.find? fun e => e.index == index.val && e.gate.isSome with
    | some e =>
      let s := s.modMac fun m => { m with events := m.events.filter fun x => x.index != index.val }
      let s := s.raiseTo Ev.TX_DROPPED Src.macQueue 0 Drop.gate (coreMask e.core) s.stamp
      .next (match e.gate with | some id => s.freeRxid id | none => s)
    | none => .next s

end Sys2Proof.Machine
end

