-- ==== Sys2Proof/Machine/Memories.lean ====
section
/-! DEFINITION. The march test and repair (R392-R398) and the DDR controller's training and regions (R404-R408). -/

namespace Sys2Proof.Machine

/-! ### Repair record (R398) -/

/-- Where bank b's entry of the repair record lies. -/
def repairAddr (b : Nat) : Nat := mramBase + 0x301000 + 16 * b

/-- A spare of the record is in use: bit 15 of its 16-bit field. -/
def State.spareUsed (s : State) (a : Nat) : Bool := (s.mramByte (a + 1)).getLsbD 7

/-- Write a 16-bit field of the record. -/
def State.setRepair (s : State) (a v : Nat) : State := s.mramRecord (.record .repair) a (leBytes 2 v)

/-- MEM_REPAIR_STAT as the record stands (R398). -/
def State.showRepair (s : State) : State :=
  let banks := List.range 64
  let count (p : Nat → Bool) : Nat := (banks.filter p).length
  let rows := count (fun b => s.spareUsed (repairAddr b)) + count (fun b => s.spareUsed (repairAddr b + 2))
  let cols := count fun b => s.spareUsed (repairAddr b + 4)
  let pend := count fun b => s.spareUsed (repairAddr b + 6)
  ((s.setFld F.MEM_REPAIR_STAT_PENDING pend).setFld F.MEM_REPAIR_STAT_ROWS rows).setFld F.MEM_REPAIR_STAT_COLS cols

/-- Recompute the record's CRC-32C and MEM_REPAIR_STAT (R398). -/
def State.closeRepair (s : State) : State :=
  (s.mramRecord (.record .repair) (mramBase + 0x301400) (crcStored .crc32c (s.mramBytes (mramBase + 0x301000) 1024))).showRepair

/-- Drop repeats. -/
def dedupNat : List Nat → List Nat
  | [] => []
  | x :: xs => if xs.contains x then dedupNat xs else x :: dedupNat xs

/-- Rows still faulty when the cells of one column are repaired. -/
def rowsWithout (cells : List (Fin 512 × Fin 1024)) (c : Option Nat) : List Nat :=
  dedupNat ((cells.filter fun p => some p.2.val != c).map (·.1.val))

/-- The columns to which the faults of some row are confined. -/
def columnFaults (cells : List (Fin 512 × Fin 1024)) : List Nat :=
  dedupNat ((cells.filter fun p => cells.all fun q => q.1 != p.1 || q.2 == p.2).map (·.2.val))

/-- Bank b fails (R396). [DESIGN CHOICE, log 29] -/
def State.failBank (s : State) (b : Nat) : State :=
  let s := s.mramRecord (.record .repair) (repairAddr b + 8) [1]
  let s := s.flag F.MEM_FLAGS_BANK_FAIL
  if b < 32 then s.flagBit F.MEM_BANK_FAIL_LO_FAIL b else s.flagBit F.MEM_BANK_FAIL_HI_FAIL (b - 32)

/-- Repair a bank after a destructive run (R396): faults confined to one column take the spare column, the remaining rows the spare rows; where
they exceed the spares, or the bank still fails with them, it is failed. The answer is R397's result. [DESIGN CHOICE, log 29] -/
def State.repairBank (s : State) (f : BankFault) : State × Nat :=
  let a := repairAddr f.bank.val
  let freeRows := (if s.spareUsed a then [] else [a]) ++ (if s.spareUsed (a + 2) then [] else [a + 2])
  let cands := (if s.spareUsed (a + 4) then [] else (columnFaults f.cells).map some) ++ [none]
  if f.cells.isEmpty then (s, 0)
  else match cands.find? fun c => decide ((rowsWithout f.cells c).length ≤ freeRows.length) with
    | some c =>
      let s := match c with
        | some col => s.setRepair (a + 4) (0x8000 + col)
        | none => s
      let s := (freeRows.zip (rowsWithout f.cells c)).foldl (fun s p => s.setRepair p.1 (0x8000 + p.2)) s
      let s := s.setRepair (a + 6) 0
      if f.stillFails then (s.failBank f.bank.val, 3) else (s, 1)
    | none => (s.failBank f.bank.val, 3)

/-- Note a transparent run's faults as pending (R397). -/
def State.pendBank (s : State) (f : BankFault) : State × Nat :=
  if f.cells.isEmpty then (s, 0)
  else
    let cols := dedupNat (f.cells.map (·.2.val))
    let c := if cols.length = 1 then cols.headD 0x3FF else 0x3FF
    (s.setRepair (repairAddr f.bank.val + 6) (0x8000 + c), 2)

/-- Zero a whole SRAM bank; of banks 8-19 what stands in the TCM windows. [DESIGN CHOICE, log 29] -/
def State.zeroBank (s : State) (b : Nat) : State :=
  let s := s.clearRange (bankBase b) (bankBase b + 0x10000) s.fills
  let clear := fun (s : State) (a n : Nat) => s.clearRange a (a + n) s.fills
  if 8 ≤ b ∧ b < 16 then clear s (tcmBase + 0x20000 * (b - 8)) 0x10000
  else if 16 ≤ b ∧ b < 20 then clear (clear s (tcmBase + 0x40000 * (b - 16) + 0x10000) 0x8000) (tcmBase + 0x40000 * (b - 16) + 0x30000) 0x8000
  else s

/-- A bank is among those of a run. -/
def MarchRun.names (m : MarchRun) (b : Nat) : Bool := b / 8 == m.group && m.mask.getLsbD (b % 8)

/-- End a run of one group: repairs or notes the faults of its banks, reports the worst result and raises MARCH_DONE (R397); `applied` are the
banks whose pending repair was applied before the run. [DESIGN CHOICE, log 29] -/
def State.endMarch (s : State) (m : MarchRun) (faults : List BankFault) (applied : List Nat) : State :=
  let mine := faults.filter fun f => m.names f.bank.val
  let s := { s with memu := { s.memu with march := none } }
  let s := if m.destructive then
      allEight.foldl (fun s (i : Fin 8) => if m.mask.getLsbD i then s.zeroBank (8 * m.group + i) else s) s
    else s
  let (s, worst) := mine.foldl (fun (p : State × Nat) f =>
    let (s, r) := if m.destructive then p.1.repairBank f else p.1.pendBank f
    (s, max p.2 r)) (s, if applied.any m.names then 1 else 0)
  let s := if mine.isEmpty then s else s.closeRepair
  let s := ((s.setFld F.MEM_MARCH_STAT_GROUP m.group).setFld F.MEM_MARCH_STAT_MASK m.mask.toNat).setFld F.MEM_MARCH_STAT_BUSY 0
  let s := s.setFld F.MEM_MARCH_STAT_RESULT worst
  s.raise Ev.MARCH_DONE Src.memMarch (BitVec.ofNat 32 (m.group * 256 + m.mask.toNat)) worst

/-- Every bank of a mask within group g lies in 20 to 35 (R397). -/
def sharedBanks (g : Nat) (mask : BitVec 8) : Bool :=
  allEight.all fun (i : Fin 8) => !mask.getLsbD i || decide (20 ≤ 8 * g + i ∧ 8 * g + i ≤ 35)

/-- A write of MEM_MARCH_CTL (R397). -/
def State.writeMarchCtl (s : State) (v : Word) : State :=
  let s := s.setReg R.MEM_MARCH_CTL (v &&& 0x000107FF)
  if !v.getLsbD 31 then s
  else
    let g := natBits v.toNat 10 8
    let mask : BitVec 8 := v.setWidth 8
    let destr := v.getLsbD 16
    if s.memu.march.isSome || mask == 0 || (destr && !sharedBanks g mask) then s.flag F.MEM_FLAGS_MARCH_REFUSED
    else
      let s := { s with memu := { s.memu with march := some ⟨destr, g, mask⟩ } }
      ((s.setFld F.MEM_MARCH_STAT_BUSY 1).setFld F.MEM_MARCH_STAT_GROUP g).setFld F.MEM_MARCH_STAT_MASK mask.toNat

/-- MARCH_REQUEST (R397). -/
def execMarchRequest (v : Word) (s : State) : Out := .next (s.writeMarchCtl v)

/-- MARCH_DONE (R396, R397); with no run in progress nothing ends. -/
def execMarchDone (faults : List BankFault) (s : State) : Out :=
  match s.memu.march with
  | some m => .next (s.endMarch m faults [])
  | none => .next s

/-! ### External memory (R404-R408) -/

/-- A write of DDR_CTL (R405): TRAIN with EN starts training; clearing EN takes the memory out of service. The DDR PLL locks on its enable
(R527), but not in LASTGASP, where the memory has no power. [DESIGN CHOICE, log 26] -/
def State.writeDdrCtl (s : State) (v : Word) : State :=
  let s := s.setReg R.DDR_CTL (v &&& 0x00FF0121)
  let lock := s.fld F.SYS_STAT_LOCK &&& 3
  let s := s.setFld F.SYS_STAT_LOCK (if v.getLsbD 0 && s.sys.mode != .lastgasp then lock ||| 4 else lock)
  if !v.getLsbD 0 then (s.setFld F.DDR_STAT_READY 0).setFld F.DDR_STAT_TRAINING 0
  else if v.getLsbD 4 then (s.setFld F.DDR_STAT_READY 0).setFld F.DDR_STAT_TRAINING 1
  else s

/-- DDR_TRAIN (R405). [DESIGN CHOICE, log 29] -/
def execDdrTrain (v : Word) (s : State) : Out := .next (s.writeDdrCtl v)

/-- DDR_READY: training ends (R405). [DESIGN CHOICE, log 12] -/
def execDdrReady (ok : Bool) (density : BitVec 2) (s : State) : Out :=
  if !s.on F.DDR_STAT_TRAINING || s.sys.mode == .lastgasp then .next s
  else
    let s := s.setFld F.DDR_STAT_TRAINING 0
    if ok then
      let s := s.mramRecord (.record .training) (mramBase + 0x302000) ((List.range 2048).map fun i => Config.trainingByte density i)
      let s := (s.setFld F.DDR_STAT_SIZE density.toNat).setFld F.DDR_STAT_READY 1
      .next (s.raise Ev.DDR_READY Src.ddrCtl 0 0)
    else .next (s.flag F.DDR_FLAGS_TRAIN_FAIL)

/-- The controller and memory are powered down, and external contents are lost (R405). [DEDUCED, log 48] -/
def State.ddrOff (s : State) : State :=
  let s := (s.setFld F.DDR_STAT_READY 0).setFld F.DDR_STAT_TRAINING 0
  let s := { s with memu := { s.memu with ddrFill := [], ddrSweep := [] } }
  (s.setFld F.SYS_STAT_LOCK (s.fld F.SYS_STAT_LOCK &&& 3)).clearRange extBase 0x100000000 []

/-- DDR_RETRACK (R405): the delay is retracked; traffic pauses for at most 1 us and nothing the device holds changes. -/
def execDdrRetrack (s : State) : Out := .next s

/-- DDR_REFRESH (R405): refreshing goes on at the rate MR4 reports, which DDR_STAT.TEMP shows. -/
def execDdrRefresh (rate : BitVec 3) (s : State) : Out :=
  .next (if s.on F.DDR_STAT_READY then s.setFld F.DDR_STAT_TEMP rate.toNat else s)

/-- Two ranges meet. -/
def overlap (a n b m : Nat) : Bool := decide (a < b + m ∧ b < a + n)

/-- The conditions of R407 (and R323, R406) under which region r may be enabled. -/
def State.regionAllowed (s : State) (r : Nat) : Bool :=
  let mode := s.fld (F.DDR_RrCTL_MODE r)
  let base := s.regionBase r
  let size := s.regionSize r
  let keyOk := match s.namedKey (s.fld (F.DDR_RrCTL_SLOT r)) with
    | some k => k.policy == 3 && k.alg == (if mode = 1 then 2 else 1)
    | none => false
  let others := (List.range 8).filter fun q => q != r && s.on (F.DDR_RrCTL_EN q)
  let gcm (q : Nat) : Bool := s.fld (F.DDR_RrCTL_MODE q) == 2
  let clear := others.all fun q =>
    !overlap base size (s.regionBase q) (s.regionSize q) &&
    !(gcm q && overlap base size (s.regionTag q) (s.regionSize q / 16)) &&
    !(mode == 2 && overlap (s.regionTag r) (size / 16) (s.regionBase q) (s.regionSize q)) &&
    !(mode == 2 && gcm q && decide (2 ≤ r ∧ 2 ≤ q) &&
      overlap (s.fld (F.DDR_RrCTL_VOFS r) * 1024) (size / 128) (s.fld (F.DDR_RrCTL_VOFS q) * 1024) (s.regionSize q / 128))
  s.on F.DDR_STAT_READY && keyOk && (mode == 1 || mode == 2) && (decide (2 ≤ r) || mode == 2) && clear &&
    decide (extBase ≤ base ∧ base - extBase + size ≤ s.fitted) &&
    (mode == 1 || !overlap (s.regionTag r) (size / 16) base size) &&
    (mode == 1 || decide (r < 2) || decide (s.fld (F.DDR_RrCTL_VOFS r) * 1024 + size / 128 ≤ 32768))

/-- A write of DDR_RrCTL (R407, R408). -/
def State.writeRegionCtl (s : State) (r : Fin 8) (v : Word) : State :=
  if s.on (F.DDR_RrCTL_EN r) then
    if !v.getLsbD 0 then (s.setFld (F.DDR_RrCTL_EN r) 0).setFld (F.DDR_RrCTL_READY r) 0
    else if v.getLsbD 1 && decide (2 ≤ r.val) && s.fld (F.DDR_RrCTL_MODE r) == 2 then s.startSweep r
    else s
  else
    let s := ((s.setFld (F.DDR_RrCTL_SLOT r) (natBits v.toNat 23 16)).setFld (F.DDR_RrCTL_MODE r) (natBits v.toNat 5 4)).setFld
      (F.DDR_RrCTL_VOFS r) (natBits v.toNat 12 8)
    if !v.getLsbD 0 then s
    else if s.regionAllowed r then
      let s := (s.setFld (F.DDR_RrCTL_EN r) 1).setFld (F.DDR_RrCTL_KEYLOST r) 0
      if s.fld (F.DDR_RrCTL_MODE r) = 1 then s.setFld (F.DDR_RrCTL_READY r) 1
      else { s with memu := { s.memu with ddrFill := s.memu.ddrFill ++ [r] } }
    else s.flag F.DDR_FLAGS_CFG_ERR

/-- DDR_REGION_ENABLE: the write of DDR_RrCTL (R407). -/
def execDdrRegionEnable (r : Fin 8) (v : Word) (s : State) : Out := .next (s.writeRegionCtl r v)

/-- The zero-fill of GCM region r ends: every line holds zeros under version 0 and GEN, and READY sets (R407). [DEDUCED, log 32] -/
def State.regionFilled (s : State) (r : Fin 8) : State :=
  if !s.memu.ddrFill.contains r then s
  else
    let s := { s with memu := { s.memu with ddrFill := s.memu.ddrFill.filter (· != r) } }
    match s.regionSeal r with
    | none => s
    | some key =>
      if !s.on (F.DDR_RrCTL_EN r) then s
      else
        let b := s.regionBase r
        let n := s.regionSize r
        let t := s.regionTag r
        let f : Fill := ⟨r, key, s.regionGen r, b, n, t⟩
        let s := s.clearRange b (b + n) s.fills
        let s := s.clearRange t (t + n / 16) (f :: s.fills)
        let s := s.clearRange (s.versionAddr r 0) (s.versionAddr r (n / 128)) s.fills
        s.setFld (F.DDR_RrCTL_READY r) 1

/-- DDR_REGION_READY (R407). -/
def execDdrRegionReady (r : Fin 8) (s : State) : Out := .next (s.regionFilled r)

/-- DDR_REGION_SWEEP: a SWEEP write, or a version reaching 0xFF00, in an enabled general GCM region (R408). -/
def execDdrRegionSweep (r : Fin 8) (s : State) : Out :=
  .next (if decide (2 ≤ r.val) && s.on (F.DDR_RrCTL_EN r) && s.fld (F.DDR_RrCTL_MODE r) == 2 then s.startSweep r else s)

/-- Line x of region r under its old generation: its data, and whether it verifies. -/
def State.oldLine (s : State) (r : Nat) (key : List Byte) (x : Nat) : List Byte × Bool :=
  gcmOpen key (gcmLineIv r x (s.version r x) (s.regionGen r)) [] (s.bytes (s.regionBase r + 128 * x) 128) (s.bytes (s.regionTag r + 8 * x) 8)

/-- Rewrite line x of region r from the old generation to the new one at version 0 (R408); a line that fails its check stays as it
is and goes on failing. -/
def State.resealLine (s : State) (r : Nat) (key : List Byte) (x : Nat) : State :=
  let res := s.oldLine r key x
  let s' := s.setVersion r x 0
  if res.2 then
    let (ct, tag) := gcmLineSeal key r x 0 (s.regionGenReg r) res.1
    (s'.setBytes (s.regionBase r + 128 * x) ct).setBytes (s.regionTag r + 8 * x) tag
  else s'

/-- The lines of region r that a sweep finds to fail. -/
def State.failingLines (s : State) (r : Nat) : List Nat :=
  match s.regionKey r with
  | some key => (List.range (s.regionSize r / 128)).filter fun x => !(s.oldLine r key x).2
  | none => []

/-- Rewrite every line of region r in index order (R280, R408). -/
def State.resealRegion (s : State) (r : Nat) : State :=
  match s.regionKey r with
  | none => s
  | some key => (List.range (s.regionSize r / 128)).foldl (fun s x => s.resealLine r key x) s

/-- DDR_SWEEP_COMPLETE (R408). -/
def execDdrSweepComplete (r : Fin 8) (s : State) : Out :=
  if s.memu.ddrSweep.contains r then
    let s := s.resealRegion r
    let s := { s with memu := { s.memu with ddrSweep := s.memu.ddrSweep.filter (· != r) } }
    .next (s.setFld (F.DDR_RrCTL_SWEEPING r) 0)
  else .next s

/-- The key in `slot` is zeroised: the regions under it are disabled in the same cycle (R411). -/
def State.dropRegions (s : State) (p : Nat → Bool) : State :=
  allEight.foldl (fun s (r : Fin 8) =>
    if s.on (F.DDR_RrCTL_EN r) && p (s.fld (F.DDR_RrCTL_SLOT r)) then
      let s := (s.setFld (F.DDR_RrCTL_EN r) 0).setFld (F.DDR_RrCTL_READY r) 0
      (s.flag (F.DDR_RrCTL_KEYLOST r)).flag F.DDR_FLAGS_KEYLOST
    else s) s

end Sys2Proof.Machine
end

