-- ==== Sys2Proof/Machine/TxWave.lean ====
section
/-! DEFINITION. The samples of the transmit path: the waveform of a symbol with its amplitudes (R47, R211), cyclic prefix and taper (R214), the
stream sum, interpolation and shaping (R215, R216), saturation, the gate, the DAC and the count of clipped samples (R217). -/

namespace Sys2Proof.Machine

/-! ### Stages 1 to 3: a frame's waveform -/

/-- The peak amplitude in DAC codes of tone k (R211). -/
def OnLine.amplitude (e : OnLine) (k : Nat) : Rat := 8191 * quarterDb (-((e.level + (kget? e.att k).getD 0 : Nat) : Int))

/-- x(t) of a symbol `t` dticks after its start: the phases refer to the end of the cyclic prefix, which is thus the end of the useful part
(R47). -/
def OnLine.symbolAt (e : OnLine) (ts : List (Nat × Nat)) (t : Int) : Rat :=
  sumRat (ts.map fun k => e.amplitude k.1 * (cis (mkRat ((k.1 : Int) * (t - 2048)) 16384 + mkRat k.2 4)).re)

/-- The weight of a raised-cosine edge of `w` dticks at half of `d2` dticks from its middle (R214). [DESIGN CHOICE, log 60] -/
def edge (w : Nat) (d2 : Int) : Rat :=
  if (w : Int) ≤ d2 then 1 else if d2 ≤ -(w : Int) then 0 else (1 + (cis (mkRat d2 (4 * w))).im) / 2

/-- The weight of symbol i of the frame at `t` dticks after launch: each boundary is crossfaded about its middle, the rise of the first symbol begins at
the boundary itself, and the fall of the last one is centred on frame end (R214). -/
def OnLine.weight (e : OnLine) (i : Nat) (t : Int) : Rat :=
  let w := 16 * e.taper
  let rise := if i = 0 then edge w (2 * t - w) else edge w (2 * (t - i * symDticks))
  rise * (1 - edge w (2 * (t - (i + 1) * symDticks)))

/-- Stage 3 of a frame at instant t: the symbol on the line and its two neighbours. -/
def OnLine.streamAt (e : OnLine) (t : Int) : Rat :=
  let u := t - e.launch
  let i := u / symDticks
  sumRat ([i - 1, i, i + 1].map fun (j : Int) =>
    if j < 0 then 0 else match e.symbols[j.toNat]? with
      | some ts => e.weight j.toNat u * e.symbolAt ts (u - j * symDticks)
      | none => 0)

/-- The instant of frame end: the end of its last symbol, or of the one it was cut in. -/
def OnLine.ends (e : OnLine) : Nat := (e.stop.getD (e.launch + e.symbols.length * symDticks))

/-! ### Stages 4 to 7: a port -/

/-- The frames a port plays at t. -/
def State.playing (s : State) (n : Port) (t : Int) : List OnLine :=
  s.mac.line.filter fun e => e.port == n && e.stop.all fun x => decide (t < x)

/-- Stage 4: the sum of the streams. -/
def State.streamSum (s : State) (n : Port) (t : Int) : Rat := sumRat ((s.playing n t).map fun e => e.streamAt t)

/-- The interpolator of R215: the samples of stage 4, one in 16 dticks, are filtered at one in 4. [DESIGN CHOICE, log 60] -/
def interpolate (x : Int → Rat) (t : Int) : Rat :=
  let c := Config.interpolator.length / 2
  sumRat (Config.interpolator.zipIdx.map fun p =>
    let u := t + 4 * ((c : Int) - p.2)
    if u % 16 = 0 then p.1 * x u else 0)

/-- The interpolator's power response at `f` kHz, 1 for a stream passed at its own level: one sample in four is one of the stream. -/
def tapResponse (h : List Rat) (f : Rat) : Rat := (sumVec (h.zipIdx.map fun p => Cplx.scale (p.1 / 4) (cis (f * (p.2 : Nat) / 6144)))).sq

/-- What R215 asks of the interpolator's taps: flat within 0.05 dB (a power ratio of 10^(1/200)) from 12.0 to 490.5 kHz, and 70 dB down from
1,045.5 kHz to 2.6 MHz. [DESIGN CHOICE, log 60] -/
def MeetsR215 (h : List Rat) : Prop :=
  (∀ f : Rat, 12 ≤ f → f ≤ 981 / 2 → powRat (tapResponse h f) 200 ≤ 10 ∧ 1 ≤ 10 * powRat (tapResponse h f) 200) ∧
  (∀ f : Rat, 2091 / 2 ≤ f → f ≤ 2600 → 10000000 * tapResponse h f ≤ 1)

/-- SHP_DLY in DAC samples. -/
def State.shpDly (s : State) (n : Port) : Nat := s.fld (F.TXP_PnSHP_CTL_SHP_DLY n)

/-- The shaping FIR (R215), started SHP_DLY samples early so that the output of s[SHP_DLY] lands on its instant (R216). -/
def State.shaped (s : State) (n : Port) (x : Int → Rat) (t : Int) : Rat :=
  sumRat ((List.range 48).map fun i =>
    let c := signedOf 18 ((s.reg (R.TXP_PnSHPt n i)).toNat % 2 ^ 18)
    if c = 0 then 0 else mkRat c 65536 * x (t + 4 * ((s.shpDly n : Int) - i)))

/-- A port's sample before saturation. -/
def State.dacSum (s : State) (n : Port) (t : Int) : Rat := s.shaped n (interpolate (s.streamSum n)) t

/-- The instants for which the gate passes a frame's samples: from the first sample that s[0] makes to the last of the falling taper that s[47]
makes, or to its cut. [DESIGN CHOICE, log 60] -/
def State.gateSpan (s : State) (e : OnLine) : Int × Int :=
  ((e.launch : Int) - 4 * s.shpDly e.port,
    match e.stop with
    | some t => t
    | none => ((e.ends + 8 * e.taper : Nat) : Int) + 4 * (47 - (s.shpDly e.port : Int)))

def State.gateOpen (s : State) (n : Port) (t : Int) : Bool :=
  s.fldBit F.TXP_CTL_PORT_EN n && (s.playing n t).any fun e => decide ((s.gateSpan e).1 ≤ t ∧ t < (s.gateSpan e).2)

/-- A sample outside the range of the DAC. -/
def outOfRange (x : Rat) : Bool := decide (8191 < x ∨ x < -8191)

/-- The code of port n's DAC at instant t, a multiple of 4 dticks: the saturated sample, and 0 outside transmission (R217). [DESIGN CHOICE, log 60] -/
def State.dacAt (s : State) (n : Port) (t : Int) : Int :=
  if s.gateOpen n t then roundUp (clampRat (-8191) 8191 (s.dacSum n t)) else 0

/-! ### Clipped samples (R217) -/

/-- Clipped samples of port n at the DAC instants from `a` to before `b`. -/
def State.clips (s : State) (n : Port) (a b : Nat) : Nat :=
  ((List.range ((b + 3) / 4 - (a + 3) / 4)).filter fun i =>
    let t : Int := 4 * ((a + 3) / 4 + i : Nat)
    s.gateOpen n t && outOfRange (s.dacSum n t)).length

/-- Count port n's clipped samples up to now, and forget the frames whose last sample has left. [DESIGN CHOICE, log 60] -/
def State.countClips (s : State) (n : Port) : State :=
  if !s.mac.line.any (fun e => e.port == n) then s
  else
    let c := s.clips n (s.mac.counted.getD n 0) s.now
    let s := if c = 0 then s else (s.bump (R.TAL_CNTi (34 + 4 * n)) c).flag F.TXP_FLAGS_TX_CLIP
    s.modMac fun m =>
      { m with counted := lmod m.counted n fun _ => s.now
               line := m.line.filter fun e => e.port != n || decide ((s.now : Int) < (s.gateSpan e).2) }

/-- Count the clipped samples of some ports. -/
def State.countOn (s : State) (ns : List Nat) : State :=
  allPorts.foldl (fun (s : State) (n : Port) => if ns.contains n.val then s.countClips n else s) s

/-- Count every port's: what TXP_FLAGS and the tally show is of the moment (R217, R384). -/
def State.countAll (s : State) : State := s.countOn (allPorts.map (·.val))

/-- Some frames begin to play: their ports count clipped samples from here. -/
def State.play (s : State) (es : List OnLine) : State :=
  let ns := es.map fun e => e.port.val
  (s.countOn ns).modMac fun m => { m with line := m.line ++ es, counted := m.counted.zipIdx.map fun p => if ns.contains p.2 then s.now else p.1 }

/-- The frame end of a transmission on port n. -/
def State.frameEnd (s : State) (o : TxOp) (n : Nat) : Nat :=
  match s.mac.line.find? fun e => e.id == o.id && e.port.val == n with
  | some e => e.ends
  | none => o.launch.getD o.time + o.syms * symDticks

end Sys2Proof.Machine
end

