-- ==== Sys2Proof/Machine/TxRows.lean ====
section
/-! DEFINITION. A transmission from its encryption to its last sample (R34, R208-R228): CCM with its frame counter (R277, R290, R317), the stream
check, TXEN_N, launch and end, the mask guard and level calibration. -/

namespace Sys2Proof.Machine

/-! ### Encryption (R34 step 1, R277, R290, R303, R317) -/

/-- The key slot of a transmission (R303); KSEL 0 needs its stall. -/
def TxOp.slot (o : TxOp) : Option Nat := if o.ksel = 0 then o.stall.map (· + 256) else some o.ksel

/-- Where a transmission's FC comes from: TXFC, its ceiling and the MRAM word of the ceiling (R290, R316). -/
def State.fcPlace (s : State) (o : TxOp) : Option (Nat × Nat × Nat) :=
  if o.ksel = 0 then
    match o.stall with
    | some i => (s.hotInfo i).map fun h => (s.stallLe i Rec.txfc 4, s.le (ceilWord h.c) 4, ceilWord h.c)
    | none => none
  else (s.namedKey o.ksel).map fun k => (k.txfc, k.ceil, mramBase + 0x300000 + 8 * o.ksel + 4)

/-- TXFC goes up by one. -/
def State.stepTxfc (s : State) (o : TxOp) : State :=
  if o.ksel = 0 then
    match o.stall with
    | some i => s.setStallLe i Rec.txfc 4 (s.stallLe i Rec.txfc 4 + 1)
    | none => s
  else s.modKey o.ksel fun k => { k with txfc := k.txfc + 1 }

/-- A named slot's ceiling as held beside its key. -/
def State.setCeil (s : State) (o : TxOp) (v : Nat) : State :=
  if o.ksel = 0 then s else s.modKey o.ksel fun k => { k with ceil := v }

/-- FC_EXHAUSTED for a neighbour or a named slot. -/
def State.fcExhausted (s : State) (o : TxOp) : State :=
  if o.ksel = 0 then s.raise Ev.FC_EXHAUSTED Src.lgrIntegrity o.addr 0
  else s.raise Ev.FC_EXHAUSTED Src.lgrIntegrity (BitVec.ofNat 32 o.ksel) 1

/-- A transmission takes FC `fc` and its job starts under key k. [DEDUCED, log 35] -/
def State.ccmRun (s : State) (o : TxOp) (slot : Nat) (k : KeySlot) (fc : Nat) : State :=
  let s := s.modOp o.id fun o => { o with encr := .running, bound := some ⟨slot, k.gen, k.key⟩, fc := some fc }
  match o.kind with
  | .deferred no => s.modDeferred no fun d => { d with fc := some fc }
  | _ => s

/-- The CCM job of a transmission whose stall hold, if it needs one, is obtained: the key's policy, the frame counter, and the raising of the
ceiling before encryption. [DEDUCED, log 35] -/
def State.ccmBegin (s : State) (o : TxOp) : State :=
  match o.slot with
  | none => s.dropOp o Drop.keyPolicy
  | some slot =>
    match s.namedKey slot with
    | none => s.dropOp o Drop.keyPolicy
    | some k =>
      if !(k.policy == 1 && k.enc) then s.dropOp o Drop.keyPolicy
      else match o.fc with
        | some fc => s.ccmRun o slot k fc
        | none =>
          match s.fcPlace o with
          | none => s.dropOp o Drop.keyPolicy
          | some (fc, ceil, w) =>
            if 0xFFFFFFFF ≤ fc then (s.fcExhausted o).dropOp o Drop.fcExhausted
            else if fc < ceil then (s.stepTxfc o).ccmRun o slot k fc
            else if s.memu.mramPend.any fun p => p.addr.toNat == w then s
            else
              let up := min 0xFFFFFFFF (ceil + max 1 (s.fld F.LGR_TXFC_STEP))
              let s := s.modOp o.id fun o => { o with encr := .running, bound := none }
              s.mramIssue w ((leBytes 4 up).zipIdx.map fun p => (w + p.2, p.1)) (.ceil o.id)

/-- The ceiling's write ends (R290, R402): verified, the transmission goes on; failed, it is dropped before encryption. -/
def State.ceilDone (s : State) (id up : Nat) (ok : Bool) : State :=
  match s.findOp id with
  | none => s
  | some o =>
    if ok then
      let o' := { o with encr := .waiting }
      ((s.modOp id fun _ => o').setCeil o up).ccmBegin o'
    else s.dropOp o Drop.persistFail

/-- Transmissions that hold stalls (R277). -/
def State.txHolds (s : State) : Nat := (s.mac.ops.filter fun o => o.stall.isSome && o.encr == .running).length

/-- TX_CCM_START: the job of a waiting transmission starts once its stall hold is obtained; a record that is cold is paged in, and with 32 holds
taken or every stall held it waits (R277). -/
def execTxCcmStart (id : Nat) (s : State) : Out :=
  match s.findOp id with
  | none => .next s
  | some o =>
    if !o.hdr.sec || o.encr != .waiting then .next s
    else if o.ksel ≠ 0 then .next (s.ccmBegin o)
    else match s.recordOf o.addr with
      | (s, some (_, true)) =>
        if 32 ≤ s.txHolds then .next s
        else match s.pageInNow o.addr with
          | (s, some i) =>
            let o' := { o with stall := some i }
            .next ((s.modOp id fun _ => o').ccmBegin o')
          | (s, none) => .next s
      | (s, _) => .next (s.dropOp o Drop.keyPolicy)

/-- The header copy and payload block of a frame, as they enter the coding chain. -/
def TxOp.frameBytes (o : TxOp) : List Byte :=
  match o.kind with
  | .ack _ => []
  | _ => o.hdr.bytes ++ o.payload ++ fcsOf o.hdr.bytes o.payload

/-- TX_CCM_COMPLETE: the payload is sealed (R103, R105) and the stall hold is released. -/
def execTxCcmComplete (id : Nat) (s : State) : Out :=
  match s.findOp id with
  | none => .next s
  | some o =>
    match o.encr, o.bound, o.fc with
    | .running, some b, some fc =>
      let p := sealPayload b.key o.hdr.bytes o.ksel 0 s.domain fc o.hdr.ft o.plain
      let o' := { o with payload := p, encr := .done }
      let s := s.modOp id fun _ => o'
      .next (if o.stage == .queued then s else s.crcTxFrame o.id o'.frameBytes)
    | _, _, _ => .next s

/-! ### The stream check (R210, R212, R217, R223, R226, R268) -/

def TxStage.stream : TxStage → Option Nat
  | .queued => none
  | .taken i => some i
  | .onAir i => some i

/-- Transmissions that hold a stream of a port. -/
def State.busyOps (s : State) (p : Nat) : List TxOp := s.mac.ops.filter fun o => o.port.val == p && o.stage != .queued

/-- The stream a transmission would take: its lot's ACK stream, or the lowest free frame stream. -/
def State.wantStream (s : State) (o : TxOp) : Option Nat :=
  let busy := (s.busyOps o.port).filterMap fun x => x.stage.stream
  let c := match o.kind with
    | .ack _ => [4 + o.lots.headD 0]
    | _ => [0, 1, 2, 3]
  c.find? fun i => !busy.contains i

def lotsMeet (a b : List Nat) : Bool := a.any fun j => b.contains j

/-- The instant of R218. -/
def TxOp.launchAt (o : TxOp) : Nat := gridOf4 o.time
where
  /-- The nearest multiple of 4 dticks, ties earlier. -/
  gridOf4 (t : Nat) : Nat := 4 * ((t + 1) / 4)

/-- Two spans of time, each from its first member to before its second, meet. -/
def spansMeet (a b : Nat × Nat) : Bool := decide (a.1 < b.2 ∧ b.1 < a.2)

/-- The line time of a transmission, on the grid it was timed on. -/
def TxOp.span (o : TxOp) : Nat × Nat := (o.time, o.time + o.syms * symDticks)

/-- The master slot (R268) in the running superframe, which ends where the next one starts, and in the next two. -/
def State.masterSpans (s : State) : List (Nat × Nat) :=
  match s.masterSlot with
  | none => []
  | some k =>
    let n := (s.mac.built.map (·.start)).getD s.nextStart
    let l := (s.mac.built.map (·.slotlen)).getD s.slotlenReg * symDticks
    let c := s.mac.cur.start
    [(min n (c + k * s.slotDticks), min n (c + (k + 1) * s.slotDticks)), (n + k * l, n + (k + 1) * l), (n + (64 + k) * l, n + (65 + k) * l)]

/-- A transmission would overlap the master slot (R268). -/
def State.meetsMaster (s : State) (o : TxOp) : Bool := s.masterSpans.any (spansMeet o.span)

/-- The superframe after the running one opens with a beacon on port n (R234). -/
def State.beaconDue (s : State) (n : Port) : Bool :=
  (match s.beaconMode with | .head | .follow | .holdover => s.on F.MAC_CTL_BCN_EN | _ => false)
    && (s.reg R.MAC_BCN_CTL).getLsbD n && !(lotsOf (s.fld (F.MAC_BCN_LOTSn_LOTS n))).isEmpty

/-- A transmission and a beacon of its port would overlap (R113, R236): a beacon that is booked or on the line, or the start of one still to be
built. [DEDUCED, log 40] -/
def State.meetsBeacon (s : State) (o : TxOp) : Bool :=
  let others := s.mac.ops.filter fun x => x.id != o.id && x.port == o.port
  if o.kind == .beacon then (others.filter fun x => x.stage != .queued).any fun x => spansMeet o.span x.span
  else (others.filter fun x => x.kind == .beacon).any (fun x => spansMeet o.span x.span)
    || (s.mac.built.isNone && s.beaconDue o.port && spansMeet o.span (s.nextStart, s.nextStart + 1))

/-- A transmission with the port, plan and payload tones of the moment (R55, R212, R224). -/
def State.refreshed (s : State) (o : TxOp) : TxOp :=
  let p := s.txPort o.port
  { o with port := p, pair := s.yokedPort p, plan := s.plan p, tones := payloadTones (s.plan p) o.mask o.lots }

/-- A transmission is the ACK of a reception. -/
def TxOp.isAck (o : TxOp) : Bool := match o.kind with | .ack _ => true | _ => false

/-- Why a transmission fails its stream check, if it does; `timed`: its launch must still lie ahead. An ACK is not dropped for the master slot, a
beacon or a calibration (R203), and a frame without a data tone for its payload is not sent (R58). [DEDUCED, log 40] -/
def State.streamRefusal (s : State) (o : TxOp) (timed : Bool) : Option Nat :=
  let outs := s.outPorts o.port
  if !s.maySend o || !outs.all (fun n => s.fldBit F.TXP_CTL_PORT_EN n) then some Drop.mode
  else if outs.any fun n => s.on (F.TXP_PnSTAT_MUTED n) then some Drop.maskViolation
  else if !o.isAck && s.meetsMaster o then some Drop.masterSlot
  else if timed && decide (o.launchAt ≤ s.now) then some Drop.txLate
  else if (s.wantStream o).isNone || (s.busyOps o.port).any (fun x => lotsMeet x.lots o.lots) then some Drop.txConflict
  else if !o.isAck && (o.tones.isEmpty || s.meetsBeacon o || s.mac.cal.any fun c => outs.contains c.port.val) then some Drop.txConflict
  else none

/-- The mask entries of the tones of a lot set on each output port. -/
def State.maskAtt (s : State) (outs : List Nat) (plan : Nat) (lots : List Nat) : List Nat :=
  outs.flatMap fun n => (lots.flatMap (lotTones plan)).map fun k => s.fld (F.TXP_PnMASKt_ATT n (k - 8))

/-- TX_LATE with its event (R33, R376): the descriptor's address. -/
def State.txLate (s : State) (o : TxOp) : State :=
  let ctx : Word := match o.kind with
    | .host r n => BitVec.ofNat 32 (s.entryAddr r n)
    | .core _ desc => desc
    | .deferred no => match s.mac.store.find? fun d => d.no == no with | some d => BitVec.ofNat 32 (s.entryAddr d.ring d.n) | none => 0
    | _ => 0
  (s.raise Ev.TX_LATE Src.macQueue ctx 0).dropOp o Drop.txLate

/-- A transmission that fails its stream check is dropped. -/
def State.failStream (s : State) (o : TxOp) (r : Nat) : State :=
  let s := if r = Drop.txConflict then s.flag F.TXP_FLAGS_TX_CONFLICT else s
  if r = Drop.txLate then s.txLate o else s.dropOp o r

/-- A transmission takes its stream with its port's settings of the moment (R212). -/
def State.ownStream (s : State) (o : TxOp) : TxOp :=
  { o with
    stage := .taken ((s.wantStream o).getD 0), inQueue := false, level := s.fld (F.TXP_PnLVL_TONE_DB o.port)
    taper := s.fld (F.TXP_PnLVL_TAPER o.port), att := s.maskAtt (s.outPorts o.port) o.plan o.lots }

/-- The transmission's entry becomes `o`, which holds a stream, and the check contexts see its frame. -/
def State.putStream (s : State) (o : TxOp) : State :=
  let s := (s.modOp o.id fun _ => o).crcTxBind o.port o.id
  if o.encr == .done then s.crcTxFrame o.id o.frameBytes else s

/-- The stream check. -/
def State.takeStream (s : State) (o : TxOp) : State :=
  let o := s.refreshed o
  match s.streamRefusal o true with
  | some r => s.failStream o r
  | none => s.putStream (s.ownStream o)

/-- STREAM_TAKE of a transmission still queued. -/
def execStreamTake (id : Nat) (s : State) : Out :=
  match s.findOp id with
  | none => .next s
  | some o => .next (if o.stage != .queued then s else s.takeStream o)

/-! ### TXEN_N and launch (R218, R219, R221, R228) -/

/-- TXH of a port and its yoke partner as TXP_PnSTAT shows it. -/
def State.showTxh (s : State) (n : Port) : State :=
  let s := s.flag (F.TXP_PnSTAT_TXH n)
  match s.partner n with
  | some m => s.flag (F.TXP_PnSTAT_TXH m)
  | none => s

/-- Assert TXEN_N of a list of ports that are powered. -/
def State.txenAll (s : State) (ns : List Nat) : State :=
  allPorts.foldl (fun (s : State) (n : Port) =>
    if ns.contains n.val && s.fldBit F.TXP_CTL_PORT_EN n then (s.txenAssert n).showTxh n else s) s

/-- TXEN_ASSERT: LEAD_US before launch; for a gated ACK only once its reception has committed. -/
def execTxenAssert (id : Nat) (s : State) : Out :=
  match s.findOp id with
  | none => .next s
  | some o =>
    let gated := o.gate.isSome && o.isAck
    if gated || o.launch.isSome || !o.txen.isEmpty then .next s
    else
      let outs := (s.outPorts o.port).filter fun n => s.fldBit F.TXP_CTL_PORT_EN n
      .next (((s.modOp id fun o => { o with txen := outs }).txenAll outs).sentFrom outs id o.lots)

/-- One symbol's tones on with their phases: the reference phase, turned half round in pattern B. -/
def tonesAt (b : Bool) (ts : List Nat) : List (Nat × Nat) := ts.map fun k => (k, (refPhase k + if b then 2 else 0) % 4)

/-- Symbols of a block: pilots and the data tones that carry a 1. -/
def blockTones (pilots tones : List Nat) (syms : List (List Bool)) : List (List (Nat × Nat)) :=
  syms.map fun bits => tonesAt false (pilots ++ ((tones.zip bits).filter (·.2)).map (·.1))

/-- The symbols of a transmission (R71-R74, R107, R110). -/
def TxOp.symbols (o : TxOp) : List (List (Nat × Nat)) :=
  let all := o.lots.flatMap (lotTones o.plan)
  let pil := pilotTones o.plan o.lots
  let dat := dataTones o.plan o.lots
  let a := tonesAt false all
  let b := tonesAt true all
  match o.kind with
  | .ack _ => [a, a, b, b] ++ blockTones pil dat (codeBlock hseed .half 2 dat.length o.payload)
  | _ =>
    let head := blockTones pil dat (codeBlock hseed .half 2 dat.length o.hdr.bytes)
    let body := codeBlock (pseed o.hdr.hcs o.hdr.src) (mcRate o.mc) (mcRep o.mc) o.tones.length (o.payload ++ fcsOf o.hdr.bytes o.payload)
    List.replicate (o.e + 6) a ++ [b, b] ++ (List.replicate (mcCopies o.mc) head).flatten ++ blockTones pil o.tones body

/-- What leaves on each output port (R211, R224): the upper port of a pair sending on both is delayed and attenuated. [DEDUCED, log 40] -/
def State.onLine (s : State) (o : TxOp) (t : Nat) : List OnLine :=
  let outs := s.outPorts o.port
  let tones := o.lots.flatMap (lotTones o.plan)
  let upper := fun i => decide (1 ≤ i)
  outs.zipIdx.filterMap fun p =>
    if h : p.1 < 6 then
      some { id := o.id, port := ⟨p.1, h⟩, launch := t + (if upper p.2 then 4 * s.fld (F.TXP_PAIRp_DLY (p.1 / 2)) else 0)
             level := o.level + (if upper p.2 then s.fld (F.TXP_PAIRp_ATT_HI (p.1 / 2)) else 0), taper := o.taper
             att := tones.zip (o.att.drop (tones.length * p.2)), symbols := o.symbols, stop := none }
    else none

/-- The ACK a frame asks for: its directed window, on the frame's lowest lot, 2 sym after its end (R179). -/
def State.armDirected (s : State) (o : TxOp) (t : Nat) : State :=
  let w : DirWin := ⟨o.id, o, o.lots.headD 0, t + (o.syms + 2) * symDticks, tokenOf o.hdr.bytes (if o.hdr.sec then o.fc else none), none, []⟩
  s.modMac fun m => { m with dirs := m.dirs ++ [w] }

/-- A transmission that has its stream launches: its first symbol reaches the balls. -/
def State.launch (s : State) (o : TxOp) : State :=
  let id := o.id
  match o.stage with
  | .taken st =>
    if o.gate.isSome then s
    else if !s.maySend o then s.dropOp o Drop.mode
    else if o.encr != .done then s.txLate o
    else
      let t := o.launchAt
      let o' := { o with stage := .onAir st, launch := some t, status := if o.hdr.ackreq then none else some 0 }
      let s := (s.modOp id fun _ => o').tally 5
      let s := match o.kind with | .ack _ => s.tally 3 | _ => s
      let s := (s.play (s.onLine o t)).sentFrom (s.outPorts o.port) o.id o.lots
      let s := match o.kind with
        | .deferred no => s.modDeferred no fun d => { d with tries := d.tries + 1, launch := t }
        | _ => s
      if o.hdr.ackreq then s.armDirected o' t else s.completeOp o' 0
  | _ => s

/-- TX_LAUNCH. [DEDUCED, log 39] -/
def execTxLaunch (id : Nat) (s : State) : Out :=
  match s.findOp id with
  | none => .next s
  | some o => .next (if o.kind == .lastgasp then s else s.launch o)

/-- The release of port n's TXEN_N for a frame that ends at `e`: LAG_US later (R219). -/
def State.releaseAt (s : State) (n e : Nat) : Nat := e + usDticks (max 10 (s.fld (F.TXP_PnTXEN_LAG_US n)))

/-- A transmission that had launched ends: its stream is free, and on each of its ports TXEN_N's release is due LAG_US after frame end. -/
def State.endAir (s : State) (o : TxOp) : State :=
  let due := fun n => s.releaseAt n (s.frameEnd o n)
  let s := s.countAll.removeOp o.id
  let s := s.modMac fun m => { m with lag := m.lag.zipIdx.map fun p => if o.txen.contains p.2 then some (max (due p.2) (p.1.getD 0)) else p.1 }
  s.sentTill o.id due

/-- The report of a transmission cut on the line: one that has completed at launch leaves its completion as it stands. [DEDUCED, log 39; DEDUCED, log 40] -/
def State.reportCut (s : State) (o : TxOp) (reason : Nat) : State :=
  let s := s.modMac fun m => { m with dirs := m.dirs.filter fun w => w.id != o.id }
  match o.kind, o.status with
  | .host _ _, some _ => s.tally 6
  | .deferred _, some _ => s.tally 6
  | .core k desc, some _ => (s.tally 6).raiseTo Ev.TX_DROPPED Src.macQueue desc reason (coreMask k) s.stamp
  | _, _ => s.reportDrop o reason

/-- TXH_END: TXP_PnSTAT.TXH clears once no span of R221 covers the moment. -/
def execTxhEnd (n : Port) (s : State) : Out :=
  let clear := fun (s : State) (p : Port) => if s.txhAt p s.now then s else s.setFld (F.TXP_PnSTAT_TXH p) 0
  let s := clear s n
  .next (match s.partner n with | some m => clear s m | none => s)

/-! ### Cuts (R41, R217, R226) -/

/-- Stop frames at once: no sample leaves from here on. -/
def State.stopLine (s : State) (p : OnLine → Bool) : State :=
  s.modMac fun m => { m with line := m.line.map fun e => if p e && e.stop.isNone then { e with stop := some s.now } else e }

/-- Cut at once. -/
def State.cutNow (s : State) (p : TxOp → Bool) (reason : Nat) : State :=
  let air := s.mac.ops.filter fun o => p o && (match o.stage with | .onAir _ => true | _ => false)
  let s := s.stopLine fun e => air.any fun o => o.id == e.id
  let s := air.foldl (fun (s : State) o => (s.endAir o).reportCut o reason) s
  s.dropWhere (fun o => match o.stage with | .taken _ => p o | _ => false) reason

/-- Port n is powered down: its streams are cut and its TXEN_N is high. -/
def State.txPortOff (s : State) (n : Port) : State :=
  let s := (s.cutNow (fun o => (s.outPorts o.port).contains n.val) Drop.mode).stopLine fun e => e.port == n
  let s := s.modMac fun m =>
    { m with lag := lmod m.lag n fun _ => none
             cal := m.cal.map fun c => if c.port == n then { c with cut := true, frame := { c.frame with stop := some (min s.now c.frame.ends) } } else c
             ops := m.ops.map fun o => { o with txen := o.txen.filter (· != n.val) } }
  if s.txenOn n then s.txenRise n else s

/-- A write of TXP_CTL. -/
def State.writeTxpCtl (s : State) (v : Word) : State :=
  let old := s.fld F.TXP_CTL_PORT_EN
  let s := (s.countOn ((List.range 6).filter fun n => old.testBit n && !v.getLsbD n)).setReg R.TXP_CTL (v &&& 0x3F)
  allPorts.foldl (fun (s : State) (n : Port) => if old.testBit n && !v.getLsbD n then s.txPortOff n else s) s

/-- LASTGASP powers down the transmit path of every port but that of the outage report and its yoke partner, once its cut frames are over
(R41). [DEDUCED, log 48] -/
def State.txpDown (s : State) : State :=
  if s.sys.mode != .lastgasp then s
  else
    let keep := s.lgPort
    let down := allPorts.filter fun (n : Port) => !s.txenOn n && !(n == keep || (s.yokedPort n && n.val / 2 == keep.val / 2))
    s.writeTxpCtl (down.foldl (fun (v : Word) (n : Port) => v &&& ~~~(BitVec.twoPow 32 n)) (s.reg R.TXP_CTL))

/-- TX_END: the last sample has left its stream. [DEDUCED, log 40] -/
def execTxEnd (id : Nat) (s : State) : Out :=
  match s.findOp id with
  | none => .next s
  | some o =>
    match o.stage with
    | .onAir _ =>
      let s := s.endAir o
      .next (match o.cut with | some r => s.reportCut o r | none => s)
    | _ => .next s

/-- TXEN_RELEASE: the release due on port n comes. -/
def execTxenRelease (n : Port) (s : State) : Out :=
  match s.mac.lag.getD n none with
  | some t =>
    if t ≤ s.now then .next (((s.countClips n).modMac fun m => { m with lag := lmod m.lag n fun _ => none }).txenSettle n).txpDown else .next s
  | none => .next s

/-- TX_PORT_DISABLE: the write of TXP_CTL that clears bit n. -/
def execTxPortDisable (n : Port) (s : State) : Out := .next (s.writeTxpCtl (s.reg R.TXP_CTL &&& ~~~(BitVec.twoPow 32 n)))

/-! ### The mask guard (R225, R226) -/

/-- Bins 4 to 511 that lie more than two bins outside every tone of the plan. -/
def checkedBins (plan : Nat) : List Nat :=
  ((List.range 512).filter fun b => decide (4 ≤ b)).filter fun b =>
    !((List.range 5).any fun d => decide (2 ≤ b + d) && planTone plan (b + d - 2))

/-- A monitored power, relative to a full-scale sine, exceeds a power `guardDb` quarter-dB below a full-scale sine seen with a monitor gain of
`gain`/256 dB. [DEDUCED, log 40] -/
def overGuard (p gain : Rat) (guardDb : Nat) : Bool :=
  let e : Int := gain.num - 64 * (guardDb : Int) * gain.den
  let l := powRat p (2560 * gain.den)
  if 0 ≤ e then decide (((10 ^ e.toNat : Nat) : Rat) < l) else decide (1 < l * ((10 ^ (-e).toNat : Nat) : Rat))

/-- The bin of the largest power among some bins. -/
def worstBin (power : Nat → Rat) (bins : List Nat) : Nat :=
  (bins.foldl (fun (b : Nat × Rat) i => let p := power i; if b.2 < p then (i, p) else b) (bins.headD 0, power (bins.headD 0))).1

/-- MASK_VIOLATION and, with MASK_ACT, the cut and mute of the port. -/
def State.maskViolation (s : State) (n : Port) (bin : Nat) : State :=
  let s := (s.raise Ev.MASK_VIOLATION (Src.guard n) (BitVec.ofNat 32 (bin + 0x10000 * n.val)) 0).flag F.TXP_FLAGS_MASK_VIOL
  let s := s.setFld (F.TXP_PnSTAT_VIOL_BIN n) bin
  if s.on (F.TXP_PnCTL_MASK_ACT n) then
    (s.cutAtSymbol (fun o => (s.outPorts o.port).contains n.val) Drop.maskViolation).flag (F.TXP_PnSTAT_MUTED n)
  else s

/-- The power of a bin of the monitor's 1,024-point transform, relative to a full-scale sine (R225). -/
def monitorPower (samples : List Rat) (b : Nat) : Rat := (dftBin 1024 samples b).sq

/-- GUARD_SYMBOL: the monitor's 1,024 samples of one symbol's useful part, in units of full scale at the nominal gain. P_NOM is the power of a tone
at TONE_DB and weight 0 dB, seen with the monitor gain of the last calibration. [DEDUCED, log 36; DEDUCED, log 40] -/
def execGuardSymbol (n : Port) (samples : List Rat) (s : State) : Out :=
  let busy := s.mac.ops.any fun o => o.stage != .queued && (s.outPorts o.port).contains n.val
  if !s.on (F.TXP_PnGUARD_EN n) || !busy then .next s
  else
    let gain := (kget? s.mac.calMon (2 * n.val + s.fld (F.TXP_PnCTL_MON_SRC n))).getD 0
    let limit := s.fld (F.TXP_PnLVL_TONE_DB (s.txPort n)) + s.fld (F.TXP_PnGUARD_GUARD_DB n)
    let bins := (checkedBins (s.plan (s.txPort n))).filter fun b => overGuard (monitorPower samples b) gain limit
    let count := fun (s : State) (v : Nat) => s.modMac fun m => { m with viol := lmod m.viol n fun _ => v }
    if bins.isEmpty then .next (count s 0)
    else
      let v := s.mac.viol.getD n 0 + 1
      if v < max 1 (s.fld (F.TXP_PnGUARD_VIOL_N n)) then .next (count s v)
      else .next ((count s 0).maskViolation n (worstBin (monitorPower samples) bins))

/-- A write of TXP_PnCTL: UNMUTE clears MUTED (R226). -/
def State.writeTxpPctl (s : State) (n : Port) (v : Word) : State :=
  let s := s.setReg (R.TXP_PnCTL n) (v &&& 0x1133)
  if v.getLsbD 16 then s.setFld (F.TXP_PnSTAT_MUTED n) 0 else s

/-- UNMUTE: the write of TXP_PnCTL with UNMUTE = 1. -/
def execUnmute (n : Port) (s : State) : Out := .next (s.writeTxpPctl n (s.reg (R.TXP_PnCTL n) ||| 0x10000))

/-! ### Level calibration (R227) -/

/-- CAL_SYM pattern-A symbols on every plan tone, at TONE_DB with the port's mask weights (R227). [DEDUCED, log 40] -/
def State.calFrame (s : State) (n : Port) : OnLine :=
  let p := s.txPort n
  let tones := (List.range 320).map (· + 8) |>.filter (planTone (s.plan p))
  { id := s.mac.nextId, port := n, launch := (s.now + 3) / 4 * 4, level := s.fld (F.TXP_PnLVL_TONE_DB p), taper := s.fld (F.TXP_PnLVL_TAPER p)
    att := tones.map fun k => (k, s.fld (F.TXP_PnMASKt_ATT n (k - 8)))
    symbols := List.replicate (max 1 (s.fld F.TXP_CAL_CTL_CAL_SYM)) (tonesAt false tones), stop := none }

/-- A write of TXP_CAL_CTL. TXEN_N of a driven calibration is asserted at START, with no lead. [DEDUCED, log 40] -/
def State.writeCalCtl (s : State) (v : Word) : State :=
  if !v.getLsbD 16 then s.setReg R.TXP_CAL_CTL (v &&& 0xF107)
  else
    let p := natBits v.toNat 2 0
    let drv := v.getLsbD 8
    if h : p < 6 then
      let n : Port := ⟨p, h⟩
      let busy := s.mac.ops.any fun o => o.stage != .queued && (s.outPorts o.port).contains p
      if !s.fldBit F.TXP_CTL_PORT_EN p || busy || s.mac.cal.any (fun c => c.port == n) || (drv && !s.txMode) then s.flag F.TXP_FLAGS_CAL_REFUSED
      else
        let s := s.setReg R.TXP_CAL_CTL (v &&& 0xF107)
        let s := (s.flag F.TXP_CAL_STAT_BUSY).setFld F.TXP_CAL_STAT_DONE 0
        let e := s.calFrame n
        let s := (s.play [e]).modMac fun m => { m with cal := m.cal ++ [⟨n, drv, false, e⟩], nextId := m.nextId + 1 }
        if drv then (s.txenAssert n).showTxh n else s
    else s.flag F.TXP_FLAGS_CAL_REFUSED

/-- [DEDUCED, log 40] -/
def execTxCalStart (v : Word) (s : State) : Out := .next (s.writeCalCtl (v ||| 0x10000))

/-- Lots that have a tone in a plan. -/
def planLots (plan : Nat) : List Nat := (List.range 20).filter (planLot plan)

/-- A calibration's symbols have been played. -/
def State.calPlayed (s : State) (c : Cal) : Bool := decide (c.frame.ends ≤ s.now)

/-- The mean monitor power of a lot's tones over the symbols played, relative to what the frame's levels give, both relative to a full-scale
sine. -/
def Cal.lotRatio (c : Cal) (tones : List Nat) (symbols : List (List Rat)) : Rat :=
  let seen := meanRat (symbols.map fun x => sumRat (tones.map (monitorPower x)))
  seen / sumRat (tones.map fun k => (c.frame.amplitude k / 8191) * (c.frame.amplitude k / 8191))

/-- A calibration's result in 1/256 dB; one beyond the field's range, or of no power at all, is free. [DEDUCED, log 40] -/
def State.calResult (s : State) (j : Nat) (p : Rat) : Nat :=
  let x := ratioDb p
  if -32768 < x ∧ x < 32767 then toTwos 16 x else (Config.freeValue 16 (s.freeCtr + j)).toNat

/-- Forget a calibration: TXEN_N of a driven one is released, with no lag, and BUSY clears with the last. [DEDUCED, log 40] -/
def State.endCal (s : State) (c : Cal) : State :=
  let s := (s.countClips c.port).modMac fun m => { m with cal := m.cal.filter fun x => x.frame.id != c.frame.id }
  let s := s.setOn F.TXP_CAL_STAT_BUSY !s.mac.cal.isEmpty
  if c.drv then (s.txenSettle c.port).txpDown else s

/-- TX_CAL_DONE: port n's symbols have been played; `symbols` are the monitor's 1,024 samples of each one's useful part, in units of full scale.
A calibration that was cut only ends. [DEDUCED, log 40] -/
def execTxCalDone (n : Port) (symbols : List (List Rat)) (s : State) : Out :=
  match s.mac.cal.find? fun c => c.port == n && s.calPlayed c with
  | none => .next s
  | some c =>
    if c.cut then .next (s.endCal c)
    else
      let plan := s.plan (s.txPort n)
      let lots := planLots plan
      let gain := fun (j : Nat) => s.calResult j (c.lotRatio (lotTones plan j) symbols)
      let s := ((List.range 20).foldl (fun (s : State) j => s.setFld (F.TXP_CALRESj_GAIN j) (if lots.contains j then gain j else 0)) s).drawn 20
      let mean := meanRat (lots.map fun j => ((signedOf 16 (s.fld (F.TXP_CALRESj_GAIN j)) : Int) : Rat))
      let s := (s.endCal c).modMac fun m => { m with calMon := sput m.calMon (2 * n.val + s.fld (F.TXP_PnCTL_MON_SRC n)) mean }
      let s := s.flag F.TXP_CAL_STAT_DONE
      let s : State := if c.drv then s else { s with age := { s.age with txGain := s.age.txGain.set n (some (roundUp mean)) } }
      .next (s.raise Ev.TX_CAL_DONE Src.txCal (BitVec.ofNat 32 n) 0)

/-! ### Shaping coefficients (R216) -/

def State.writeShp (s : State) (n : Port) (t : Fin 48) (v : Word) : State :=
  if s.txenOn n then s.flag F.TXP_FLAGS_SHP_BUSY else s.setReg (R.TXP_PnSHPt n t) (v &&& 0x3FFFF)

def execShpCoefWrite (n : Port) (t : Fin 48) (v : Word) (s : State) : Out := .next (s.writeShp n t v)

end Sys2Proof.Machine
end

