-- ==== Sys2Proof/Machine/LgrCmd.lean ====
section
/-! DEFINITION. Ledger commands (R276, R293-R295), the rebuild after power loss (R291, R292, R573), the version sweep (R280) and the ledger's
enable (R287, R296). -/

namespace Sys2Proof.Machine

/-! ### Results of R293 -/
namespace Lgr
def ok : Nat := 0
def notFound : Nat := 1
def exists_ : Nat := 2
def full : Nat := 3
def busy : Nat := 4
def pinLimit : Nat := 5
def badImage : Nat := 6
def refused : Nat := 7
def badOp : Nat := 8
end Lgr

def State.modLgr (s : State) (f : Ledger → Ledger) : State := { s with lgr := f s.lgr }

/-- Hot stalls in use and PINNED stalls, as LGR_STAT counts them. -/
def State.pinned (s : State) : Nat := (s.lgr.hot.filter fun p => !p.2.waiting && s.stallState p.1 == 2).length
def State.hotUsed (s : State) : Nat := (s.lgr.hot.filter fun p => !p.2.waiting && s.stallState p.1 != 0).length
def State.pinMax (s : State) : Nat := min 4032 (s.fld F.LGR_PIN_MAX_PIN_MAX)

/-- A command waits on a stall lock, and so completes with BUSY. -/
def State.lgrLocked (s : State) (i : Nat) : Bool := s.coreLocked i || s.commitLocked i

/-- The hot stall of a command's record: the record is paged in; NOT_FOUND where there is no loaded record, BUSY where every stall is held. -/
def State.cmdStall (s : State) (a : Word) : State × Except Nat Nat :=
  match s.recordOf a with
  | (s, some (_, true)) =>
    match s.pageInNow a with
    | (s, some i) => (s, .ok i)
    | (s, none) => (s, .error (if s.freeStall.isNone && s.victim.isNone then Lgr.busy else Lgr.notFound))
  | (s, _) => (s, .error Lgr.notFound)

/-- LOOKUP. -/
def State.lgrLookup (s : State) (a : Word) : State × Nat × Nat :=
  match s.cmdStall a with
  | (s, .ok i) => (s, Lgr.ok, i)
  | (s, .error e) => (s, e, 0)

/-- PIN and UNPIN (R276, R293). [DEDUCED, log 32] -/
def State.lgrPin (s : State) (a : Word) (pin : Bool) : State × Nat × Nat :=
  match s.cmdStall a with
  | (s, .error e) => (s, e, 0)
  | (s, .ok i) =>
    if s.lgrLocked i then (s, Lgr.busy, i)
    else if pin then
      if s.stallState i = 3 then (s, Lgr.refused, i)
      else if s.stallState i = 2 then (s, Lgr.ok, i)
      else if s.pinMax ≤ s.pinned then (s, Lgr.pinLimit, i)
      else (s.setStallState i 2, Lgr.ok, i)
    else if s.stallState i = 2 then (s.setStallState i 1, Lgr.ok, i) else (s, Lgr.refused, i)

/-- An image goes to LGR_CMD_BUF: into firmware's MRAM word by word, elsewhere as any unit's write (R293, R400). [DEDUCED, log 32] -/
def State.putImage (s : State) (buf : Nat) (bs : List Byte) : State :=
  if inFirmware buf then s.mramRecord .command buf bs else (s.unitWrite buf bs).1

/-- EXPORT. [DEDUCED, log 32] -/
def State.lgrExport (s : State) (a : Word) (buf : Nat) : State × Nat × Nat :=
  match s.cmdStall a with
  | (s, .error e) => (s, e, 0)
  | (s, .ok i) => if s.lgrLocked i then (s, Lgr.busy, i) else (s.putImage buf (s.stallBytes i 0 128), Lgr.ok, i)

/-- An image as it is loaded: STATE ACTIVE, DL_PEND and TENT clear, and with a window of its own where R292 keeps one. -/
def importImage (img : List Byte) (window : Option (Nat × Nat)) : List Byte :=
  let f := (img.getD 4 0).toNat
  let fl := 1 + (if f.testBit 2 then 4 else 0) + (if f.testBit 3 || window.isSome then 8 else 0)
  let base := img.take 4 ++ leBytes 1 fl ++ (img.drop 5).take 3
  match window with
  | some (hwm, txfc) => base ++ leBytes 4 hwm ++ leBytes 8 (2 ^ 64 - 1) ++ leBytes 4 txfc ++ img.drop 24
  | none => base ++ img.drop 8

/-- Load an image as record c into stall i: DL_PEND = 0 whatever the deferred store holds (R294). -/
def State.loadImage (s : State) (i c : Nat) (bs : List Byte) : State :=
  ((s.makeResident i c bs).setStallFlag i 4 false).markDirty i

/-- The window and TXFC that R292 gives record c. -/
def State.rebuilt (s : State) (c : Nat) : Nat × Nat := (s.mramLe (hwmWord c) 4, s.mramLe (ceilWord c) 4)

/-- The read of those words with the errors listed; false where one cannot be corrected (R402). -/
def State.marksRead (s : State) (c : Nat) (mram : List (Word × ScrubOutcome)) : State × Bool :=
  let (s, lost) := s.mramReads mram (hwmWord c) 4
  let (s, more) := s.mramReads mram (ceilWord c) 4
  (s, lost.isEmpty && more.isEmpty)

/-- IMPORT into a record that awaits it. -/
def State.importAwaited (s : State) (a : Word) (c : Nat) (img : List Byte) : State × Nat × Nat :=
  let bs := importImage img (some (s.rebuilt c))
  if s.coldOn then
    match s.takeStall with
    | (s, none) => (s, Lgr.busy, 0)
    | (s, some i) =>
      let s := match s.dirFind a with
        | (s, some (l, k, _)) => s.putDirEntry l k (dirEntry a c true)
        | (s, none) => s
      (s.loadImage i c bs, Lgr.ok, i)
  else (s.loadImage c c bs, Lgr.ok, c)

/-- IMPORT of an address without a record (R294). -/
def State.importNew (s : State) (a : Word) (img : List Byte) : State × Nat × Nat :=
  match s.takeStall with
  | (s, none) => (s, if s.coldOn then Lgr.busy else Lgr.full, 0)
  | (s, some i) =>
    match s.newRecord a i with
    | (s, none) => (s, Lgr.full, 0)
    | (s, some c) =>
      let bs := importImage img none
      let s := if (bs.getD 4 0).getLsbD 3 then s.mramRecord .command (hwmWord c) ((bs.drop 8).take 4) else s
      (s.loadImage i c bs, Lgr.ok, i)

/-- IMPORT (R294): a record that awaits import fails verification where its mark or its ceiling cannot be read (R281, R402). [DEDUCED, log 32] -/
def State.lgrImport (s : State) (buf : Nat) (mram : List (Word × ScrubOutcome)) : State × Nat × Nat :=
  let (s, img) := s.unitData mram buf 128
  let f := (img.getD 4 0).toNat
  let a : Word := BitVec.ofNat 32 (leNat (img.take 4))
  if f % 4 = 0 ∨ 64 ≤ f then (s, Lgr.badImage, 0)
  else match s.hotFind a with
    | some i => if s.stallFlag i 5 then (s, Lgr.busy, i) else (s, Lgr.exists_, i)
    | none =>
      match s.recordOf a with
      | (s, some (_, true)) => (s, Lgr.exists_, 0)
      | (s, some (c, false)) =>
        match s.marksRead c mram with
        | (s, true) => s.importAwaited a c img
        | (s, false) => (s.integrity c, Lgr.refused, 0)
      | (s, none) => s.importNew a img

/-- Deferred downlinks of a freed stall complete CANCELLED, with the bookings not yet taken to a stream. [DEDUCED, log 32] -/
def State.cancelStored (s : State) (a : Word) : State :=
  let nos := (s.mac.store.filter fun d => d.addr == a).map (·.no)
  let s := s.dropWhere (fun o => o.stage == .queued && match o.kind with | .deferred no => nos.contains no | _ => false) Drop.cancelled
  (s.mac.store.filter fun d => d.addr == a).foldl
    (fun (s : State) d => s.dropStored d Drop.cancelled) s

/-- FREE (R295). [DEDUCED, log 32] -/
def State.lgrFree (s : State) (a : Word) : State × Nat × Nat :=
  if s.lgr.pages.any fun p => p.addr == a then (s, Lgr.busy, 0)
  else match s.recordOf a with
    | (s, some (c, true)) =>
      let hot := s.hotFind a
      let i := hot.getD 0
      if hot.isSome && s.stallHeld i then (s, Lgr.busy, i)
      else
        let s := s.cancelStored a
        let s := if hot.isSome then s.freeUp i else s
        let s := s.modLgr fun l => { l with wb := l.wb.filter (·.1 != c) }
        let s := if s.coldOn then
            let s := s.writeRecord c (zeros 128)
            match s.dirFind a with
            | (s, some (l, k, _)) => s.putDirEntry l k (zeros 8)
            | (s, none) => s
          else s
        let s := s.mramRecord .command (addrWord c) (leBytes 4 0xFFFFFFFF)
        (s.setFld F.LGR_COLD_USED_USED (s.fld F.LGR_COLD_USED_USED - 1), Lgr.ok, i)
    | (s, _) => (s, Lgr.notFound, 0)

/-! ### Issuing commands -/

/-- A write of LGR_CMD: the operation runs, its completion is LGR_CMD_COMPLETE; ignored with CMD_OVR while one is running (R293). [DESIGN CHOICE, log 27] -/
def State.writeLgrCmd (s : State) (op : Nat) (mram : List (Word × ScrubOutcome)) : State :=
  if s.busOff then s
  else if s.lgr.cmd.isSome then s.flag F.LGR_FLAGS_CMD_OVR
  else
    let a := s.reg R.LGR_CMD_ADDR
    let buf := (s.reg R.LGR_CMD_BUF).toNat / 4 * 4
    let (s, res, i) := match op with
      | 1 => s.lgrLookup a
      | 2 => s.lgrImport buf mram
      | 3 => s.lgrExport a buf
      | 4 => s.lgrFree a
      | 5 => s.lgrPin a true
      | 6 => s.lgrPin a false
      | _ => (s, Lgr.badOp, 0)
    (s.modLgr fun l => { l with cmd := some (res, i) }).flag F.LGR_CMD_STAT_BUSY

/-- LGR_LOOKUP, by either agent. -/
def execLgrLookup (_agent : Agent) (s : State) : Out := .next (s.writeLgrCmd 1 [])
/-- LGR_IMPORT. -/
def execLgrImport (_agent : Agent) (mram : List (Word × ScrubOutcome)) (s : State) : Out := .next (s.writeLgrCmd 2 mram)
/-- LGR_EXPORT. -/
def execLgrExport (_agent : Agent) (s : State) : Out := .next (s.writeLgrCmd 3 [])
/-- LGR_FREE. -/
def execLgrFree (_agent : Agent) (s : State) : Out := .next (s.writeLgrCmd 4 [])
/-- LGR_PIN. -/
def execLgrPin (_agent : Agent) (s : State) : Out := .next (s.writeLgrCmd 5 [])
/-- LGR_UNPIN. -/
def execLgrUnpin (_agent : Agent) (s : State) : Out := .next (s.writeLgrCmd 6 [])

/-- LGR_CMD_COMPLETE: the command's MRAM words have been written; BUSY clears, the result is written and LGR_CMD_DONE raised (R293). -/
def execLgrCmdComplete (s : State) : Out :=
  match s.lgr.cmd with
  | none => .next s
  | some (res, i) =>
    if s.memu.mramPend.any fun w => w.writer == .command then .next s else
    let s := s.modLgr fun l => { l with cmd := none }
    let s := ((s.setFld F.LGR_CMD_STAT_BUSY 0).setFld F.LGR_CMD_STAT_RESULT res).setFld F.LGR_CMD_STAT_STALL i
    .next (s.raise Ev.LGR_CMD_DONE Src.lgrCmd (BitVec.ofNat 32 i) res)

/-! ### Rebuild (R292) -/

/-- Every record leaves the hot table, as after a power cut (R281, R292): the receptions that need one are refused, and a commit already decided
goes on without it. [DEDUCED, log 32] -/
def State.forgetHot (s : State) : State :=
  let need := s.dmd.rx.filter fun r => (r.stall.isSome || r.paging) && r.decision.isNone
  let s := need.foldl (fun (s : State) r => s.ledgerFull r.rxid r.src) s
  let s := s.modDmd fun d => { d with rx := d.rx.map fun r => { r with stall := none } }
  ((s.lgr.hot.map (·.1)).foldl (fun (s : State) i => s.freeUp i) s).modLgr fun l => { l with wb := [], pages := [] }

/-- A stall reserved for record c, which awaits import. -/
def State.reserveStall (s : State) (c : Nat) : State :=
  let s := s.setSramBytes (stallBase c) (s.mramBytes (addrWord c) 4 ++ zeros 124)
  s.modLgr fun l => { l with hot := sput l.hot c ⟨c, false, true⟩ }

/-- The directory entry of record c, not loaded. -/
def State.insertAwaited (s : State) (c : Nat) : State :=
  let a : Word := BitVec.ofNat 32 (s.mramLe (addrWord c) 4)
  match s.dirRoom a with
  | (s, some (l, k)) => s.putDirEntry l k (dirEntry a c false)
  | (s, none) => s

/-- The rebuild's work: an entry awaiting import for every used index; the answer counts them. An index whose ADDR word cannot be read fails
verification (R281, R402). [DESIGN CHOICE, log 27] -/
def State.rebuildLedger (s : State) (mram : List (Word × ScrubOutcome)) : State :=
  let (s, lost) := s.mramReads mram (addrWord 0) (4 * s.recCount)
  let all := (List.range s.recCount).filter fun c => !s.indexFree c
  let used := all.filter fun c => !lost.contains (addrWord c / 4)
  let s := (all.filter fun c => lost.contains (addrWord c / 4)).foldl (fun (s : State) c => s.integrity c) s
  let s := s.forgetHot
  let s :=
    if s.coldOn then
      let s := (List.range 32768).foldl (fun (s : State) l => s.writeDirLine l (zeros 128)) s
      used.foldl (fun (s : State) c => s.insertAwaited c) s
    else used.foldl (fun (s : State) c => s.reserveStall c) s
  let s := s.setFld F.LGR_COLD_USED_USED used.length
  s.modLgr fun l => { l with rebuild := some used.length }

/-- A rebuild begins (R292). -/
def State.beginRebuild (s : State) (mram : List (Word × ScrubOutcome)) : State :=
  ((s.flag F.LGR_STAT_REBUILD_BUSY).setFld F.LGR_REBUILD_STAT_DONE 0).rebuildLedger mram

/-- REBUILD: a rebuild starts with EN = 1, unless one runs. -/
def State.startRebuild (s : State) (mram : List (Word × ScrubOutcome)) : State :=
  if !s.on F.LGR_CTL_EN || s.lgr.rebuild.isSome then s else s.beginRebuild mram

/-- REBUILD_DONE. -/
def execRebuildDone (s : State) : Out :=
  match s.lgr.rebuild with
  | none => .next s
  | some n =>
    let s := (s.modLgr fun l => { l with rebuild := none }).setFld F.LGR_STAT_REBUILD_BUSY 0
    .next (((s.flag F.LGR_REBUILD_STAT_DONE).setFld F.LGR_REBUILD_STAT_FOUND n).raise Ev.REBUILD_DONE Src.lgrCmd (BitVec.ofNat 32 n) 0)

/-- A record line that a sweep finds to fail: its record awaits import (R281). -/
def State.recordFailed (s : State) (c : Nat) : State :=
  let s := s.integrity c
  if s.indexFree c then s else s.awaitImport (BitVec.ofNat 32 (s.mramLe (addrWord c) 4))

/-- SWEEP_COMPLETE: every record and directory line stands under the new GEN with version 0; those that failed are reported (R281). [DEDUCED, log 32] -/
def execSweepComplete (s : State) : Out :=
  if s.on F.LGR_STAT_SWEEP_BUSY then
    let recs := s.failingLines 0
    let dirs := s.failingLines 1
    let s := ((s.resealRegion 0).resealRegion 1).setFld F.LGR_STAT_SWEEP_BUSY 0
    let s := dirs.foldl (fun (s : State) l => s.dirFailed l) s
    .next (recs.foldl (fun (s : State) c => s.recordFailed c) s)
  else .next s

/-! ### LGR_CTL (R296) -/

/-- A write of LGR_CTL: clearing EN squashes every reception with a stall (R287). -/
def State.writeLgrCtl (s : State) (v : Word) (mram : List (Word × ScrubOutcome)) : State :=
  let was := s.on F.LGR_CTL_EN
  let s := s.setReg R.LGR_CTL (v &&& 7)
  let s := if was && !v.getLsbD 0 then
      (s.dmd.rx.filter fun r => r.stall.isSome).foldl (fun (s : State) r => s.ledgerFull r.rxid r.src) s
    else s
  let s := if v.getLsbD 8 then s.startRebuild mram else s
  if v.getLsbD 9 then s.startLedgerSweep else s

/-- LGR_REBUILD: the write of REBUILD, the other fields as they stand; `mram` are the words of the ADDR table read with an error (R402). -/
def execLgrRebuild (mram : List (Word × ScrubOutcome)) (s : State) : Out := .next (s.writeLgrCtl ((s.reg R.LGR_CTL &&& 7) ||| 0x100) mram)
/-- LGR_SWEEP: the write of SWEEP, the other fields as they stand. -/
def execLgrSweep (s : State) : Out := .next (s.writeLgrCtl ((s.reg R.LGR_CTL &&& 7) ||| 0x200) [])
/-- LEDGER_DISABLE: the write that clears EN. -/
def execLedgerDisable (s : State) : Out := .next (s.writeLgrCtl (s.reg R.LGR_CTL &&& 6) [])

end Sys2Proof.Machine
end

