-- ==== Sys2Proof/Machine/KeyCmd.lean ====
section
/-! DEFINITION. Key-store commands (R313-R321), the random source (R310), and cipher jobs (R304-R306). -/

namespace Sys2Proof.Machine

/-! ### Results of R318 -/
namespace Kr
def ok : Nat := 0
def badBlob : Nat := 1
def badHeader : Nat := 2
def wrongSlot : Nat := 3
def rollback : Nat := 4
def busy : Nat := 5
def inUse : Nat := 6
def notFound : Nat := 7
def state : Nat := 8
def badOp : Nat := 9
def persistFail : Nat := 10
end Kr

def State.modKeyStore (s : State) (f : KeyStore → KeyStore) : State := { s with key := f s.key }

/-! ### Retiring copies (R319, R320) -/

/-- Keys bound by operations under way: receptions before their decision, transmissions in their CCM job, cipher jobs. [DEDUCED, log 34] -/
def State.boundKeys (s : State) : List Bound :=
  (s.dmd.rx.filter fun r => r.decision.isNone).filterMap (·.bound)
    ++ (s.mac.ops.filter fun o => o.encr == .running).filterMap (·.bound)
    ++ (s.key.jobs.filter fun j => !j.2.erased).filterMap (·.2.bound)

/-- A bound key that is no longer its slot's. -/
def State.retired (s : State) (b : Bound) : Bool :=
  match s.namedKey b.slot with
  | some k => k.gen != b.gen
  | none => true

/-- The copies in use, as slot and installation. [DEDUCED, log 34] -/
def State.retiring (s : State) : List (Nat × Nat) :=
  ((s.boundKeys.filter s.retired).map fun b => (b.slot, b.gen)).eraseDups

/-- A new key in a slot needs a retiring copy and none of the 64 is free. [DEDUCED, log 34] -/
def State.noCopy (s : State) (slot : Nat) : Bool :=
  (s.boundKeys.any fun b => b.slot == slot && !s.retired b) && decide (64 ≤ s.retiring.length)

/-- A MEMORY slot that an enabled memory region uses. -/
def State.memoryInUse (s : State) (slot : Nat) : Bool :=
  (match s.namedKey slot with | some k => k.policy == 3 | none => false) &&
  allEight.any fun (r : Fin 8) => s.on (F.DDR_RrCTL_EN r) && s.fld (F.DDR_RrCTL_SLOT r) == slot

/-! ### Blobs -/

/-- R312's combinations of POLICY, ALG, KLEN and FLAGS. -/
def policyAllows (policy alg klen flags : Nat) : Bool :=
  decide (flags < 4) &&
  (match alg with | 0 => klen == 16 | 1 => klen == 32 | 2 => klen == 64 | _ => false) &&
  (match policy with
   | 1 => alg == 0
   | 2 => alg == 0
   | 3 => alg == 1 || alg == 2
   | 4 => alg == 0 || alg == 1
   | _ => false)

/-- The key-encryption key a policy selects (R307). -/
def Keks.forPolicy (k : Keks) (policy : Nat) : List Byte :=
  if policy ≤ 2 then k.line else if policy = 3 then k.mem else k.host

/-- Where a named slot's record lies in MRAM, its KVER and its ceiling (R316). -/
def keyRecord (slot : Nat) : Nat := mramBase + 0x300000 + 8 * slot
def State.keyRecordRead (s : State) (slot : Nat) (mram : List (Word × ScrubOutcome)) : State × Nat × Nat :=
  let (s, bs) := s.recordRead mram (keyRecord slot) 8
  (s, leNat (bs.take 2), leNat (bs.drop 4))

/-- The checks of R314 on the bytes at the blob's address, in order, `recorded` being the slot's recorded KVER: the key to install, or the result
and whether the inner header or the unwrap failed. [DEDUCED, log 34] -/
def Keks.checkBlob (keks : Keks) (slot recorded : Nat) (blob : List Byte) : Except (Nat × Bool) KeySlot :=
  let h := blob.take 8
  let b := fun i => (h.getD i 0).toNat
  if b 0 ≠ 1 ∨ b 1 = 0 ∨ 4 < b 1 then .error (Kr.badHeader, false)
  else if b 3 ≠ 16 ∧ b 3 ≠ 32 ∧ b 3 ≠ 64 then .error (Kr.badBlob, true)
  else match unwrapPad (keks.forPolicy (b 1)) ((blob.drop 8).take (b 3 + 16)) with
    | none => .error (Kr.badBlob, true)
    | some p =>
      let kver := leNat ((h.drop 6).take 2)
      if p.take 8 ≠ h ∨ p.length ≠ 8 + b 3 then .error (Kr.badBlob, true)
      else if !policyAllows (b 1) (b 2) (b 3) (b 5) then .error (Kr.badHeader, true)
      else if b 4 ≠ slot then .error (Kr.wrongSlot, false)
      else if kver < recorded then .error (Kr.rollback, false)
      else .ok { policy := b 1, alg := b 2, enc := (b 5).testBit 0, dec := (b 5).testBit 1, kver := BitVec.ofNat 16 kver,
                 key := p.drop 8, txfc := 0, ceil := 0, gen := 0 }

/-- The bytes of a named blob after its clear header, where that header names a wrap (R313). -/
def wrapLen (h : List Byte) : Nat :=
  let b := fun i => (h.getD i 0).toNat
  if b 0 = 1 ∧ 1 ≤ b 1 ∧ b 1 ≤ 4 ∧ (b 3 = 16 ∨ b 3 = 32 ∨ b 3 = 64) then b 3 + 16 else 0

/-- Read a named blob: its clear header, then as much as that header names; what cannot be read is zero (R402, R409). -/
def State.readBlob (s : State) (a : Nat) (mram : List (Word × ScrubOutcome)) : State × List Byte :=
  let (s, h) := s.unitData mram a 8
  let (s, w) := s.unitData mram (a + 8) (wrapLen h)
  (s, h ++ w)

/-- LOAD: a KVER above the record's waits for the record's write; an equal one takes effect at once (R316). [DEDUCED, log 34] -/
def State.keyLoad (s : State) (slot : Nat) (mram : List (Word × ScrubOutcome)) : State × Nat :=
  match s.key.keks with
  | none => (s, Kr.state)
  | some keks =>
    if 256 ≤ slot then (s, Kr.badOp)
    else if s.memoryInUse slot then (s, Kr.inUse)
    else
      let (s, blob) := s.readBlob ((s.reg R.KEY_CMD_BUF).toNat / 8 * 8) mram
      let (s, kver, ceil) := s.keyRecordRead slot mram
      match keks.checkBlob slot kver blob with
      | .error (e, bad) =>
        let s := if bad then s.flag F.KEY_FLAGS_BAD_BLOB else s
        (if e = Kr.rollback then s.flag F.KEY_FLAGS_ROLLBACK else s, e)
      | .ok k =>
        if s.noCopy slot then (s, Kr.busy)
        else if kver < k.kver.toNat then
          let step := max 1 (s.fld F.LGR_TXFC_STEP)
          let k := { k with txfc := 0, ceil := step }
          let rec_ := leBytes 2 k.kver.toNat ++ zeros 2 ++ leBytes 4 step
          let s := s.modKeyStore fun q => { q with loading := some (slot, k) }
          (s.mramIssue (keyRecord slot) (rec_.zipIdx.map fun p => (keyRecord slot + p.2, p.1)) .key, Kr.ok)
        else (s.putKey slot { k with txfc := ceil, ceil := ceil }, Kr.ok)

/-- The record's write ends: the key takes effect, or the load fails and nothing has changed (R316, R402). A slot that has come into use meanwhile
so that the key could not take effect makes the load fail as it would have at its start. [DEDUCED, log 34] -/
def State.keyLoaded (s : State) (ok : Bool) : State :=
  match s.key.loading with
  | none => s
  | some (slot, k) =>
    let s := s.modKeyStore fun q => { q with loading := none }
    let fail := fun (r : Nat) => s.modKeyStore fun q => { q with cmd := q.cmd.map fun c => (c.1, r) }
    if !ok then fail Kr.persistFail
    else if s.memoryInUse slot then fail Kr.inUse
    else if s.noCopy slot then fail Kr.busy
    else s.putKey slot k

/-- LOAD_STALL (R315): the slot concerned and the result. -/
def State.keyLoadStall (s : State) (mram : List (Word × ScrubOutcome)) : State × Nat × Nat :=
  match s.key.keks with
  | none => (s, 0, Kr.state)
  | some keks =>
    let a := s.reg R.KEY_CMD_ADDR
    match s.cmdStall a with
    | (s, .error e) => (s, 0, if e = Lgr.busy then Kr.busy else Kr.notFound)
    | (s, .ok i) =>
      let (s, blob) := s.unitData mram ((s.reg R.KEY_CMD_BUF).toNat / 8 * 8) 24
      let r := unwrap keks.slot blob
      if r.1 ≠ [0xA6, 0xA6, 0xA6, 0xA6] ++ leBytes 4 a.toNat then (s.flag F.KEY_FLAGS_BAD_BLOB, 256 + i, Kr.badBlob)
      else if s.noCopy (256 + i) then (s, 256 + i, Kr.busy)
      else
        let s := (s.setStall i Rec.keyblob blob).setStallFlag i 2 true
        (s.putKey (256 + i) (stallKey r.2), 256 + i, Kr.ok)

/-- GENMEM. [DEDUCED, log 34] -/
def State.genmem (s : State) (slot alg : Nat) : State × Nat :=
  match s.key.keks with
  | none => (s, Kr.state)
  | some keks =>
    if 256 ≤ slot ∨ 2 ≤ alg then (s, Kr.badOp)
    else if !s.on F.KEY_STAT_RNG_OK then (s, Kr.state)
    else if s.memoryInUse slot then (s, Kr.inUse)
    else if s.noCopy slot then (s, Kr.busy)
    else
      let rand := Config.freeBytes 32 s.freeCtr
      let label : List Byte := [0x4D, 0x45, 0x4D, 0x4B, 0x45, 0x59]
      let key := kdf keks.mem label (leBytes 1 slot ++ rand) (if alg = 0 then 256 else 512)
      let k : KeySlot := { policy := 3, alg := alg + 1, enc := true, dec := true, kver := 0, key := key, txfc := 0, ceil := 0, gen := 0 }
      ((s.drawn 1).putKey slot k, Kr.ok)

/-- What is bound to a slot's key or one of its retiring copies is handled (R321). -/
def State.zeroiseBound (s : State) (p : Nat → Bool) : State :=
  let hit := fun (b : Option Bound) => match b with | some x => p x.slot | none => false
  let ids := (s.dmd.rx.filter fun r => r.decision.isNone && hit r.bound).map (·.rxid)
  let s := ids.foldl (fun (s : State) id => s.squash id Sq.KEY_ZEROISED) s
  let s := s.dropWhere (fun o => o.encr == .running && hit o.bound) Drop.keyZeroised
  let s := s.modKeyStore fun q => { q with jobs := q.jobs.map fun j => (j.1, if hit j.2.bound then { j.2 with erased := true } else j.2) }
  s.dropRegions p

/-- KEYV and KEYBLOB of a stall are cleared, and the cleared record is written back. -/
def State.clearStallKey (s : State) (i : Nat) : State :=
  match s.hotInfo i with
  | none => s
  | some h =>
    let s := (s.setStallFlag i 2 false).setStall i Rec.keyblob (zeros 24)
    if s.coldOn && !h.waiting && !s.stallFlag i 5 then s.writeRecord h.c (s.stallBytes i 0 128) else s

/-- ERASE: slot, retiring copies and everything bound to them. [DEDUCED, log 34] -/
def State.keyErase (s : State) (slot : Nat) : State × Nat :=
  if s.key.keks.isNone then (s, Kr.state)
  else if 4352 ≤ slot then (s, Kr.badOp)
  else
    let s := (s.dropKey slot).zeroiseBound (· == slot)
    let s := if 256 ≤ slot then s.clearStallKey (slot - 256) else s
    ((s.flag F.KEY_FLAGS_ZEROISED).raise Ev.KEY_ZEROISED Src.key (BitVec.ofNat 32 slot) 0, Kr.ok)

/-- Every slot and retiring copy is zeroised and the key-encryption keys are cleared, with one event (R322). -/
def State.wipeKeys (s : State) : State :=
  let slots := s.key.named.map (·.1)
  let s := s.modKeyStore fun q => { q with named := [], keks := none, loading := none }
  let s := s.zeroiseBound fun _ => true
  let s := (slots.filter fun n => decide (256 ≤ n)).foldl (fun (s : State) n => s.clearStallKey (n - 256)) s
  let s := s.setFld F.KEY_STAT_KEKS_READY 0
  (s.flag F.KEY_FLAGS_ZEROISED).raise Ev.KEY_ZEROISED Src.key 0xFFFF 0

/-- INFO. [DEDUCED, log 34] -/
def State.keyInfo (s : State) (slot : Nat) : State × Nat :=
  if 4352 ≤ slot then (s, Kr.badOp)
  else
    let n := min 255 (s.retiring.filter fun b => b.1 == slot).length
    let s := match s.namedKey slot with
      | some k =>
        let v := k.kver.toNat + 2 ^ 16 * n + 2 ^ 24 * (k.enc.toNat + 2 * k.dec.toNat) + 2 ^ 26 * k.alg + 2 ^ 28 * k.policy + 2 ^ 31
        (s.setReg R.KEY_SLOT_INFO (BitVec.ofNat 32 v)).setReg R.KEY_SLOT_TXFC (BitVec.ofNat 32 k.txfc)
      | none => (s.setReg R.KEY_SLOT_INFO (BitVec.ofNat 32 (2 ^ 16 * n))).setReg R.KEY_SLOT_TXFC 0
    (if 256 ≤ slot then s.setReg R.KEY_SLOT_TXFC (BitVec.ofNat 32 (s.stallLe (slot - 256) Rec.txfc 4)) else s, Kr.ok)

/-! ### Issuing commands -/

/-- A write of KEY_CMD (R318). [DESIGN CHOICE, log 27] -/
def State.writeKeyCmd (s : State) (v : Word) (mram : List (Word × ScrubOutcome)) : State :=
  if s.key.cmd.isSome then s.flag F.KEY_FLAGS_CMD_OVR
  else
    let slot := natBits v.toNat 28 16
    let (s, slot, res) := match natBits v.toNat 3 0 with
      | 1 => let (s, r) := s.keyLoad slot mram; (s, slot, r)
      | 2 => s.keyLoadStall mram
      | 3 => let (s, r) := s.genmem slot (natBits v.toNat 9 8); (s, slot, r)
      | 4 => let (s, r) := s.keyErase slot; (s, slot, r)
      | 5 => let (s, r) := s.keyInfo slot; (s, slot, r)
      | _ => (s, slot, if s.key.keks.isNone then Kr.state else Kr.badOp)
    (s.modKeyStore fun q => { q with cmd := some (slot, res) }).flag F.KEY_CMD_STAT_BUSY

/-- The word of KEY_CMD. -/
def keyCmdWord (op slot alg : Nat) : Word := BitVec.ofNat 32 (op + 2 ^ 8 * alg + 2 ^ 16 * slot)

/-- KEY_LOAD. -/
def execKeyLoad (slot : BitVec 13) (mram : List (Word × ScrubOutcome)) (s : State) : Out := .next (s.writeKeyCmd (keyCmdWord 1 slot.toNat 0) mram)
/-- KEY_LOAD_STALL. -/
def execKeyLoadStall (mram : List (Word × ScrubOutcome)) (s : State) : Out := .next (s.writeKeyCmd (keyCmdWord 2 0 0) mram)
/-- GENMEM. -/
def execGenmem (slot : BitVec 13) (alg : BitVec 2) (s : State) : Out := .next (s.writeKeyCmd (keyCmdWord 3 slot.toNat alg.toNat) [])
/-- KEY_ERASE. -/
def execKeyErase (slot : BitVec 13) (s : State) : Out := .next (s.writeKeyCmd (keyCmdWord 4 slot.toNat 0) [])
/-- KEY_INFO. -/
def execKeyInfo (slot : BitVec 13) (s : State) : Out := .next (s.writeKeyCmd (keyCmdWord 5 slot.toNat 0) [])

/-- KEY_CMD_COMPLETE: a load's record has been written; BUSY clears, RESULT is written and KEY_CMD_DONE raised. -/
def execKeyCmdComplete (s : State) : Out :=
  match s.key.cmd, s.key.loading with
  | some (slot, res), none =>
    let s := s.modKeyStore fun q => { q with cmd := none }
    let s := (s.setFld F.KEY_CMD_STAT_BUSY 0).setFld F.KEY_CMD_STAT_RESULT res
    .next (s.raise Ev.KEY_CMD_DONE Src.key (BitVec.ofNat 32 slot) res)
  | _, _ => .next s

/-! ### The random source (R310) -/

/-- A reseed that passes its tests. -/
def State.reseedRng (s : State) : State := (s.modKeyStore fun q => { q with reads := 0 }).flag F.KEY_STAT_RNG_OK

/-- RNG_RESEED: the write of KEY_CTL.RESEED. -/
def execRngReseed (s : State) : Out := .next s.reseedRng

/-- RNG_HEALTH_FAIL. -/
def execRngHealthFail (s : State) : Out :=
  .next (((s.setFld F.KEY_STAT_RNG_OK 0).flag F.KEY_FLAGS_RNG_FAIL).raise Ev.RNG_FAIL Src.key 0 0)

/-- A read of KEY_RAND: the next 32 random bits, zero while RNG_OK = 0; a reseed comes after every 2^20 reads. -/
def State.readRand (s : State) : State × Word :=
  if s.on F.KEY_STAT_RNG_OK then
    let w := Config.freeValue 32 s.freeCtr
    ((s.drawn 1).modKeyStore fun q => { q with reads := (q.reads + 1) % 2 ^ 20 }, w)
  else (s, 0)

/-- KEY_RAND_READ. -/
def execKeyRandRead (s : State) : Out := let (s, w) := s.readRand; .next { s with busOut := w }

/-! ### Cipher jobs -/

/-- Memory the cipher engine may reach (R305). -/
def cjobRegion (a n : Nat) : Bool :=
  decide (0x10140000 ≤ a ∧ a + n ≤ 0x10240000) || decide (tcmBase ≤ a ∧ a + n ≤ tcmBase + 0x100000 ∧ a % 0x20000 + n ≤ 0x18000)
    || decide (extBase ≤ a ∧ a + n ≤ 2 ^ 32)

/-- A job descriptor (R304). -/
structure JobDesc where
  mode   : Nat
  verify : Bool
  taglen : Nat
  slot   : Nat
  len    : Nat
  alen   : Nat
  nlen   : Nat
  rsv    : Bool
  nonce  : Nat
  aad    : Nat
  input  : Nat
  output : Nat
deriving DecidableEq, Repr

def parseJob (b : List Byte) : JobDesc :=
  let f := fun o n => leNat ((b.drop o).take n)
  { mode := f 0 1 % 16, verify := (f 0 1).testBit 4, taglen := f 1 1, slot := f 2 2, len := f 4 4, alen := f 8 4, nlen := f 12 1,
    rsv := f 0 1 / 32 == 0 && f 14 2 == 0, nonce := f 16 4, aad := f 20 4, input := f 24 4, output := f 28 4 }

/-- Tag bytes, associated-data bytes and nonce bytes of a job, and the bytes it reads and writes. -/
def JobDesc.tag (d : JobDesc) : Nat := if d.mode = 1 then 0 else d.taglen
def JobDesc.aads (d : JobDesc) : Nat := if d.mode = 2 ∨ d.mode = 3 then d.alen else 0
def JobDesc.nonces (d : JobDesc) : Nat := if d.mode = 4 then 0 else d.nlen
def JobDesc.reads (d : JobDesc) : Nat := d.len + (if d.verify then d.tag else 0)
def JobDesc.writes (d : JobDesc) : Nat :=
  if d.mode = 4 then (if d.verify then 0 else d.tag) else d.len + (if d.verify then 0 else d.tag)

/-- The descriptor's fields lie in their ranges and what it points at in the regions of R305. [DEDUCED, log 20] -/
def JobDesc.valid (d : JobDesc) : Bool :=
  d.rsv && decide (d.slot < 256 ∧ d.len ≤ 2 ^ 24) &&
  (match d.mode with
   | 1 => d.nlen == 16
   | 2 => decide (4 ≤ d.taglen ∧ d.taglen ≤ 16) && d.taglen % 2 == 0 && decide (7 ≤ d.nlen ∧ d.nlen ≤ 13 ∧ d.len < 2 ^ (8 * (15 - d.nlen)))
   | 3 => decide (8 ≤ d.taglen ∧ d.taglen ≤ 16) && d.nlen == 12
   | 4 => decide (4 ≤ d.taglen ∧ d.taglen ≤ 16)
   | _ => false) &&
  (d.nonces == 0 || cjobRegion d.nonce d.nonces) && (d.aads == 0 || cjobRegion d.aad d.aads)
    && (d.reads == 0 || cjobRegion d.input d.reads) && (d.writes == 0 || cjobRegion d.output d.writes)

/-- R312's CJOB uses of a key. -/
def JobDesc.allowed (d : JobDesc) (k : KeySlot) : Bool :=
  match k.policy with
  | 1 => d.mode == 2 && d.verify && k.dec
  | 2 => d.mode == 4 && d.verify && k.dec
  | 4 => (d.mode == 1 || d.mode == 3) && (if d.verify then k.dec else k.enc)
  | _ => false

/-- The key a job binds at its start: none where its slot does not allow it. [DEDUCED, log 20] -/
def State.bindJob (s : State) (d : JobDesc) : Option Bound :=
  match s.namedKey d.slot with
  | some k => if d.allowed k then s.bindKey d.slot else none
  | none => none

/-- A job's output and whether its tag, where it checks one, matches. -/
def JobDesc.run (d : JobDesc) (key nonce aad inp : List Byte) : List Byte × Bool :=
  let msg := inp.take d.len
  let tag := inp.drop d.len
  match d.mode with
  | 1 => (xorBytes msg (ctrStream key (beNat nonce) ((d.len + 15) / 16)), true)
  | 2 =>
    if d.verify then ccmOpen key nonce aad msg tag
    else let r := ccmSeal key nonce aad msg d.tag; (r.1 ++ r.2, true)
  | 3 =>
    if d.verify then gcmOpen key nonce aad msg tag
    else let r := gcmSeal key nonce aad msg d.tag; (r.1 ++ r.2, true)
  | _ =>
    let t := (cmac key msg).take d.tag
    if d.verify then ([], t == tag) else (t, true)

/-- A job ends with a STATUS (R305, R306): the status byte, the flags, and CJOB_DONE to the core that submitted it. [DEDUCED, log 20] -/
def State.endJob (s : State) (j : CipherJob) (status : Nat) : State :=
  let s := (s.unitWrite (j.desc.toNat + 13) (leBytes 1 status)).1
  let s := match status with
    | 2 => s.flag F.CPH_FLAGS_TAG_FAIL
    | 3 => s.flag F.CPH_FLAGS_POLICY
    | 5 | 6 => s.flag F.CPH_FLAGS_JOB_ERR
    | _ => s
  s.raiseTo Ev.CJOB_DONE Src.cph j.desc status (BitVec.twoPow 8 j.core.val) s.stamp

/-- Read what a job needs. -/
def State.jobInputs (s : State) (d : JobDesc) : State × Option (List Byte × List Byte × List Byte) :=
  match s.unitRead d.nonce d.nonces with
  | (s, none) => (s, none)
  | (s, some n) =>
    match s.unitRead d.aad d.aads with
    | (s, none) => (s, none)
    | (s, some a) =>
      match s.unitRead d.input d.reads with
      | (s, none) => (s, none)
      | (s, some i) => (s, some (n, a, i))

/-- Do a job whose descriptor has been read. -/
def State.runJob (s : State) (j : CipherJob) (d : JobDesc) : State :=
  if !d.valid then s.endJob j 5
  else if j.erased then (s.unitWrite d.output (zeros d.writes)).1.endJob j 4
  else match j.bound with
    | none => s.endJob j 3
    | some b =>
      match s.jobInputs d with
      | (s, none) => s.endJob j 6
      | (s, some (n, a, i)) =>
        let r := d.run b.key n a i
        match s.unitWrite d.output (if r.2 then r.1 else zeros d.writes) with
        | (s, true) => s.endJob j (if r.2 then 1 else 2)
        | (s, false) => s.endJob j 6

/-- CJOB_DONE: job `id` is done and leaves the queue. [DEDUCED, log 20] -/
def execCjobDone (id : Nat) (s : State) : Out :=
  match kget? s.key.jobs id with
  | none => .next s
  | some j =>
    let s := s.modKeyStore fun q => { q with jobs := sdel q.jobs id }
    match j.words with
    | none => .next (s.endJob j 6)
    | some b => .next (s.runJob j (parseJob b))

end Sys2Proof.Machine
end

