-- ==== Sys2Proof/Machine/Persist.lean ====
section
/-! DEFINITION. MRAM writes going on and ending (R399-R402, R205, R290, R316), scrubbing (R403), and the wipe of the secure partition
(R391, R281, R322, R426). -/

namespace Sys2Proof.Machine

/-! ### The write limit -/

/-- MRAM_WRITE_LIMIT_RELEASE: 10 us have passed since the last write of a word; a write waiting for it is performed. -/
def execMramWriteLimitRelease (addr : Word) (s : State) : Out :=
  if s.memu.mramPend.any fun w => w.addr == addr && !w.started then .next s.mramKick else .next s

/-! ### Completion -/

/-- The macro of an address. -/
def mramMacro (a : Nat) : Nat := (a - mramBase) / 0x100000

/-- A word is remapped to a spare of its macro; the answer is false when no spare remains. [DESIGN CHOICE, log 29] -/
def State.remap (s : State) (a : Nat) : State × Bool :=
  let m := mramMacro a
  let used := (kget? s.memu.spares m).getD 0
  if 1024 ≤ used then (s, false)
  else (({ s with memu := { s.memu with spares := sput s.memu.spares m (used + 1) } }).setFld F.MEM_MRAM_STAT_REMAP
    (s.fld F.MEM_MRAM_STAT_REMAP + 1), true)

/-- A word of the running ledger command could not be written; what RESULT then says is open. [DEDUCED, log 32] -/
def State.lgrCmdFailed (s : State) : State :=
  (s.drawn 1).modLgr fun l => { l with cmd := l.cmd.map fun c => ((Config.freeValue 4 s.freeCtr).toNat, c.2) }

/-- What waits for a write goes on with its result. -/
def State.mramDone (s : State) (w : MramWrite) (ok : Bool) : State :=
  match w.writer with
  | .commit ids => ids.foldl (fun (s : State) id => if ok then s.stepDone id w.addr.toNat else s.squashServe id Sq.PERSIST_FAIL) s
  | .ceil id => s.ceilDone id (leNat (w.bytes.map (·.2))) ok
  | .key => s.keyLoaded ok
  | .record .security =>
    if ok then s else { s with sec := { s.sec with cmd := s.sec.cmd.map fun c => { c with failed := true } } }
  | .record .margin => s.ageWritten
  | .command => if ok then s else s.lgrCmdFailed
  | .core _ | .table | .record _ | .scrub => s

/-- MRAM_WRITE_COMPLETE: the oldest write under way at `addr` ends (R402). [DEDUCED, log 28] -/
def execMramWriteComplete (addr : Word) (outcome : MramOutcome) (s : State) : Out :=
  match takeFirst (fun w => w.addr == addr && w.started) s.memu.mramPend with
  | none => .next s
  | some (w, rest) =>
    let s := { s with memu := { s.memu with mramPend := rest } }
    let (s, ok) := match outcome with
      | .verified => (s, true)
      | .remapped => s.remap addr.toNat
      | .failed => (s, false)
    let s := if ok then s.mramStore w else s.mramError addr.toNat
    .next (s.mramDone w ok).mramKick

/-! ### Scrubbing -/

/-- MRAM_SCRUB: the scrubber reads the word at `addr`. [DEDUCED, log 28] -/
def execMramScrub (addr : Word) (outcome : ScrubOutcome) (s : State) : Out :=
  let a := addr.toNat / 4 * 4
  if !s.on F.MEM_MSCRUB_EN || decide (a < mramBase ∨ mramBase + 0x1000000 ≤ a) then .next s
  else match outcome with
    | .good => .next s
    | .weak => .next (s.rewriteWord a)
    | .corrected => .next (s.mramCorrected a)
    | .uncorrectable => .next (s.mramError a)

/-! ### The wipe -/

/-- Zero banks 52 to 63. [DEDUCED, log 32] -/
def State.zeroSecure (s : State) : State := s.clearRange (bankBase 52) (bankBase 64) s.fills

/-- The wipe starts: keys first, then the banks; a second trigger joins it. -/
def State.startWipe (s : State) (cause : BitVec 2) : State :=
  match s.memu.wipe with
  | some c => { s with memu := { s.memu with wipe := some (c ||| cause) } }
  | none =>
    let s := s.wipeKeys.zeroSecure
    { s with sec := { s.sec with idk := none, lms := none, nonce := none }, memu := { s.memu with wipe := some cause } }

/-- PARTITION_WIPED: the wipe ends with its event, and the ledger is rebuilt as after a power cut, whether enabled or not (R281). [DEDUCED, log 32] -/
def execPartitionWiped (mram : List (Word × ScrubOutcome)) (s : State) : Out :=
  match s.memu.wipe with
  | none => .next s
  | some c =>
    let s := { s with memu := { s.memu with wipe := none } }
    .next (s.raise Ev.PARTITION_WIPED Src.memSecure 0 c.toNat |>.beginRebuild mram)

end Sys2Proof.Machine
end

