-- ==== Sys2Proof/Machine/Directed.lean ====
section
/-! DEFINITION. Directed windows: claiming a context for an expected ACK, decoding it and what its answer does (R108, R179, R180, R258, R515). -/

namespace Sys2Proof.Machine

/-! ### The answer -/

/-- The transmission's own end: the ACK matched or not (R258, R515). -/
def State.ackResult (s : State) (o : TxOp) (matched : Bool) : State :=
  let s := if matched then s.tally 4 else s
  match o.kind with
  | .deferred no =>
    if matched then s.completeOp o 1
    else match s.mac.store.find? fun d => d.no == no with
      | none => s
      | some d =>
        if max 1 (s.fld F.MAC_ALM_CTL_DL_RETRY) ≤ d.tries then
          (s.finishDeferred no .dropped Drop.noAck 2).raise Ev.DL_FAILED Src.macStore (BitVec.ofNat 32 (nodeOf d.addr)) 0
        else s.modDeferred no fun d => { d with booked := false }
  | _ => s.completeOp o (if matched then 1 else 2)

def State.closeDir (s : State) (id : Nat) : State := s.modMac fun m => { m with dirs := m.dirs.filter fun w => w.id != id }

/-! ### The claim (R179) -/

/-- The context a window claims on its lot, if one may be claimed. [DEDUCED, log 37] -/
def State.claimable (s : State) (n : Port) (j : Nat) : Option Nat :=
  let a := s.activeCtx n j
  let w := s.watcherCtx n j
  if (s.ctx a).state = .idle then some a
  else if (s.ctx w).state = .idle ∨ (s.ctx w).state = .qualify then some w
  else none

/-- DIRECTED_WINDOW_OPEN. -/
def execDirectedWindowOpen (id : Nat) (s : State) : Out :=
  match s.mac.dirs.find? fun w => w.id == id with
  | none => .next s
  | some w =>
    if w.ctx.isSome then .next s
    else match s.claimable w.op.port w.lot with
      | some c =>
        let s := match (s.ctx c).rxid with | some x => s.squash x Sq.CTX_FULL | none => s
        let s := s.modCtx c fun x => { x with state := .directed, rxid := none, qual := none }
        .next (s.modMac fun m => { m with dirs := m.dirs.map fun y => if y.id == id then { y with ctx := some c, thr := s.thrNow } else y })
      | none => .next (((s.tally 9).closeDir id).ackResult w.op false)

/-! ### The short preamble and the body (R180) -/

/-- Soft values of one body symbol, a pair's added. -/
def State.dirSoft (s : State) (ps : List Port) (ts : List Nat) (thr : List Word) (chan : LotChan) (h : Nat) : List Int :=
  match s.allTrans ps h with
  | none => []
  | some tr =>
    let per := tr.zipIdx.map fun p =>
      let w := if p.1.txh && p.1.blk.contains chan.lot then 0 else eraseWeight (s.on F.DMD_CTL_ERASE_EN) (Thr.eraseDb thr) p.1
      let hs := portPart ts.length p.2 chan.h
      let ns := portPart ts.length p.2 chan.nu
      (List.range ts.length).filterMap fun m =>
        let k := ts.getD m 0
        if isPilot k then none
        else some (softTone (Thr.thrK thr) (Thr.llrScale thr) w k (p.1.x.getD (k - 8) Cplx.zero) (hs.getD m Cplx.zero) (ns.getD m 0))
    match per with
    | [] => []
    | x :: rest => (rest.foldl (fun a b => List.zipWith (· + ·) a b) x).map fun v => max (-62) (min 62 v)

/-- The body a directed window decodes; none where its preamble is not accepted. -/
def State.dirBody (s : State) (w : DirWin) : Option (List Byte) :=
  let n := w.op.port
  let ps := s.rxPorts n
  let plan := s.plan n
  let ts := lotTones plan w.lot
  let d := (dataTones plan [w.lot]).length
  match s.dirChan ps plan w with
  | none => none
  | some (h, chan) =>
    match s.toneVec ps ts (h - 36), s.toneVec ps ts (h - 18), s.toneVec ps ts h, s.toneVec ps ts (h + 18) with
    | some x0, some x1, some x2, some x3 =>
      let nu := chan.nu
      let start : Rat := 1024 * (h : Rat) - tauOf plan ps.length [chan] - 36864
      let dq := (detector ps.length ts (subVec (subVec (addVec x0 x1) x2) x3) 4 nu).1
      if decide (-(12288 / 5 : Rat) ≤ start - w.tAck ∧ start - w.tAck ≤ 12288 / 5) && dbGe dq 1 (Thr.qualD w.thr) then
        let syms := (List.range (ackSyms d)).map fun m => s.dirSoft ps ts w.thr chan (h + 36 + 18 * m)
        some (bitsBytes (decodeBits hseed .half 24 (softSums 2 60 d syms)))
      else none
    | _, _, _, _ => none

/-- The body answers the frame (R108). -/
def DirWin.matches (w : DirWin) (body : List Byte) : Bool :=
  leNat body % 16 == 2 && leNat body / 16 % 65536 == w.token.toNat

/-- DIRECTED_WINDOW_END: the context returns to IDLE and the MAC has its answer. -/
def execDirectedWindowEnd (id : Nat) (s : State) : Out :=
  match s.mac.dirs.find? fun w => w.id == id with
  | none => .next s
  | some w =>
    match w.ctx with
    | none => .next s
    | some c =>
      let ok := (s.ctx c).state == .directed && (match s.dirBody w with | some b => w.matches b | none => false)
      let s := if (s.ctx c).state == .directed then s.idleCtx c else s
      .next ((s.closeDir id).ackResult w.op ok)

end Sys2Proof.Machine
end

