-- ==== Sys2Proof/Machine/Modes.lean ====
section
/-! DEFINITION. Operating modes as every unit changes them (R36-R39, R42, R43). -/

namespace Sys2Proof.Machine

/-- The code of SYS_MODE_STAT. -/
def modeCode : Mode → Nat
  | .head => 0
  | .follow => 1
  | .holdover => 2
  | .subordinate => 3
  | .survey => 4
  | .lastgasp => 5
  | .dormant => 6
  | .service => 7

/-- The modes in which the walker works (R239). -/
def modeWalks : Mode → Bool
  | .head | .follow | .holdover | .subordinate => true
  | _ => false

def State.inMode (s : State) (m : Mode) : Bool := s.sys.mode == m

/-! ### The grid of ORIGIN (R231) -/

def State.origin (s : State) : Nat := s.pair R.MAC_SF_ORIGIN_LO R.MAC_SF_ORIGIN_HI

/-- The first ORIGIN + k x SFLEN not before t. -/
def State.gridFrom (s : State) (t : Nat) : Nat :=
  let len := max 1 s.sfDticks
  let o := s.origin
  if o ≤ t then o + (t - o + len - 1) / len * len else o - (o - t) / len * len

/-! ### Transitions -/

/-- Beacons booked for the next superframe, taken back without a report. [DEDUCED, log 41] -/
def State.unbookBeacons (s : State) : State :=
  ((s.mac.ops.filter fun o => o.kind == .beacon && o.launch.isNone).foldl (fun (s : State) o => s.removeOp o.id) s).txenSettleAll

/-- The superframe built is given up: the grid it was built for is no longer the next one's (R231, R232, R267). [DEDUCED, log 41] -/
def State.unbuild (s : State) : State := s.unbookBeacons.modMac fun m => { m with built := none }

/-- The mode that places the next superframe; HOLDOVER places it as FOLLOW does (R267, R268). -/
def State.gridOwner (s : State) : Mode := if s.gridMode == .holdover then .follow else s.gridMode

/-- The pending mode as SYS_MODE_STAT shows it; a mode that places its first superframe itself takes the next one over. -/
def State.setPend (s : State) (m : Option Mode) : State :=
  let old := s.gridOwner
  let s := { s with sys := { s.sys with pend := m } }
  let s := if s.gridOwner == old then s else s.unbuild
  match m with
  | some x => (s.flag F.SYS_MODE_STAT_PENDING).setFld F.SYS_MODE_STAT_PEND_MODE (modeCode x)
  | none => (s.setFld F.SYS_MODE_STAT_PENDING 0).setFld F.SYS_MODE_STAT_PEND_MODE 0

/-- MODE_REFUSED (R38). [DEDUCED, log 47] -/
def State.modeRefused (s : State) (code : Nat) : State := s.raise Ev.MODE_REFUSED Src.sysMode (BitVec.ofNat 32 code) 0

/-- What leaving and entering modes does in the MAC: windows go with the walking modes (R239); FOLLOW begins with a step of the grid (R267); a
HOLDOVER episode has its own TIMING_LOST (R270); in SURVEY, and in HEAD from its first superframe on, the grid is ORIGIN's again (R231). -/
def State.macMode (s : State) (old new : Mode) : State :=
  let s := if modeWalks old && !modeWalks new then s.modMac fun m => { m with windows := [] } else s
  let s := if new == .holdover then s.setFld F.MAC_MSTAT_TLOST 0 else if old == .holdover then
      (s.setFld F.MAC_MSTAT_TLOST 0).modMac fun m => { m with follow := { m.follow with frozen := false } }
    else s
  let s := if new == .follow && (old == .survey || old == .head) then
      s.modMac fun m => { m with follow := { m.follow with entered := s.now == s.mac.cur.start, word := s.reg R.MAC_FOLLOW, counted := none } }
    else s
  if s.mac.offGrid && (new == .survey || (new == .head && s.now == s.mac.cur.start)) then
    s.unbuild.modMac fun m => { m with offGrid := false, next := s.gridFrom (s.now + 1) }
  else s

/-- A transition: the mode and its register change and MODE_CHANGE is raised (R38). -/
def State.setMode (s : State) (new : Mode) : State :=
  let old := s.sys.mode
  let s := { s with sys := { s.sys with mode := new } }
  let s := (s.setPend none).setFld F.SYS_MODE_STAT_MODE (modeCode new)
  (s.macMode old new).raise Ev.MODE_CHANGE Src.sysMode (BitVec.ofNat 32 (modeCode new + 16 * modeCode old)) 0

/-- A request of firmware's still pending is overtaken by a transition of the hardware and refused (R42); a return to FOLLOW pending in
HOLDOVER is the hardware's own. [DEDUCED, log 47] -/
def State.overtake (s : State) : State :=
  match s.sys.pend with
  | some m => if s.inMode .holdover && m == .follow then s.setPend none else (s.setPend none).modeRefused (modeCode m)
  | none => s

/-- A transition of the hardware's own, at once (R42); into a mode that does not transmit (R36), transmissions on the line end with their
symbol. Those of a device entering LASTGASP are cut there (R41). [DEDUCED, log 47] -/
def State.forceMode (s : State) (new : Mode) : State :=
  let s := s.overtake.setMode new
  if s.txMode then s
  else
    let s := s.cutCals
    if new == .lastgasp then s else s.cutAtSymbol (fun _ => true) Drop.mode

/-- Reception traces that keep the device from going on: receptions that have their decision (R41, R572). -/
def State.decidedRx (s : State) : Bool := s.dmd.rx.any fun r => r.decision.isSome

/-- Squash every reception without its decision; the answer counts them. -/
def State.squashUndecided (s : State) (reason : Nat) : State × Nat :=
  let ids := s.dmd.used.filter fun id =>
    match s.findRx id with
    | some r => r.decision.isNone
    | none => !(s.ctxsOf id).isEmpty
  (ids.foldl (fun (s : State) id => s.squash id reason) s, ids.length)

/-- Drop everything still in the timed-action queue and every stored descriptor; EVENT actions go without an event (R41, R572). -/
def State.dropQueue (s : State) (reason : Nat) : State :=
  let gone := s.mac.events.filterMap (·.gate)
  let s := s.modMac fun m => { m with events := [] }
  let s := s.dropWhere (fun o => o.stage == .queued) reason
  let s := s.mac.store.foldl (fun (s : State) d => s.dropStored d reason) s
  gone.foldl (fun (s : State) id => s.freeRxid id) s

end Sys2Proof.Machine
end

