-- ==== Sys2Proof/Machine/Superframe.lean ====
section
/-! DEFINITION. The superframe (R230-R233), beacons (R234-R236, R464), the almanac walker and its windows (R237-R250), downlink opportunities
(R254-R256), EVENT actions (R264), and the following of a master (R265-R270, R467). -/

namespace Sys2Proof.Machine

/-! ### The superframe -/

/-- What the MAC samples at a build instant (R232). [DEDUCED, log 41] -/
def State.sampleSf (s : State) : SfSample :=
  let sub := s.gridMode == .subordinate
  { slotlen := if sub then s.timeNext.2.1 else s.slotlenReg
    openmap := (s.reg R.MAC_OPENMAP_HI ++ (s.reg R.MAC_OPENMAP_LO &&& 0xFFFFFFFE)).setWidth 64
    domain := s.reg R.MAC_DOMAIN, bcn := s.reg R.MAC_BCN_CTL
    lots := (List.range 6).map fun n => s.fld (F.MAC_BCN_LOTSn_LOTS n)
    bsn := BitVec.ofNat 16 (if sub then s.timeNext.2.2 else s.fld F.MAC_BSN_BSN_NEXT), start := s.nextStart }

/-- The uncertainty of R270 exceeds UNC_MAX. [DEDUCED, log 41] -/
def State.uncertain (s : State) (start : Nat) : Bool :=
  let f := s.mac.follow
  let d := (start : Rat) - s.masterStart
  let lim : Rat := (288 * s.fld F.MAC_HOLD_UNC_MAX : Nat)
  decide (lim * lim < f.sx * f.sx + (f.sv * d / 1000000000) * (f.sv * d / 1000000000))

/-- TIMING_LOST, once in a HOLDOVER episode. -/
def State.checkTiming (s : State) (start : Nat) : State :=
  if s.inMode .holdover && !s.on F.MAC_MSTAT_TLOST && s.uncertain start then
    ((s.flag F.MAC_MSTAT_TLOST).modMac fun m => { m with follow := { m.follow with frozen := true } }).raise Ev.TIMING_LOST Src.macFollow 0 0
  else s

/-- SUPERFRAME_START (R233): the values sampled at the build instant are in force, BSN counts and SF_START is raised. [DEDUCED, log 41] -/
def execSuperframeStart (s : State) : Out :=
  if s.sys.phase != .running || s.inMode .dormant then .next s
  else
    let b := s.mac.built.getD s.sampleSf
    let len := 64 * b.slotlen * symDticks
    let following := s.gridMode == .follow || s.gridMode == .holdover || s.gridMode == .subordinate
    let was := s.mac.offGrid
    let s := s.modMac fun m =>
      { m with
        cur := b, built := none, mismatch := false, winFull := false, walked := m.walked.filter fun w => w / 64 == b.bsn.toNat
        next := b.start + len, offGrid := following }
    let s : State := if !following && was then s.modMac fun m => { m with next := s.gridFrom (b.start + 1) } else s
    let s := (s.setReg R.MAC_SF_START_LO (BitVec.ofNat 32 b.start)).setReg R.MAC_SF_START_HI (BitVec.ofNat 32 (b.start / 2 ^ 32))
    let s := s.setFld F.MAC_BSN_BSN_NEXT (b.bsn + 1).toNat
    let s := s.modMac fun m =>
      { m with follow := { m.follow with
          entered := m.follow.entered || s.gridMode == .follow
          seen := m.follow.seen && (((m.follow.word ^^^ s.reg R.MAC_FOLLOW) &&& 0xFF003FFF) == 0 || !(s.inMode .follow || s.inMode .holdover))
          word := s.reg R.MAC_FOLLOW } }
    .next ((s.raise Ev.SF_START Src.macSf (b.bsn.setWidth 32) 0).checkTiming b.start)

/-- A write of MAC_SF_ORIGIN_LO, with the held high word (R231, R272): taken in SURVEY only, at once. [DEDUCED, log 25] -/
def State.writeOriginLo (s : State) (lo : Word) : State :=
  if s.inMode .survey then
    let s := (s.setReg R.MAC_SF_ORIGIN_LO lo).setReg R.MAC_SF_ORIGIN_HI s.mac.originHi
    s.unbuild.modMac fun m => { m with next := s.gridFrom (s.now + symDticks), offGrid := false, originHi := s.mac.originHi }
  else s.modMac fun m => { m with originHi := s.reg R.MAC_SF_ORIGIN_HI }

/-- A write of MAC_SF_ORIGIN_HI is held until the next write of the low word (R272); it counts in SURVEY only (R231). -/
def State.writeOriginHi (s : State) (v : Word) : State := if s.inMode .survey then s.modMac fun m => { m with originHi := v } else s

/-- SF_ORIGIN_WRITE, by either agent. -/
def execSfOriginWrite (_agent : Agent) (lo : Word) (s : State) : Out := .next (s.writeOriginLo lo)

/-! ### Beacons (R234-R236, R255, R464) -/

def dedupWords : List Word → List Word
  | [] => []
  | a :: as => a :: (dedupWords as).filter (· != a)

/-- The pending nodes of a superframe, by their oldest stored descriptor (R255). -/
def State.pendNodes (s : State) (bsn : Nat) : State × List Nat :=
  (dedupWords (s.mac.store.map (·.addr))).foldl (fun (p : State × List Nat) a =>
    match p.1.pageInNow a with
    | (s, some i) =>
      let e := s.almOf i
      (s, if e.wakes bsn && e.dlSlot != 0 then p.2 ++ [nodeOf a] else p.2)
    | (s, none) => (s, p.2)) (s, [])

/-- Ports that send a beacon: named, the lower of a yoked pair, its lots in the plan and an empty beacon fits slot 0 (R235). -/
def State.beaconPort (s : State) (b : SfSample) (n : Port) : Bool :=
  let lots := lotsOf (b.lots.getD n 0)
  let plan := s.plan n
  !lots.isEmpty && lots.all (planLot plan) && decide (beaconSyms plan lots 0 ≤ b.slotlen)

/-- The beacon of a superframe. -/
def State.beaconOf (s : State) (b : SfSample) (mode : Mode) (nodes : List Nat) : Beacon :=
  let valid := match s.refPort with | some p => s.lp[p].zcLock | none => false
  let hold := if mode == .subordinate then (s.timeField 23 1).testBit 0 else mode == .holdover
  { domain := b.dom, bsn := b.bsn.toNat, slotlen := b.slotlen, epoch := b.start % 2 ^ 48
    mphase := match s.refPort with | some p => s.mainsPhase p b.start | none => 0
    rank := if mode == .subordinate then 0xFF else natBits b.domain.toNat 23 16
    flags := (if valid then 1 else 0) + (if hold then 2 else 0), openmap := b.openmap.toNat, pend := nodes }

/-- A beacon's queue entry on port n. -/
def State.beaconOp (s : State) (b : SfSample) (n : Port) (bc : Beacon) (tag : Option (List Byte)) : TxOp :=
  let lots := lotsOf (b.lots.getD n 0)
  let plan := s.plan n
  { TxOp.blank with
    kind := .beacon, encr := if tag.isSome then .done else .waiting, time := b.start, port := n, pair := s.yokedPort n, lots := lots
    hdr := parseLong (bc.header lots), addr := netAddr bc.domain broadcastNode, payload := bc.body ++ tag.getD []
    tones := dataTones plan lots, plan := plan }

/-- Build the beacons of a superframe: under the domain key, or as requests to the master. -/
def State.buildBeacons (s : State) (b : SfSample) (mode : Mode) : State :=
  let named := allPorts.filter fun (n : Port) => b.bcn.getLsbD n && s.txPort n == n
  let ports := named.filter fun n => s.beaconPort b n
  let key := match s.namedKey (natBits b.bcn.toNat 15 8) with
    | some k => if k.policy = 2 ∧ k.enc = true then some k.key else none
    | none => none
  let relay := mode == .subordinate
  if named.isEmpty then s
  else if key.isNone && !relay then s.flag F.MAC_FLAGS_SF_CFG_ERR
  else
    let s := if ports.length < named.length then s.flag F.MAC_FLAGS_SF_CFG_ERR else s
    let (s, nodes) := s.pendNodes b.bsn.toNat
    let cap := min nodes.length (min 32 (natBits b.bcn.toNat 21 16))
    let fits := fun n => ports.all fun p => decide (beaconSyms (s.plan p) (lotsOf (b.lots.getD p 0)) n ≤ b.slotlen)
    let np := (((List.range (cap + 1)).filter fits).getLast?).getD 0
    let s := if np < nodes.length then s.flag F.MAC_FLAGS_BCN_TRUNC else s
    let bc := s.beaconOf b mode (nodes.take np)
    ports.foldl (fun (s : State) (n : Port) =>
      let lots := lotsOf (b.lots.getD n 0)
      let tag := if relay then none else key.map fun k => (cmac k (bc.message lots)).take 8
      let s := (s.addOp (120 + n.val) (s.beaconOp b n bc tag)).1
      if relay then s.ulkSend 7 0 n (bc.message lots) else s) s

/-- Build a superframe: its sample is kept, and its beacons are booked where the mode sends them. -/
def State.buildSf (s : State) (b : SfSample) : State :=
  let s := s.modMac fun m => { m with built := some b }
  match s.beaconMode with
  | .head | .follow | .holdover => if s.on F.MAC_CTL_BCN_EN then s.buildBeacons b s.beaconMode else s
  | .subordinate => if s.on F.ULK_CTL_BCN_RELAY then s.buildBeacons b .subordinate else s
  | _ => s

/-- BCN_LEAD in dticks; below 1 ms it is 1 ms (R236). -/
def State.beaconLead (s : State) : Nat := usDticks (100 * max 10 (s.fld F.MAC_SF_CTL_BCN_LEAD))

/-- BEACON_BUILD: the build instant S - BCN_LEAD has come (R232, R236). -/
def execBeaconBuild (s : State) : Out :=
  if s.sys.phase != .running || s.inMode .dormant || s.mac.built.isSome || decide (s.now + s.beaconLead < s.nextStart) then .next s
  else .next (s.buildSf s.sampleSf)

/-- A write of MAC_BSN is taken in SURVEY (R231); a superframe already built takes the new BSN, its other samples
standing (R232). [DEDUCED, log 41] -/
def State.writeBsn (s : State) (v : Word) : State :=
  if s.inMode .survey then
    let s := s.setReg R.MAC_BSN (v &&& 0xFFFF)
    match s.mac.built with
    | some b => if s.gridMode == .subordinate then s else s.unbookBeacons.buildSf { b with bsn := v.setWidth 16 }
    | none => s
  else s

/-- Beacons still without their tag are not sent (R464). -/
def State.refuseBeacons (s : State) (p : TxOp → Bool) : State :=
  let gone := s.mac.ops.filter fun o => o.kind == .beacon && o.encr == .waiting && p o
  if gone.isEmpty then s else (gone.foldl (fun (s : State) o => s.removeOp o.id) s).flag F.MAC_FLAGS_SF_CFG_ERR

/-! ### Windows (R246, R247) -/

/-- The whole square root, for numbers below 2^128. -/
def isqrt : Nat → Nat → Nat → Nat
  | 0, _, r => r
  | b + 1, n, r => if (r + 2 ^ b) * (r + 2 ^ b) ≤ n then isqrt b n (r + 2 ^ b) else isqrt b n r

/-- The floor of a - sqrt q, for q not negative. [DEDUCED, log 41] -/
def floorSubSqrt (a q : Rat) : Int :=
  let z := (a - (isqrt 64 q.floor.toNat 0 : Nat)).floor
  if (z : Rat) ≤ a ∧ q ≤ (a - z) * (a - z) then z else z - 1

/-- A guard as c + sqrt q: base + sqrt q, raised to the floor and then capped. [DEDUCED, log 42] -/
def guardOf (base q low cap : Rat) : Rat × Rat :=
  if base ≤ low ∧ q ≤ (low - base) * (low - base) then (min low cap, 0)
  else if cap ≤ base ∨ (cap - base) * (cap - base) ≤ q then (cap, 0)
  else (base, q)

/-- The guard G after a time dm, from the uncertainties SX and SV (R246), for a normal wake or a search wake. -/
def State.guard (s : State) (search : Bool) (sx sv dm : Rat) : Rat × Rat :=
  let k : Rat := mkRat (s.fld (if search then F.MAC_EPH_CTL_SEARCH_K else F.MAC_EPH_CTL_K_SIGMA)) 4
  let cap : Rat := ((if search then symDticks * max 1 (min 64 (s.fld F.MAC_SEARCH_SEARCH_MAX)) else 288 * s.fld F.MAC_GUARD_G_MAX : Nat) : Rat)
  let r : Rat := sv * dm / 1000000000
  guardOf ((288 * s.fld F.MAC_GUARD_G_BASE : Nat) : Rat) (k * k * (sx * sx + r * r)) ((288 * s.fld F.MAC_GFLOOR_GUARD_FLOOR : Nat) : Rat) cap

/-- The prediction p_m and guard of one hypothesis. -/
def State.hypothesis (s : State) (e : Eph) (search : Bool) (n dm : Nat) : Rat × Rat × Rat :=
  ((n : Rat) + (e.x : Rat) + e.rate * (dm : Rat), s.guard search (e.sx : Rat) (e.sv : Rat) (dm : Rat))

def minInt : List Int → Int
  | [] => 0
  | a :: as => as.foldl min a

/-- lo, hi and p_0 of a window for a slot that starts at n, over `hyp` hypotheses. -/
def State.windowSpan (s : State) (e : Eph) (w : Nat) (search : Bool) (n start sfLen hyp : Nat) : Int × Int × Rat :=
  let hs := (List.range (max 1 hyp)).map fun m => s.hypothesis e search n (n - start + m * 2 ^ w * sfLen)
  (minInt (hs.map fun h => floorSubSqrt (h.1 - h.2.1) h.2.2), -minInt (hs.map fun h => floorSubSqrt (-(h.1 + h.2.1)) h.2.2),
    (hs.headD (0, 0, 0)).1)

/-! ### The walker (R238-R240) -/

/-- An almanac reference. -/
structure AlmRef where
  node  : Nat
  dl    : Bool
  w     : Nat
  phase : Nat
  valid : Bool
deriving DecidableEq, Repr

def parseRef (n : Nat) : AlmRef :=
  { node := natBits n 17 0, dl := n.testBit 18, w := natBits n 22 19, phase := natBits n 34 23, valid := n.testBit 35 }

/-- A reference skipped and reported (R239). -/
def State.almMismatch (s : State) (node : Nat) : State :=
  let s := (s.flag F.MAC_FLAGS_ALM_MISMATCH).tally 12
  if s.mac.mismatch then s.tallyEvent Ev.ALM_MISMATCH
  else (s.modMac fun m => { m with mismatch := true }).raise Ev.ALM_MISMATCH Src.macWalker (BitVec.ofNat 32 node) 0

/-- Arm an uplink window (R240, R246). -/
def State.armWindow (s : State) (b : SfSample) (slot i : Nat) (a : AlmEntry) (port : Port) (lots : List Nat) : State :=
  if 256 ≤ (s.mac.windows.filter fun w => !w.closed).length then
    let s := (s.flag F.MAC_FLAGS_WIN_FULL).tally 11
    if s.mac.winFull then s.tallyEvent Ev.WIN_FULL
    else (s.modMac fun m => { m with winFull := true }).raise Ev.WIN_FULL Src.macWalker (BitVec.ofNat 32 slot) 0
  else
    let e := s.ephOf i
    let search := decide (s.missLimit ≤ e.empty) && s.on F.MAC_CTL_SEARCH_EN
    let n := b.start + slot * b.slotlen * symDticks
    let sp := s.windowSpan e a.w search n b.start (64 * b.slotlen * symDticks) (s.fld F.MAC_ALM_CTL_UL_HYP)
    let win : Window :=
      { id := s.mac.nextWin, addr := BitVec.ofNat 32 (s.stallLe i Rec.addr 4), w := a.w, port := port, lots := lots, lo := sp.1, hi := sp.2.1
        armed := s.now, slotAt := n, sfAt := b.start, search := search, closed := false, hit := false, done := false }
    let s := if sp.1 < s.now then s.tally 10 else s
    s.modMac fun m => { m with windows := m.windows ++ [win], nextWin := m.nextWin + 1 }

/-- A lead-in from `t` would reach into slot 0, an OPEN slot or the master slot before slot `slot`. -/
def State.leadBarred (s : State) (b : SfSample) (slot : Nat) (t : Int) : Bool :=
  let j0 := (t - b.start) / ((b.slotlen * symDticks : Nat) : Int)
  decide (j0 ≤ 0) || (List.range slot).any fun j =>
    decide (j0 ≤ (j : Int)) && (b.openmap.getLsbD j || s.masterSlot == some j)

/-- A downlink opportunity (R256): E and launch. -/
def State.dlLaunch (s : State) (b : SfSample) (slot i : Nat) (a : AlmEntry) : Nat × Nat :=
  let n := b.start + slot * b.slotlen * symDticks
  let sp := s.windowSpan (s.ephOf i) a.w false n b.start (64 * b.slotlen * symDticks) (s.fld F.MAC_ALM_CTL_DL_HYP)
  let syms := fun (x : Int) => min 32 ((x + 18431) / 18432).toNat
  if !a.dlExt then (0, gridOf (max sp.2.2 (n : Rat)))
  else
    let e := syms (sp.2.1 - sp.1)
    let t := sp.2.1 - (e * symDticks : Nat)
    if t < n ∧ s.leadBarred b slot t = true then (syms (sp.2.1 - n), n) else (e, t.toNat)

/-- R33: an action needs 250 us in the queue. [DEDUCED, log 42] -/
def State.tooLate (s : State) (t : Nat) : Bool := decide (t < s.now + 6144)

/-- Book the stall's first stored descriptor at a downlink opportunity. [DEDUCED, log 42] -/
def State.downlink (s : State) (b : SfSample) (slot i : Nat) (a : AlmEntry) (port : Port) (lots : List Nat) : State :=
  match s.firstStored (BitVec.ofNat 32 (s.stallLe i Rec.addr 4)) with
  | none => s
  | some d =>
    if d.booked then s
    else
      let (e, t) := s.dlLaunch b slot i a
      let n := b.start + slot * b.slotlen * symDticks
      let mask := some (s.stallMask i)
      let o := s.frameOp d.d (.deferred d.no) port lots a.mc e mask t none []
      if n + b.slotlen * symDticks < o.ends t then s.flag F.MAC_FLAGS_DLQ_FULL
      else if s.tooLate t then
        ((s.tally 6).raise Ev.TX_LATE Src.macQueue (BitVec.ofNat 32 (s.entryAddr d.ring d.n)) 0).finishDeferred d.no .dropped Drop.txLate
          (if d.d.ackreq then 2 else 0)
      else s.bookStored d port lots a.mc e mask t none

/-- One reference of slot `slot` of superframe b. [DEDUCED, log 42] -/
def State.walkRef (s : State) (b : SfSample) (slot : Nat) (r : AlmRef) : State :=
  if !r.valid || b.bsn.toNat % 2 ^ r.w != r.phase then s
  else match s.pageInNow (netAddr b.dom r.node) with
    | (s, none) => s.almMismatch r.node
    | (s, some i) =>
      let a := s.almOf i
      if s.stallState i = 3 then s
      else if s.stallState i = 0 || !a.valid || a.w != r.w || a.phase != r.phase || (if r.dl then a.dlSlot else a.ulSlot) != slot
        || b.openmap.getLsbD slot || s.masterSlot == some slot then s.almMismatch r.node
      else if h : a.port < 6 then
        let port : Port := ⟨a.port, h⟩
        let plan := s.plan (s.txPort port)
        let lots := s.neighbourLots i plan a.lots
        if lots.isEmpty || a.lots.any (fun j => !planLot plan j || !s.fldBit (F.DMD_LOTENn_LOT port) j) then s.almMismatch r.node
        else if r.dl then s.downlink b slot i a port lots else s.armWindow b slot i a port lots
      else s.almMismatch r.node

/-- The superframe whose slot `slot` starts next: the running one, or the one built. -/
def State.walkOf (s : State) (slot : Nat) : Option SfSample :=
  if s.now ≤ s.mac.cur.start + slot * s.slotDticks then some s.mac.cur else s.mac.built

/-- The walk instant of a slot has come: WALK_LEAD symbols before it, at least 16 (R239). -/
def State.walkDue (s : State) (b : SfSample) (slot : Nat) : Bool :=
  decide (b.start + slot * b.slotlen * symDticks ≤ s.now + max 16 (s.fld F.MAC_SF_CTL_WALK_LEAD) * symDticks)

/-- ALMANAC_WALK: slot `slot`'s list, WALK_LEAD before the slot or at its superframe's build instant. [DEDUCED, log 42] -/
def execAlmanacWalk (slot : Fin 64) (s : State) : Out :=
  if slot = 0 || !s.on F.MAC_CTL_WALK_EN || !modeWalks s.sys.mode then .next s
  else match s.walkOf slot with
    | none => .next s
    | some b =>
      let mark := b.bsn.toNat * 64 + slot.val
      if s.mac.walked.contains mark || !s.walkDue b slot then .next s
      else
        let s := s.modMac fun m => { m with walked := m.walked ++ [mark] }
        match s.unitRead ((s.reg R.MAC_ALM_BASE).toNat / 8 * 8 + 8 * slot.val) 8 with
        | (s, none) => .next s
        | (s, some d) =>
          let at_ := leNat (d.take 4)
          .next ((List.range (leNat ((d.drop 4).take 2))).foldl (fun (s : State) k =>
            match s.unitRead (at_ + 8 * k) 8 with
            | (s, some e) => s.walkRef b slot (parseRef (leNat e))
            | (s, none) => s) s)

/-! ### Wakes (R248, R249) -/

/-- WINDOW_CLOSE: the span and its eight symbols have passed. -/
def execWindowClose (id : Nat) (s : State) : Out :=
  .next (s.modMac fun m => { m with windows := m.windows.map fun w => if w.id == id then { w with closed := true } else w })

/-- A header yet to be decided may belong to a frame for which the window counts as armed (R247): a reception, a context timed in that span, or
one still to be timed in it. -/
def State.windowNeeded (s : State) (w : Window) : Bool :=
  decide ((s.now : Int) ≤ w.hi + 10 * symDticks) ||
  (s.dmd.rx.any fun r => (s.rxPorts r.port).contains w.port && r.hdr.isNone && w.openAt r.tB) ||
  (ctxsOfPort (s.txPort w.port)).any fun c =>
    (s.ctx c).state == .qualify && (match (s.ctx c).qual with
      | some q => (match q.tB with | some t => w.openAt t | none => decide (1024 * (q.next : Int) ≤ w.hi + 10 * symDticks))
      | none => false)

/-- A reception or timed context of the window's port started in its span. -/
def State.windowBusy (s : State) (w : Window) : Bool :=
  (s.dmd.rx.any fun r => (s.rxPorts r.port).contains w.port && decide (w.lo ≤ r.pre ∧ r.pre ≤ w.hi)) ||
  (ctxsOfPort (s.txPort w.port)).any fun c =>
    (s.ctx c).state == .qualify && (match (s.ctx c).qual with
      | some q => (match q.tB with | some t => decide (w.lo ≤ t - 110592 ∧ t - 110592 ≤ w.hi) | none => false)
      | none => false)

/-- The outcome of a wake on its stall. -/
def State.wakeOutcome (s : State) (i : Nat) (w : Window) : State :=
  let e := s.ephOf i
  if w.hit then s.setEph i { e with empty := 0, searches := 0 }
  else
    let searches := if w.search then min 15 (e.searches + 1) else e.searches
    let s := s.setEph i { e with empty := min 15 (e.empty + 1), searches := searches }
    if w.search && decide (max 1 (s.fld F.MAC_SEARCH_SEARCH_LIMIT) ≤ searches) && s.stallState i != 3 then
      (s.setStallState i 3).raise Ev.STALL_LOST Src.macWalker (BitVec.ofNat 32 (nodeOf w.addr)) 0
    else s

/-- WAKE_SETTLED. -/
def execWakeSettled (id : Nat) (s : State) : Out :=
  match s.mac.windows.find? fun w => w.id == id with
  | none => .next s
  | some w =>
    if !w.closed || w.done || s.windowBusy w then .next s
    else
      let s := s.modMac fun m => { m with windows := m.windows.map fun x => if x.id == id then { x with done := true } else x }
      let s := s.modMac fun m => { m with windows := m.windows.filter fun x => !x.done || s.windowNeeded x }
      match s.pageInNow w.addr with
      | (s, some i) => .next (s.wakeOutcome i w)
      | (s, none) => .next s

/-! ### EVENT actions (R264) -/

/-- TQ_EXPIRED: an action whose gate, if it has one, is open. -/
def execTqExpired (index : Fin 256) (s : State) : Out :=
  match s.mac.events.find? fun e => e.index == index.val && e.gate.isNone with
  | none => .next s
  | some e =>
    let s := s.modMac fun m => { m with events := m.events.filter fun x => x.index != index.val }
    .next (s.raiseTo Ev.TQ_EXPIRED Src.macQueue (e.arg.setWidth 32) 0 e.mask s.stamp)

/-! ### Following (R265, R266, R269) -/

/-- The MAC_FOLLOW word in force (R467). -/
def State.followWord (s : State) : Word := if s.inMode .follow || s.inMode .holdover then s.mac.follow.word else s.reg R.MAC_FOLLOW

/-- A verified beacon updates the master ephemeris; exact numbers, shown rounded. -/
def Follow.update (f : Follow) (k : EphSet) (seed : Nat) (first : Bool) (pre : Int) (epoch : Nat) : Follow :=
  let d := signedOf 48 ((pre - epoch) % 2 ^ 48).toNat
  let f := { f with ownAt := pre - d }
  if first then { f with x := d, v := 0, sx := k.sig, sv := seed, seen := true, epoch := epoch }
  else
    let dd : Rat := (((epoch : Int) - f.epoch) % 2 ^ 48 : Int)
    let r := (d : Rat) - (f.x + f.v * dd)
    let a := absRat r
    { f with
      x := f.x + f.v * dd + r * mkRat 1 (2 ^ k.a)
      v := if f.frozen then f.v else clampRat (-(1 / 20000)) (1 / 20000) (f.v + ratioOf r dd * mkRat 1 (2 ^ k.b))
      sx := max (k.sig : Rat) (f.sx + (a - f.sx) * mkRat 1 (2 ^ k.sxTc))
      sv := max (k.floor : Rat) (f.sv + (ratioOf a dd * 1000000000 - f.sv) * mkRat 1 (2 ^ k.svTc))
      seen := true, epoch := epoch }

/-- MAC_MEPH_* as the ephemeris stands. -/
def State.showFollow (s : State) : State :=
  let f := s.mac.follow
  let x := toTwos 64 (roundUp f.x)
  let s := (s.setReg R.MAC_MEPH_XLO (BitVec.ofNat 32 x)).setReg R.MAC_MEPH_XHI (BitVec.ofNat 32 (x / 2 ^ 32))
  let s := s.setReg R.MAC_MEPH_V (BitVec.ofNat 32 (toTwos 32 (roundUp (f.v * 1099511627776))))
  (s.setFld F.MAC_MEPH_SIG_SV (min 65535 (roundUp f.sv).toNat)).setFld F.MAC_MEPH_SIG_SX (min 65535 (roundUp f.sx).toNat)

/-- The key of the followed master (R303). -/
def State.masterKey (s : State) : Option (List Byte) :=
  match s.namedKey (natBits s.followWord.toNat 31 24) with
  | some k => if k.policy = 2 ∧ k.dec = true then some k.key else none
  | none => none

/-- A received payload is a verified beacon of the followed master (R102, R265); its SLOTLEN is judged after. -/
def State.masterBeacon (s : State) (r : Rx) (h : Hdr) : Option Beacon :=
  let p := r.payload
  let b := parseBeacon p
  let dom := natBits s.followWord.toNat 13 0
  let f := s.mac.follow
  let later := match kget? f.epochs dom with
    | some e => let diff := (((b.epoch : Int) - e) % 2 ^ 48).toNat; decide (1 ≤ diff ∧ diff ≤ 2 ^ 47 - 1)
    | none => true
  match s.masterKey with
  | some k =>
    if h.ft == 0 && !h.sec && r.fcsOk && decide (33 ≤ p.length) && b.domain == dom && p.length == 33 + 3 * b.pend.length
      && (cmac k (h.bytes.take 11 ++ p.take (p.length - 8))).take 8 == p.drop (p.length - 8)
      && decide (16 ≤ b.slotlen ∧ b.slotlen ≤ 4096 ∧ b.pend.length ≤ 32) && later then some b
    else none
  | none => none

/-- MASTER_BEACON_VERIFY: a beacon received is checked as the master's. -/
def execMasterBeaconVerify (rxid : Rxid) (s : State) : Out :=
  match s.findRx rxid with
  | none => .next s
  | some r =>
    match r.hdr with
    | none => .next s
    | some h =>
      if !r.decoded then .next s
      else match s.masterBeacon r h with
        | none => .next s
        | some b =>
          if b.slotlen ≠ s.mac.cur.slotlen then
            .next ((s.flag F.MAC_FLAGS_MSLOT_DIFF).modMac fun m => { m with follow := { m.follow with heard := b.slotlen } })
          else
            let dom := natBits s.followWord.toNat 13 0
            let f := s.mac.follow
            let f := f.update s.ephSet (s.fld F.MAC_EPH_SEED_SEED_RATE) (!f.seen || f.dom != dom) r.pre b.epoch
            let f := { f with bsn := BitVec.ofNat 16 b.bsn, rank := b.rank, slotlen := b.slotlen, dom := dom, counted := none, heard := b.slotlen
                              epochs := sput f.epochs dom b.epoch
                              length := (r.syms.length + 8) * symDticks }
            let s := ((s.modMac fun m => { m with follow := f }).showFollow).setFld F.MAC_MSTAT_MISSED 0
            .next (if s.inMode .holdover then s.overtake.setPend (some .follow) else s)

/-- The predicted end of the master's k-th beacon after the latest verified, plus its guard G, has passed (R269). -/
def State.beaconOver (s : State) (k : Int) : Bool :=
  let f := s.mac.follow
  let dm := (k : Rat) * s.masterPeriod
  let g := s.guard false f.sx f.sv dm
  let late := (s.now : Rat) - (s.masterStart + dm + (f.length : Nat) + g.1)
  decide (0 ≤ late ∧ g.2 ≤ late * late)

/-- MASTER_BEACON_MISS: the predicted end of a master beacon and its guard have passed with none verified. [DEDUCED, log 41] -/
def execMasterBeaconMiss (s : State) : Out :=
  if !(s.inMode .follow || s.inMode .holdover) || s.masterPeriod = 0 then .next s
  else
    let k0 := (((s.now : Rat) - s.masterStart) / s.masterPeriod).floor
    let k := if s.beaconOver k0 then k0 else k0 - 1
    let bsn := BitVec.ofInt 16 ((s.mac.follow.bsn.toNat : Int) + k)
    if k < 1 ∨ s.mac.follow.counted = some bsn then .next s
    else
      let n := min 3 (s.fld F.MAC_MSTAT_MISSED + 1)
      let s := (s.modMac fun m => { m with follow := { m.follow with counted := some bsn } }).setFld F.MAC_MSTAT_MISSED n
      .next (if n = 3 ∧ s.inMode .follow = true then s.forceMode .holdover else s)

end Sys2Proof.Machine
end

