-- ==== Sys2Proof/Machine/Ageing.lean ====
section
/-! DEFINITION. Ageing (chapter 17): the monitors (R470-R472), a run and its table (R473-R476), alerts (R477), and VID (R479). -/

namespace Sys2Proof.Machine

/-! ### Raw values (R470, R471) -/

/-- A run's raw values: one per domain, per port (none where not measured), and the rest as found. -/
structure AgeValues where
  ro      : List Nat
  adc     : List (Option Int)
  rx      : List (Option Int)
  ulirPpb : Option Int
  mramM   : Nat
deriving DecidableEq, Repr

/-- The ratio of a pair of oscillators: round(32,768 f_stressed / f_fresh). -/
def roRaw (p : Nat × Nat) : Nat := min 65535 (roundAway (ratioOf (32768 * p.1 : Nat) (p.2 : Nat))).toNat

/-- A port's receive gain: the loopback tones' mean power since the previous run, relative to -46 dBFS, in 1/256 dB (R471). [DEDUCED, log 53] -/
def LpChain.rxGain (l : LpChain) : Option Int := if l.lbCnt = 0 then none else some (ratioDb (l.lbSum / (l.lbCnt : Nat)) + 46 * 256)

/-- The measurements that can be taken (R470, R471): a disabled port has neither its reference nor its receive gain measured, and without
loopback tones no port has a receive gain. [DEDUCED, log 53] -/
def State.measured (s : State) (raw : AgeRaw) : AgeValues :=
  let enabled := fun n => s.on (F.LPn_CTL_EN n)
  { ro := (List.range 8).map fun i => roRaw (raw.ro.getD i (0, 0))
    adc := (List.range 6).map fun n => if enabled n then raw.adc.getD n none else none
    rx := allPorts.map fun n => if enabled n.val && s.on F.AGE_CTL_LB_EN then s.lp[n].rxGain else none
    ulirPpb := raw.ulirPpb, mramM := raw.mramM }

/-! ### Runs and PPS (R472, R473) -/

/-- Runs are taken in every mode except LASTGASP and DORMANT. -/
def State.mayAge (s : State) : Bool := s.sys.mode != .lastgasp && s.sys.mode != .dormant

def State.startAge (s : State) : State :=
  (s.modAge fun a => { a with running := some s.time, lastStart := some s.time, hold := none }).flag F.AGE_STAT_BUSY

/-- A run requested. -/
def State.requestAge (s : State) : State :=
  if s.age.running.isSome then s.flag F.AGE_FLAGS_RUN_OVR else if s.mayAge then s.startAge else s

/-- AGE_RUN. -/
def execAgeRun (s : State) : Out := .next s.requestAge

/-- A periodic run is due: PERIOD_H hours after the start of the last, or at once where none has run; one that fell due in LASTGASP or DORMANT
is held to 1 s after the start-up. [DEDUCED, log 53] -/
def State.ageDue (s : State) : Bool :=
  match s.age.hold with
  | some h => decide (h.toNat ≤ s.now)
  | none => decide (s.agePeriod ≤ s.now)

/-- AGE_RUN_DUE. -/
def execAgeRunDue (s : State) : Out :=
  .next (if s.on F.AGE_CTL_EN && s.on F.AGE_CTL_PERIOD_H && s.age.running.isNone && s.mayAge && s.ageDue then s.startAge else s)

/-- A write of AGE_CTL. -/
def State.writeAgeCtl (s : State) (v : Word) : State :=
  let s := s.setReg R.AGE_CTL (v &&& 0x00FF000D)
  if v.getLsbD 1 then s.requestAge else s

/-- PPS_EDGE: stamped now. -/
def execPpsEdge (s : State) : Out :=
  let t := s.now
  match s.age.ppsLast with
  | none => .next (s.modAge fun a => { a with ppsLast := some s.time })
  | some p =>
    let d := t - p.toNat
    let s := s.modAge fun a => { a with ppsLast := some s.time }
    if d < 24576000 - 2458 ∨ 24576000 + 2458 < d then .next (s.flag F.AGE_FLAGS_PPS_REJ)
    else .next (s.modAge fun a => { a with ppsCount := a.ppsCount + 1, ppsSum := a.ppsSum + d })

/-- The crystal's offset in ppb by source (R472). -/
def State.xtalBy (s : State) (raw : AgeValues) : Nat → Option Int
  | 1 =>
    let n := s.age.ppsCount
    if 16 ≤ n then
      some (roundAway (((s.age.ppsSum : Nat) - (n * 24576000 : Nat) : Rat) * 1000000000 / ((n * 24576000 : Nat) : Rat)))
    else none
  | 2 => if !s.isMaster && s.on F.ULK_STAT_REF_LOCK then raw.ulirPpb else none
  | 3 =>
    if (s.sys.mode == .follow || s.sys.mode == .holdover) && !s.on F.MAC_MSTAT_TLOST then
      some (roundAway (-(signedOf 32 (s.reg R.MAC_MEPH_V).toNat : Rat) * 1000000000 / 1099511627776))
    else none
  | _ => none

/-- The source used and its value; 0 is automatic. -/
def State.xtal (s : State) (raw : AgeValues) : Nat × Option Int :=
  let src := s.fld F.AGE_XTAL_SRC
  let tries := if src = 0 then [1, 2, 3] else [src]
  match tries.find? fun i => (s.xtalBy raw i).isSome with
  | some i => (i, s.xtalBy raw i)
  | none => (0, none)

/-! ### Tables (R474, R475) -/

/-- The pair lies in SRAM banks 20 to 35 or in the firmware area of MRAM. -/
def tableOk (a : Nat) : Bool :=
  decide (0x10140000 ≤ a ∧ a + 512 ≤ 0x10240000) || decide (0x18400000 ≤ a ∧ a + 512 ≤ 0x19000000)

def tableValid (t : List Byte) : Bool :=
  t.take 6 == [0x41, 0x47, 0x54, 0x31, 1, 0] && crcStored .crc32c (t.take 252) == t.drop 252

def tableLe (t : List Byte) (o n : Nat) : Nat := leNat ((t.drop o).take n)

/-- Which table of the pair is the previous one, with its bytes. [DEDUCED, log 53] -/
def prevTable (pair : List Byte) : Option (Nat × List Byte) :=
  let t0 := pair.take 256
  let t1 := pair.drop 256
  let later := decide (0 < (tableLe t1 6 2 + 65536 - tableLe t0 6 2) % 65536 ∧ (tableLe t1 6 2 + 65536 - tableLe t0 6 2) % 65536 < 32768)
  match tableValid t0, tableValid t1 with
  | true, true => if later then some (1, t1) else some (0, t0)
  | true, false => some (0, t0)
  | false, true => some (1, t1)
  | false, false => none

/-- A signed field of `n` bytes: none is the code for unmeasured that a field of two or four bytes has, and a value that does not fit is
free. [DEDUCED, log 53] -/
def fieldOf (n : Nat) (free : Nat) : Option Int → List Byte
  | none => leBytes n (2 ^ (8 * n - 1))
  | some i =>
    if -(2 : Int) ^ (8 * n - 1) < i + (if n = 1 then 1 else 0) ∧ i < (2 : Int) ^ (8 * n - 1) then leBytes n (toTwos (8 * n) i)
    else leBytes n (Config.freeValue (8 * n) free).toNat

/-- A stored signed 16-bit raw value. -/
def rawOf (n : Nat) : Option Int := if n = 0x8000 then none else some (signedOf 16 n)

/-- The difference of a raw value and its baseline. [DEDUCED, log 53] -/
def driftOf (raw base : Option Int) : Option Int :=
  match raw, base with
  | some r, some b => some (r - b)
  | _, _ => none

/-- The baseline block of the current raw values. [DEDUCED, log 53] -/
def baseBlock (raw : AgeValues) (tx : List (Option Int)) (free : Nat) : List Byte :=
  let six := fun (l : List (Option Int)) => (List.range 6).flatMap fun i => fieldOf 2 (free + i) (l.getD i none)
  ((List.range 8).flatMap fun i => leBytes 2 (raw.ro.getD i 0)) ++ six raw.adc ++ six raw.rx ++ six tx

/-- [DEDUCED, log 53] -/
def driftFrom (raw : AgeValues) (tx : List (Option Int)) (base : List Byte) : Drift :=
  let six := fun (o : Nat) (l : List (Option Int)) => (List.range 6).map fun i => driftOf (l.getD i none) (rawOf (tableLe base (o + 2 * i) 2))
  { ro := (List.range 8).map fun i =>
      let b : Rat := (tableLe base (2 * i) 2 : Nat)
      min 65535 (roundAway (ratioOf (b - (raw.ro.getD i 0 : Nat)) b * 1000000)).toNat
    adc := six 16 raw.adc, rx := six 28 raw.rx, tx := six 40 tx }

/-- A drift rounded to 0.25 dB, 0 where unmeasured. -/
def quarter (d : Option Int) : Int := (d.map fun i => roundAway ((i : Rat) / 64)).getD 0

/-! ### Proposals (R476) -/

def State.vidReq (s : State) (d : Drift) : Nat :=
  let worst := max (d.ro.getD 3 0) (max (d.ro.getD 4 0) (d.ro.getD 5 0))
  let slope := max 1 (s.fld F.AGE_VIDCFG_SLOPE)
  min 15 (s.fld F.AGE_VIDCFG_BASE + (worst + slope - 1) / slope)

def State.guardFloor (s : State) (xrate : Option Int) : Nat :=
  match xrate with
  | none => 16
  | some x =>
    let q : Rat := 64 * ((s.fld F.MAC_EPH_CTL_K_SIGMA : Nat) / 4) * (x.natAbs : Nat) / 1000000000 * (s.fld F.AGE_GCFG_DMAX_S : Nat) * 24576000 / 18432
    min 1023 (16 + q.ceil.toNat)

def State.scrubHours (s : State) (m : Nat) : Nat :=
  let low := s.fld F.AGE_LIM_MRAM_MIN
  if 2 * low ≤ m then 24 else if low ≤ m then 8 else 2

/-- Bytes 0-251 of the table. -/
def State.ageTable (s : State) (raw : AgeValues) (start : Time) (run : Nat) (fresh : Bool) (xsrc : Nat) (xofs xrate : Option Int)
    (d : Drift) (base : List Byte) : List Byte :=
  let c := s.freeCtr
  let six := fun (n k : Nat) (l : List (Option Int)) => (List.range 6).flatMap fun i => fieldOf n (c + k + i) (l.getD i none)
  let missing := (List.range 6).foldl (fun n i => n + if (s.age.txGain.toList.getD i none).isNone then 2 ^ (i + 1) else 0) 0
  [0x41, 0x47, 0x54, 0x31, 1, 0] ++ leBytes 2 run ++ leBytes 6 start.toNat ++ leBytes 1 (fresh.toNat + missing) ++ leBytes 1 xsrc
    ++ d.ro.flatMap (leBytes 2) ++ six 2 6 d.adc ++ six 2 12 d.rx ++ six 2 18 d.tx
    ++ fieldOf 4 (c + 24) xofs ++ fieldOf 4 (c + 25) xrate ++ leBytes 1 raw.mramM ++ leBytes 1 (s.fld F.MEM_REPAIR_STAT_ROWS)
    ++ leBytes 1 (s.fld F.MEM_REPAIR_STAT_COLS) ++ leBytes 1 (s.vidReq d) ++ leBytes 2 (s.guardFloor xrate)
    ++ six 1 26 (d.rx.map fun x => some (quarter x)) ++ six 1 32 (d.tx.map fun x => some (-(quarter x)))
    ++ leBytes 1 (raw.mramM - s.fld F.AGE_LIM_MRAM_GUARD) ++ leBytes 1 (s.scrubHours raw.mramM) ++ zeros 32 ++ base ++ zeros 72

/-! ### The end of a run -/

/-- Write a table into SRAM or MRAM. [DEDUCED, log 53] -/
def State.putTable (s : State) (a : Nat) (t : List Byte) : State :=
  if a < mramBase then s.portWrite true a t else s.mramRecord (.record .margin) a t


/-- REPLAN: the run writes its table and ends, at once or when the words of a table in MRAM have been written. [DEDUCED, log 53] -/
def execReplan (found : AgeRaw) (s : State) : Out :=
  match s.age.running with
  | none => .next s
  | some start =>
    if s.age.closing.isSome then .next s else
    let raw := s.measured found
    let a := (s.reg R.AGE_TBL_ADDR).toNat / 512 * 512
    if !tableOk a then .next (s.endAge.flag F.AGE_FLAGS_TBL_ERR)
    else
      let (s, lost) := s.mramReads found.mram a 512
      let (s, pair) := s.portBytes true a 512
      let pair := zeroLost lost a pair
      let prev := prevTable pair
      let tx := s.age.txGain.toList
      let keep := if s.on F.AGE_CTL_REBASE then none else prev
      let base := match keep with | some p => (p.2.drop 128).take 52 | none => baseBlock raw tx s.freeCtr
      let d := driftFrom raw tx base
      let x := s.xtal raw
      let before := match prev with
        | some p => if tableLe p.2 68 4 = 0x80000000 then none else some (signedOf 32 (tableLe p.2 68 4))
        | none => none
      let xrate := driftOf x.2 before
      let run := match prev with | some p => (tableLe p.2 6 2 + 1) % 65536 | none => 1
      let slot := match prev with | some p => 1 - p.1 | none => 0
      let body := s.ageTable raw start run keep.isNone x.1 x.2 xrate d base
      let close : AgeClose :=
        { mramM := raw.mramM, drift := d, xofs := x.2, xword := BitVec.ofNat 32 (leNat (fieldOf 4 (s.freeCtr + 24) x.2))
          table := BitVec.ofNat 32 (a + 256 * slot), slot := slot, run := run }
      let s := (s.putTable (a + 256 * slot) (body ++ crcStored .crc32c body)).drawn 38
      .next (s.modAge fun g => { g with closing := some close }).ageWritten

/-! ### VID (R479) -/

/-- VDD_CORE is off, and the AO domain drives the VID balls at code 8 (R543). -/
def State.coreOff (s : State) : Bool := s.busOff || (s.sys.phase == .reset && s.sys.kind == .powerOn)

/-- A write of AGE_VID: balls that stand still start their first step now. [DEDUCED, log 53] -/
def State.writeAgeVid (s : State) (v : Word) : State :=
  if s.coreOff then s else
  let s := if s.fld F.AGE_VID_CUR = s.fld F.AGE_VID_CODE then s.modAge fun a => { a with vidAt := s.time } else s
  (s.setFld F.AGE_VID_STEP_US (natBits v.toNat 23 16)).setFld F.AGE_VID_CODE (natBits v.toNat 3 0)

/-- AGE_VID_WRITE. -/
def execAgeVidWrite (v : Word) (s : State) : Out := .next (s.writeAgeVid v)

/-- VID_STEP: STEP_US after the last step, one code toward the target. -/
def execVidStep (s : State) : Out :=
  let c := s.fld F.AGE_VID_CUR
  let t := s.fld F.AGE_VID_CODE
  if s.coreOff = true ∨ c = t ∨ s.now < s.age.vidAt.toNat + usDticks (max 1 (s.fld F.AGE_VID_STEP_US)) then .next s
  else .next ((s.modAge fun a => { a with vidAt := s.time }).setFld F.AGE_VID_CUR (if c < t then c + 1 else c - 1))

end Sys2Proof.Machine
end

