-- ==== Sys2Proof/Machine/Collector.lean ====
section
/-! DEFINITION. The event collector and the tally: writing staged records, queue clears, the host ring and the counters (R378-R384). -/

namespace Sys2Proof.Machine

/-- The 16 bytes of a record (R374). -/
def Record.bytes (r : Record) : List Byte :=
  leBytes 2 r.ev.code.toNat ++ [r.ev.src, r.ev.aux] ++ leBytes 4 r.ev.ctx.toNat ++ leBytes 6 r.ev.stamp.toNat ++ leBytes 2 r.seq.toNat

/-- The area of an event: bits 11:8 of its code (R374). -/
def Event.area (e : Event) : Nat := natBits e.code.toNat 11 8

/-- The cores an event goes to (R378). -/
def State.eventCores (s : State) (e : Event) : BitVec 8 :=
  match e.direct with
  | some m => m
  | none => BitVec.ofNat 8 (s.fld (F.EVC_ROUTEr_CORES e.area))

/-- Offer an event to core k's queue (R380): SEQ counts it, a full queue discards it. -/
def State.offerCore (s : State) (e : Event) (k : Fin 8) : State :=
  let q := s.evc.queues[k]
  let seq := s.evc.seqs[k]
  let s := { s with evc := { s.evc with seqs := s.evc.seqs.set k (seq + 1) } }
  if q.length < 64 then { s with evc := { s.evc with queues := s.evc.queues.set k (q ++ [⟨e, seq, s.time⟩]) } }
  else (s.bump (R.EVC_LOSTd k) 1).flagBit F.EVC_FLAGS_QOVF k

/-- Records the host ring holds: 2^HR_LOG2, 6 to 12 (R382). -/
def State.hostRingSize (s : State) : Nat := 2 ^ (min 12 (max 6 (s.fld F.EVC_CTL_HR_LOG2)))

/-- Offer an event to the host ring (R382); `dmaOk` says whether the write of the record succeeds. -/
def State.offerHost (s : State) (e : Event) (dmaOk : Bool) : State :=
  if !s.on F.EVC_CTL_HR_EN then s
  else
    let seq := s.evc.hostSeq
    let s := { s with evc := { s.evc with hostSeq := seq + 1 } }
    if s.evc.hostErr then s.bump (R.EVC_LOSTd 8) 1
    else
      let prod := s.fld F.EVC_HR_PROD_PROD
      if (prod + 0x10000 - s.fld F.EVC_HR_CONS_CONS) % 0x10000 = s.hostRingSize then
        (s.bump (R.EVC_LOSTd 8) 1).flag F.EVC_FLAGS_HOVF
      else
        let base := s.pair R.EVC_HR_BASE_LO R.EVC_HR_BASE_HI
        let (s, ok) := if dmaOk then s.dmaWrite (base + 16 * (prod % s.hostRingSize)) (Record.bytes ⟨e, seq, s.time⟩) else (s, false)
        if ok then (s.setFld F.EVC_HR_PROD_PROD (prod + 1)).irqOccur 8
        else
          let s := { s with evc := { s.evc with hostErr := true } }
          ((s.flag F.EVC_FLAGS_HR_ERR).hifFlag F.HIF_FLAGS_DMA_ERR).bump (R.EVC_LOSTd 8) 1

/-- Write one event to all its destinations (R378, R379). -/
def State.deliverEvent (s : State) (e : Event) (dmaOk : Bool) : State :=
  let m := s.eventCores e
  let s := allEight.foldl (fun s (k : Fin 8) => if m.getLsbD k then s.offerCore e k else s) s
  if s.on (F.EVC_ROUTEr_HOST e.area) then s.offerHost e dmaOk else s

/-- The held events of earlier cycles that the staging buffer has room for. -/
def State.ready (s : State) : List Event := (s.evc.held.takeWhile fun e => decide (e.raised < s.cycle.no)).take (16 - s.evc.staged.length)

/-- The next cycle of the collector (R379): held events of the cycles before move into the staging buffer while it has room, and the oldest
staged record is written. [DEDUCED, log 5] -/
def State.collectorCycle (s : State) (dmaOk : Bool) : State :=
  let s := s.newCycle
  let go := s.ready
  let s := { s with evc := { s.evc with staged := s.evc.staged ++ go, held := s.evc.held.drop go.length } }
  match s.evc.staged with
  | [] => s
  | e :: rest =>
    ({ s with evc := { s.evc with staged := rest }
              cycle := { s.cycle with record := some e, went := s.eventCores e, qovf := BitVec.ofNat 8 (s.fld F.EVC_FLAGS_QOVF) } } : State).deliverEvent
      e dmaOk

/-- EVENT_RECORD_WRITE (R379). [DEDUCED, log 5] -/
def execEventRecordWrite (dmaOk : Bool) (s : State) : Out := .next (s.collectorCycle dmaOk)

/-- The record written to core k's queue in this cycle, unless the core has already taken it. -/
def State.writtenTo (s : State) (k : Fin 8) : Option Event := if s.cycle.went.getLsbD k then s.cycle.record else none

/-- Core k takes a record; one of this cycle is no longer in its queue. -/
def State.recordTaken (s : State) (k : Fin 8) (r : Record) : State :=
  if s.cycle.record == some r.ev && s.evc.queues[k].isEmpty then { s with cycle := { s.cycle with went := s.cycle.went &&& ~~~(BitVec.twoPow 8 k) } } else s

/-- A record that a full queue lost in this cycle is kept after all: it is not counted, and QOVF is as it was (R381). -/
def State.unlost (s : State) (k : Fin 8) : State :=
  if s.cycle.counts.contains (R.EVC_LOSTd k, 1) then
    let s := { s with cycle := { s.cycle with counts := s.cycle.counts.erase (R.EVC_LOSTd k, 1) } }
    let s := s.setReg (R.EVC_LOSTd k) (s.reg (R.EVC_LOSTd k) - 1)
    if s.cycle.qovf.getLsbD k then s else s.setReg F.EVC_FLAGS_QOVF.addr (s.reg F.EVC_FLAGS_QOVF.addr &&& ~~~(BitVec.ofNat 32 (2 ^ (F.EVC_FLAGS_QOVF.lo + k.val))))
  else s

/-- Empty the queues of a mask and zero their SEQ counts; a record written in the same cycle is written after the clear (R381). [DEDUCED, log 5] -/
def State.clearQueues (s : State) (mask : BitVec 8) : State :=
  allEight.foldl (fun s (k : Fin 8) =>
    if mask.getLsbD k then
      let s := { s with evc := { s.evc with queues := s.evc.queues.set k [], seqs := s.evc.seqs.set k 0 } }
      match s.writtenTo k with
      | some e => (s.unlost k).offerCore e k
      | none => s
    else s) s

/-- EVC_QCLR (R381). -/
def execEvcQclr (mask : BitVec 8) (s : State) : Out := .next (s.clearQueues mask)

/-- A write of EVC_HR_CONS (R382): ignored if it would place CONS after PROD or more than the ring size behind it. -/
def State.writeHrCons (s : State) (v : Word) : State :=
  let c := v.toNat % 0x10000
  if (s.fld F.EVC_HR_PROD_PROD + 0x10000 - c) % 0x10000 ≤ s.hostRingSize then s.setFld F.EVC_HR_CONS_CONS c else s

/-- EVC_HR_CONS_WRITE (R382). -/
def execEvcHrConsWrite (v : Word) (s : State) : Out := .next (s.writeHrCons v)

/-- A write of EVC_CTL (R381, R382): QCLR clears queues, HR_LOG2 is written only while HR_EN = 0, setting HR_EN zeroes PROD,
CONS and the ring's SEQ and ends an error. -/
def State.writeEvcCtl (s : State) (v : Word) : State :=
  let was := s.on F.EVC_CTL_HR_EN
  let s := s.clearQueues (BitVec.ofNat 8 (natBits v.toNat 23 16))
  let s := if was then s else s.setFld F.EVC_CTL_HR_LOG2 (natBits v.toNat 11 8)
  let en := v.getLsbD 0
  let s := s.setOn F.EVC_CTL_HR_EN en
  if en && !was then
    let s := (s.setReg R.EVC_HR_PROD 0).setReg R.EVC_HR_CONS 0
    { s with evc := { s.evc with hostSeq := 0, hostErr := false } }
  else s

/-- EVC_HR_ENABLE: the write of EVC_CTL (R382). -/
def execEvcHrEnable (v : Word) (s : State) : Out := .next (s.writeEvcCtl v)

/-- A register of the TAL block. -/
def isTally (a : Nat) : Bool := decide (0x40190000 ≤ a ∧ a < 0x401A0000)

/-- Zero every tally counter; increments of the same cycle count after the clear (R384). [DEDUCED, log 5] -/
def State.clearTally (s : State) : State :=
  s.cycle.counts.foldl (fun (s : State) p => if isTally p.1 then s.setReg p.1 (s.reg p.1 + BitVec.ofNat 32 p.2) else s)
    { s with regs := s.regs.filter fun p => !isTally p.1 }

end Sys2Proof.Machine
end

