-- ==== Sys2Proof/Machine/CoreOps.lean ====
section
/-! DEFINITION. Orrery core operations shared by the instructions: registers, fetch, faults, stopping and starting (R338-R342, R366-R370). -/

namespace Sys2Proof.Machine

/-! Fault causes (R366). -/
namespace Cause
def illegal : Nat := 1
def fetch : Nat := 2
def align : Nat := 3
def access : Nat := 4
def bus : Nat := 5
def watchdog : Nat := 6
end Cause

/-- Change core k. -/
def State.modCore (s : State) (k : CoreId) (f : Core → Core) : State := { s with cores := s.cores.set k (f s.cores[k]) }

/-- General register `r` of core k; g0 reads zero (R339). -/
def State.g (s : State) (k : CoreId) (r : GReg) : Word := if r = 0 then 0 else s.cores[k].g[r]

/-- Write a general register; writes to g0 are discarded (R339). -/
def State.setG (s : State) (k : CoreId) (r : GReg) (v : Word) : State :=
  if r = 0 then s else s.modCore k fun c => { c with g := c.g.set r v }

/-- The global base of core k's TCM windows (R340). -/
def tcmOf (k : CoreId) : Nat := tcmBase + 0x20000 * k

/-- A core's own view of an address: its self windows lead to its global windows (R341). -/
def globalAddr (k : CoreId) (a : Nat) : Nat :=
  if 0x20100000 ≤ a ∧ a < 0x20110000 then tcmOf k + (a - 0x20100000)
  else if 0x20110000 ≤ a ∧ a < 0x20118000 then tcmOf k + 0x10000 + (a - 0x20110000)
  else a

/-- An address lies in core k's own DTCM, through either window (R340, R341). -/
def ownDtcm (k : CoreId) (a : Nat) : Bool :=
  decide (tcmOf k + 0x10000 ≤ globalAddr k a ∧ globalAddr k a < tcmOf k + 0x18000)

/-- An address core k may fetch from: its own ITCM, or the boot ROM for OC0 until it is closed (R340). -/
def State.fetchable (s : State) (k : CoreId) (a : Nat) : Bool :=
  decide (tcmOf k ≤ globalAddr k a ∧ globalAddr k a < tcmOf k + 0x10000) ||
  (k == 0 && decide (a < 0x20000) && !s.sec.romClosed)

/-- Core k can execute an instruction now. [DESIGN CHOICE, log 3; DEDUCED, log 4] -/
def State.coreReady (s : State) (k : CoreId) : Bool :=
  s.cores[k].run == .running && s.cores[k].load.isNone

/-- Core k faults (R366): it HALTS, the fault registers are written, its locks are released and CORE_FAULT is raised; its buffered
stores go on draining. [DEDUCED, log 17] -/
def State.coreFault (s : State) (k : CoreId) (cause : Nat) (addr : Word) : State :=
  let pc := s.cores[k].pc
  let s := s.modCore k fun c => { c with run := .halted, load := none, locks := [], stepping := false }
  let s := (s.setReg (R.OCC_EPCk k) pc).setReg (R.OCC_CAUSEk k) (BitVec.ofNat 32 cause)
  let s := if cause = Cause.align ∨ cause = Cause.access ∨ cause = Cause.bus then s.setReg (R.OCC_FADDRk k) addr else s
  (s.flagBit F.OCC_FLAGS_FAULT k).raise Ev.CORE_FAULT (Src.core k) (BitVec.ofNat 32 k) cause

/-- Stop core k (R369): a load in flight completes first; a wait is abandoned with PC at the waiting instruction; its locks are
released, and the address is kept in OCC_EPCk (R373). [DEDUCED, log 17] -/
def State.stopCore (s : State) (k : CoreId) : State :=
  let halt := fun (s : State) =>
    (s.modCore k fun c => { c with run := .stopped, locks := [], stepping := false }).setReg (R.OCC_EPCk k) s.cores[k].pc
  match s.cores[k].run with
  | .running => if s.cores[k].load.isSome then s.modCore k fun c => { c with stepping := true } else halt s
  | .waiting _ => halt s
  | _ => s

/-- The instruction completes: INSTRET counts it and PC goes to `pc`; a core that is to stop after it stops. -/
def State.retireTo (s : State) (k : CoreId) (pc : Word) : State :=
  let s := s.modCore k fun c => { c with pc := pc, instret := c.instret + 1 }
  if s.cores[k].stepping then s.stopCore k else s

/-- The instruction completes and the next follows. -/
def State.retire (s : State) (k : CoreId) : State := s.retireTo k (s.cores[k].pc + 4)

/-- A result is written and the instruction completes. -/
def State.finish (s : State) (k : CoreId) (rd : GReg) (v : Word) : State := (s.setG k rd v).retire k

/-- Core k issues an instruction whose effect is `f`: nothing happens unless the core is RUNNING and not stalled on a load, and an
address it may not fetch from faults (R348). [DEDUCED, log 4; DESIGN CHOICE, log 14] -/
def State.issue (s : State) (k : CoreId) (f : State → State) : Out :=
  .next (if !s.coreReady k then s
    else if !s.fetchable k s.cores[k].pc.toNat then s.coreFault k Cause.fetch 0
    else f s)

/-- Start a STOPPED or HALTED core at OCC_BOOTk (R339, R368). -/
def State.startCore (s : State) (k : CoreId) : State :=
  match s.cores[k].run with
  | .stopped | .halted =>
    let pc := s.reg (R.OCC_BOOTk k) &&& 0xFFFFFFFC
    let s := s.modCore k fun c => { c with run := .running, g := Vector.replicate 32 0, pc := pc, timeHi := 0, evmask := 0xFFFF,
                                           cycle := 0, cycleAt := s.time, instret := 0, wdog := 0, lsres := 0, load := none, locks := [], stepping := false }
    s.setReg (R.OCC_CAUSEk k) 0
  | _ => s

/-- The state code of R368. -/
def CoreRun.code : CoreRun → Nat
  | .stopped => 0
  | .running => 1
  | .waiting _ => 2
  | .halted => 3

/-- OCC_STAT as it reads (R373). -/
def State.occStat (s : State) : Word :=
  BitVec.ofNat 32 (allEight.foldl (fun n (k : Fin 8) =>
    n + s.cores[k].run.code * 2 ^ (2 * k.val) + min 3 s.cores[k].locks.length * 2 ^ (16 + 2 * k.val)) 0)

/-- The host may write OCC_CTL, OCC_BOOTk and the ITCMs; cores always may (R371). -/
def State.occWritable (s : State) : Agent → Bool
  | .host => s.on F.OCC_CFG_HOST_CTL
  | .core _ => true

/-- OCC_CTL's START of core k, which a STOP of the same cycle overrides (R365). -/
def State.occStart (s : State) (k : CoreId) : State :=
  if s.cycle.stopped.getLsbD k then s
  else
    match s.cores[k].run with
    | .stopped | .halted =>
      let was := (k, s.cores[k], s.reg (R.OCC_CAUSEk k))
      { s.startCore k with cycle := { s.cycle with started := was :: s.cycle.started } }
    | _ => s

/-- OCC_CTL's STOP of core k: a START of the same cycle has had no effect (R365). -/
def State.occStop (s : State) (k : CoreId) : State :=
  let s := { s with cycle := { s.cycle with stopped := s.cycle.stopped ||| BitVec.twoPow 8 k } }
  match s.cycle.started.find? fun p => p.1 == k with
  | some (_, c, cause) => ((s.modCore k fun _ => c).setReg (R.OCC_CAUSEk k) cause).stopCore k
  | none => s.stopCore k

/-- A write of OCC_CTL (R365, R368, R369, R371): STOP wins over START for one core in one cycle. [DEDUCED, log 5] -/
def State.writeOccCtl (s : State) (agent : Agent) (start stop : BitVec 8) : State :=
  if s.occWritable agent then
    let s := allEight.foldl (fun s (k : Fin 8) => if stop.getLsbD k then s.occStop k else s) s
    allEight.foldl (fun s (k : Fin 8) => if start.getLsbD k then s.occStart k else s) s
  else s.flag F.OCC_FLAGS_HOST_REFUSED

/-- CORE_START (R368). -/
def execCoreStart (agent : Agent) (mask : BitVec 8) (s : State) : Out := .next (s.writeOccCtl agent mask 0)

/-- CORE_STOP (R369). [DEDUCED, log 17] -/
def execCoreStop (agent : Agent) (mask : BitVec 8) (s : State) : Out := .next (s.writeOccCtl agent 0 mask)

/-- A write of OCC_CFG: LOCK can only be set, and freezes the register (R371). -/
def State.writeOccCfg (s : State) (v : Word) : State :=
  if s.on F.OCC_CFG_LOCK then s
  else (s.setOn F.OCC_CFG_HOST_CTL (v.getLsbD 0)).setOn F.OCC_CFG_LOCK (v.getLsbD 1)

/-- OCC_CFG_LOCK (R371): the write of OCC_CFG, from a core or the host alike. -/
def execOccCfgLock (_agent : Agent) (v : Word) (s : State) : Out := .next (s.writeOccCfg v)

/-- A write of ITCM bytes of `core` by `agent` (R342, R371): taken only while that core is STOPPED or HALTED. -/
def State.writeItcm (s : State) (agent : Agent) (core : CoreId) (a : Nat) (bs : List Byte) : State :=
  if !s.occWritable agent then s.flag F.OCC_FLAGS_HOST_REFUSED
  else match s.cores[core].run with
    | .stopped | .halted => s.setSramBytes a bs
    | _ => s.flag F.OCC_FLAGS_ITCM_WP

/-- ITCM_WRITE (R342): a word at word offset `off`. A core's store into its own ITCM faults with ACCESS; one into another's is a store of the
core's (R332). -/
def execItcmWrite (agent : Agent) (core : CoreId) (off : BitVec 14) (w : Word) (s : State) : Out :=
  let a := tcmOf core + 4 * off.toNat
  let bs := leBytes 4 w.toNat
  match agent with
  | .core k => .next (if k = core then s.coreFault k Cause.access (BitVec.ofNat 32 a) else (s.crcCoreStore k a bs).writeItcm agent core a bs)
  | .host => .next (s.writeItcm agent core a bs)

/-- LOCK_OVERRUN: a lock held for 20 us (R358). -/
def execLockOverrun (k : CoreId) (stall : BitVec 12) (s : State) : Out :=
  if s.cores[k].locks.any fun l => l.stall == stall && decide (l.since.toNat + usDticks 20 ≤ s.now) then
    .next ((s.flagBit F.OCC_FLAGS_LOCK_LONG k).raise Ev.LOCK_OVERRUN (Src.core k) (stall.setWidth 32) k)
  else .next s

/-- WATCHDOG_EXPIRE: the count of a non-zero WDOG, that many us from its last write, reaches zero in a RUNNING or WAITING core (R367). -/
def execWatchdogExpire (k : CoreId) (s : State) : Out :=
  if s.cores[k].wdog = 0 ∨ s.now < s.cores[k].wdogAt.toNat + usDticks s.cores[k].wdog.toNat then .next s
  else match s.cores[k].run with
    | .running | .waiting _ => .next ((s.modCore k fun c => { c with wdog := 0 }).coreFault k Cause.watchdog 0)
    | _ => .next s

end Sys2Proof.Machine
end

