-- ==== Sys2Proof/Machine/Idle.lean ====
section
/-! DEFINITION. What runs the clocks while no command waits (R19, R532, R536). -/

namespace Sys2Proof.Machine

/-- DORMANT, before a wake. [DESIGN CHOICE, log 2] -/
def State.asleep (s : State) : Bool := s.sys.mode == .dormant && s.sys.phase == .running

/-- One AO tick spent in DORMANT is counted, saturating (R536). [DESIGN CHOICE, log 2] -/
def State.countDorm (s : State) : State :=
  let n := (s.reg R.TMR_DORM).toNat
  if s.asleep && decide (n + 1 < 2 ^ 32) then s.setReg R.TMR_DORM (BitVec.ofNat 32 (n + 1)) else s

/-- The device is held in power-on reset. -/
def State.inPowerOn (s : State) : Bool := s.sys.phase == .reset && s.sys.kind == .powerOn

end Sys2Proof.Machine
end

