-- ==== Sys2Proof/Machine/Sign.lean ====
section
/-! DEFINITION. The signature algorithms the device uses (R420, R427, R430, R433): ECDSA and ECDH over P-384 (FIPS 186-5), SHA-256 (FIPS
180-4), and the hash-based signatures LMS_SHA256_M32_H15 with LMOTS_SHA256_N32_W4 and HSS with one level (RFC 8554). -/

namespace Sys2Proof.Machine

/-! ### P-384 -/
namespace P384

def p : Nat := 2 ^ 384 - 2 ^ 128 - 2 ^ 96 + 2 ^ 32 - 1
def n : Nat := 0xffffffffffffffffffffffffffffffffffffffffffffffffc7634d81f4372ddf581a0db248b0a77aecec196accc52973
def b : Nat := 0xb3312fa7e23ee7e4988e056be3f82d19181d9c6efe8141120314088f5013875ac656398d8a2ed19d2a85c8edd3ec2aef
def gx : Nat := 0xaa87ca22be8b05378eb1c71ef320ad746e1d3b628ba79b9859f741e082542a385502f25dbf55296c3a545e3872760ab7
def gy : Nat := 0x3617de4a96262c6f5d9e98bf9292dc29f8f41dbd289a147ce9da3113b5f0b8c00a60b1ce1d7e819d7a431d7c90ea0e5f

/-- A power modulo m; `bits` bounds the exponent's length. -/
def powMod (m : Nat) : Nat → Nat → Nat → Nat → Nat
  | 0, _, _, acc => acc
  | bits + 1, x, e, acc => powMod m bits (x * x % m) (e / 2) (if e % 2 = 1 then acc * x % m else acc)

/-- The inverse modulo a prime. -/
def inv (m x : Nat) : Nat := powMod m 384 (x % m) (m - 2) 1

/-- A point of the curve; `none` is the point at infinity. -/
abbrev Point := Option (Nat × Nat)

def onCurve (x y : Nat) : Bool := decide (x < p ∧ y < p) && y * y % p == (x * x * x + (p - 3) * x + b) % p

/-- The sum of two points. -/
def add : Point → Point → Point
  | none, q => q
  | q, none => q
  | some (x1, y1), some (x2, y2) =>
    if x1 = x2 ∧ (y1 + y2) % p = 0 then none
    else
      let l := if x1 = x2 then (3 * x1 * x1 + (p - 3)) * inv p (2 * y1) % p else (y2 + p - y1) * inv p (x2 + p - x1) % p
      let x := (l * l + 2 * p - x1 - x2) % p
      some (x, (l * (x1 + p - x) + p - y1) % p)

/-- A multiple of a point; `bits` bounds the factor's length. -/
def mul : Nat → Nat → Point → Point → Point
  | 0, _, _, acc => acc
  | bits + 1, k, q, acc => mul bits (k / 2) (add q q) (if k % 2 = 1 then add acc q else acc)

def times (k : Nat) (q : Point) : Point := mul 384 k q none
def base : Point := some (gx, gy)

/-- An uncompressed point as 97 bytes. -/
def encode : Point → List Byte
  | some (x, y) => [4] ++ beBytes 48 x ++ beBytes 48 y
  | none => zeros 97

/-- The point of 97 bytes, when they are one of the curve. -/
def decode (bs : List Byte) : Point :=
  let x := beNat ((bs.drop 1).take 48)
  let y := beNat ((bs.drop 49).take 48)
  if bs.head? = some 4 ∧ onCurve x y = true then some (x, y) else none

/-- ECDSA verification of a message digest under a public key. -/
def verify (pub digest sig : List Byte) : Bool :=
  let r := beNat (sig.take 48)
  let s := beNat ((sig.drop 48).take 48)
  match decode pub with
  | none => false
  | some q =>
    if r = 0 ∨ n ≤ r ∨ s = 0 ∨ n ≤ s then false
    else
      let w := inv n s
      match add (times (beNat digest * w % n) base) (times (r * w % n) (some q)) with
      | some (x, _) => x % n == r
      | none => false

/-- ECDSA signing under private scalar d with the per-message number k. [PRESUMED, log 21] -/
def sign (d : Nat) (digest : List Byte) (k : Nat) : List Byte :=
  match times k base with
  | some (x, _) =>
    let r := x % n
    beBytes 48 r ++ beBytes 48 (inv n k * ((beNat digest + r * d) % n) % n)
  | none => zeros 96

/-- The public key of a private scalar. -/
def pub (d : Nat) : List Byte := encode (times d base)

/-- The private scalar of R425, from the KDF's output. -/
def scalar (out : List Byte) : Nat := beNat out % (n - 1) + 1

end P384

/-! ### SHA-256 -/
namespace Sha256

def k (i : Nat) : BitVec 32 := ((shaK i) >>> 32).setWidth 32

/-- Message-schedule words, newest first, `m` more. -/
def schedule : Nat → List (BitVec 32) → List (BitVec 32)
  | 0, w => w
  | m + 1, w =>
    let at_ := fun i => w.getD i 0
    let x := at_ 14
    let y := at_ 1
    let s0 := x.rotateRight 7 ^^^ x.rotateRight 18 ^^^ (x >>> 3)
    let s1 := y.rotateRight 17 ^^^ y.rotateRight 19 ^^^ (y >>> 10)
    schedule m ((at_ 15 + s0 + at_ 6 + s1) :: w)

/-- The eight working variables. -/
structure Vars where
  a : BitVec 32
  b : BitVec 32
  c : BitVec 32
  d : BitVec 32
  e : BitVec 32
  f : BitVec 32
  g : BitVec 32
  h : BitVec 32
deriving DecidableEq, Repr

def rounds : Nat → List (BitVec 32) → Vars → Vars
  | _, [], v => v
  | i, w :: ws, v =>
    let s1 := v.e.rotateRight 6 ^^^ v.e.rotateRight 11 ^^^ v.e.rotateRight 25
    let ch := (v.e &&& v.f) ^^^ (~~~v.e &&& v.g)
    let t1 := v.h + s1 + ch + k i + w
    let s0 := v.a.rotateRight 2 ^^^ v.a.rotateRight 13 ^^^ v.a.rotateRight 22
    let maj := (v.a &&& v.b) ^^^ (v.a &&& v.c) ^^^ (v.b &&& v.c)
    rounds (i + 1) ws ⟨t1 + (s0 + maj), v.a, v.b, v.c, v.d + t1, v.e, v.f, v.g⟩

def block (v : Vars) (blk : List Byte) : Vars :=
  let w := ((chunks 4 16 blk).map fun c => BitVec.ofNat 32 (beNat c)).reverse
  let r := rounds 0 (schedule 48 w).reverse v
  ⟨v.a + r.a, v.b + r.b, v.c + r.c, v.d + r.d, v.e + r.e, v.f + r.f, v.g + r.g, v.h + r.h⟩

def init : Vars := ⟨0x6a09e667, 0xbb67ae85, 0x3c6ef372, 0xa54ff53a, 0x510e527f, 0x9b05688c, 0x1f83d9ab, 0x5be0cd19⟩

/-- SHA-256 (FIPS 180-4). -/
def hash (msg : List Byte) : List Byte :=
  let padded := msg ++ [0x80] ++ zeros ((119 - msg.length % 64) % 64) ++ beBytes 8 (8 * msg.length)
  let v := (chunks 64 (padded.length / 64) padded).foldl block init
  [v.a, v.b, v.c, v.d, v.e, v.f, v.g, v.h].flatMap fun x => beBytes 4 x.toNat

end Sha256

/-! ### LM-OTS and LMS -/
namespace Lms

/-- The prefixes of RFC 8554's hashes: I, a 32-bit number and a 16-bit number or a purpose. -/
def pre (i : List Byte) (q d : Nat) : List Byte := i ++ beBytes 4 q ++ beBytes 2 d

/-- The 67 four-bit digits of a message hash with its checksum. -/
def digits (q : List Byte) : List Nat :=
  let nib := fun (bs : List Byte) => (bs.flatMap fun x => [x.toNat / 16, x.toNat % 16] : List Nat)
  let ds : List Nat := nib q
  let sum := (ds.map fun a => 15 - a).foldl (· + ·) 0
  ds ++ (nib (beBytes 2 (sum * 16))).take 3

/-- `m` steps of chain i from step j. -/
def chain (id : List Byte) (q i : Nat) : Nat → Nat → List Byte → List Byte
  | 0, _, x => x
  | m + 1, j, x => chain id q i m (j + 1) (Sha256.hash (pre id q i ++ [BitVec.ofNat 8 j] ++ x))

/-- The hash of the 67 chain ends. -/
def otsKey (id : List Byte) (q : Nat) (ends : List (List Byte)) : List Byte := Sha256.hash (pre id q 0x8080 ++ ends.flatten)

/-- The message hash under randomiser c. -/
def msgHash (id : List Byte) (q : Nat) (c msg : List Byte) : List Byte := Sha256.hash (pre id q 0x8181 ++ c ++ msg)

/-- The candidate public key of a one-time signature. -/
def otsCandidate (id : List Byte) (q : Nat) (c : List Byte) (ys : List (List Byte)) (msg : List Byte) : List Byte :=
  let ends := (((digits (msgHash id q c msg)).zip ys).zipIdx).map fun x => chain id q x.2 (15 - x.1.1) x.1.1 x.1.2
  otsKey id q ends

/-- The private chain start (RFC 8554, Appendix A). -/
def secret (id seed : List Byte) (q i : Nat) : List Byte := Sha256.hash (pre id q i ++ [0xFF] ++ seed)

def leafKey (id seed : List Byte) (q : Nat) : List Byte :=
  otsKey id q ((List.range 67).map fun i => chain id q i 15 0 (secret id seed q i))

/-- Node r of the tree, `d` levels above the leaves. -/
def node (id seed : List Byte) : Nat → Nat → List Byte
  | 0, r => Sha256.hash (pre id r 0x8282 ++ leafKey id seed (r - 32768))
  | d + 1, r => Sha256.hash (pre id r 0x8383 ++ node id seed d (2 * r) ++ node id seed d (2 * r + 1))

/-- The HSS public key of a tree. [PRESUMED, log 21] -/
def pub (seed id : List Byte) : List Byte := beBytes 4 1 ++ beBytes 4 7 ++ beBytes 4 3 ++ id ++ node id seed 15 1

/-- The HSS signature by leaf q with randomiser c. [PRESUMED, log 21] -/
def sign (seed id : List Byte) (q : Nat) (c msg : List Byte) : List Byte :=
  let ys := ((digits (msgHash id q c msg)).zipIdx).map fun x => chain id q x.2 x.1 0 (secret id seed q x.2)
  let path := (List.range 15).map fun i => node id seed i (((32768 + q) / 2 ^ i) ^^^ 1)
  beBytes 4 0 ++ beBytes 4 q ++ beBytes 4 3 ++ c ++ ys.flatten ++ beBytes 4 7 ++ path.flatten

/-- The root a leaf's hash and its path lead to. -/
def climb (id : List Byte) : List (List Byte) → Nat → List Byte → List Byte
  | [], _, x => x
  | y :: ys, r, x =>
    climb id ys (r / 2) (Sha256.hash (pre id (r / 2) 0x8383 ++ (if r % 2 = 1 then y ++ x else x ++ y)))

/-- HSS verification with one level. -/
def verify (pk msg sig : List Byte) : Bool :=
  let f := fun (l : List Byte) o m => (l.drop o).take m
  let id := f pk 12 16
  let q := beNat (f sig 4 4)
  let ys := chunks 32 67 (f sig 44 2144)
  let kc := otsCandidate id q (f sig 12 32) ys msg
  let leaf := Sha256.hash (pre id (32768 + q) 0x8282 ++ kc)
  pk.length == 60 && sig.length == 2672 && beNat (f pk 0 4) == 1 && beNat (f pk 4 4) == 7 && beNat (f pk 8 4) == 3
    && beNat (f sig 0 4) == 0 && decide (q < 32768) && beNat (f sig 8 4) == 3 && beNat (f sig 2188 4) == 7
    && climb id (chunks 32 15 (f sig 2192 480)) (32768 + q) leaf == f pk 28 32

end Lms

end Sys2Proof.Machine
end

