-- ==== Sys2Proof/Machine/Sec.lean ====
section
/-! DEFINITION. The security block: life-cycle states and staging (R416-R419), tokens (R430-R432), identity and attestation (R427-R429), the
commands of R444, physical presence and the seal loop (R434-R438), and tamper (R439-R441). -/

namespace Sys2Proof.Machine

def State.modSec (s : State) (f : Sec → Sec) : State := { s with sec := f s.sec }

/-! ### Life cycle (R416) -/

def Otp.lc (o : Otp) : LifeCycle :=
  if o.lcEnded then .ended
  else if o.lcSteps = 0 then .maker
  else if (o.lcSteps - 1) % 3 = 0 then .provisioned
  else if (o.lcSteps - 1) % 3 = 1 then .deployed
  else .returned

/-- The count of re-provisionings. -/
def Otp.reprov (o : Otp) : Nat := (o.lcSteps - 1) / 3

def lcCode : LifeCycle → Nat
  | .maker => 0
  | .provisioned => 1
  | .deployed => 2
  | .returned => 3
  | .ended => 4

/-- The transitions of R417 with the LC_STEPS bits each programs; none where the table has no such row. -/
def lcSteps : LifeCycle → LifeCycle → Option Nat
  | .maker, .provisioned => some 1
  | .provisioned, .deployed => some 1
  | .provisioned, .returned => some 2
  | .deployed, .returned => some 1
  | .returned, .provisioned => some 1
  | .maker, .ended => some 0
  | .provisioned, .ended => some 0
  | .deployed, .ended => some 0
  | .returned, .ended => some 0
  | _, _ => none

/-- The transitions that need presence. -/
def lcPresence : LifeCycle → LifeCycle → Bool
  | .maker, .provisioned => false
  | .provisioned, .deployed => false
  | _, _ => true

/-! ### Presence and the seal (R434-R437) -/

def State.sealIntact (s : State) : Bool := !s.otp.sealFitted || s.sec.sealOk
def State.present (s : State) : Bool := s.sec.windowEnd.isSome && s.sealIntact

/-- Events have a collector to go to only outside DORMANT. -/
def State.presenceEvent (s : State) (aux : Nat) : State :=
  if s.sys.mode == .dormant then s else s.raise Ev.PRESENCE Src.secPresence 0 aux

/-- The presence window ends, and SERVICE with it (R435, R438). -/
def State.endWindow (s : State) : State :=
  if s.sec.windowEnd.isNone then s
  else
    let s := (s.modSec fun c => { c with windowEnd := none }).presenceEvent 0
    if s.sys.mode == .service then s.forceMode .survey else s

/-- The window of R434: 120 s. -/
def presenceDticks : Nat := 120 * 24576000

/-- PRESENCE_RELEASE: PRESENCE_N is released after `holdMs` at its low level. [DEDUCED, log 50] -/
def execPresenceRelease (holdMs : Nat) (s : State) : Out :=
  if 2000 ≤ holdMs ∧ holdMs ≤ 30000 ∧ s.sealIntact = true then
    .next ((s.modSec fun c => { c with windowEnd := some (s.time + BitVec.ofNat 64 presenceDticks) }).presenceEvent 1)
  else .next s

/-- PRESENCE_WINDOW_EXPIRE: the 120 s of the window now open have run out; one armed anew stays armed. -/
def execPresenceWindowExpire (s : State) : Out :=
  match s.sec.windowEnd with
  | some t => .next (if t.toNat ≤ s.now then s.endWindow else s)
  | none => .next s

/-! ### Tamper (R439-R441) -/

/-- Where the tamper log lies (R443). -/
def tamperLog : Nat := 0x1831A000

/-- Write one log entry, in rotation. [DEDUCED, log 28] -/
def State.writeTamper (s : State) (e : TamperEntry) : State :=
  let a := tamperLog + 16 * (s.sec.logCount % 64)
  (s.mramRecord (.record .tamper) a (leBytes 6 e.stamp.toNat ++ [e.source, e.response, e.mode] ++ zeros 7)).modSec fun c =>
    { c with logCount := c.logCount + 1 }

/-- Log an entry; a freeze of MRAM holds it (R544). -/
def State.logTamper (s : State) (e : TamperEntry) : State :=
  if s.sys.mramFrozen then s.modSec fun c => { c with heldLog := c.heldLog ++ [e] } else s.writeTamper e

/-- What a source with the wipe response does beside its entry. -/
def State.tamperWipe (s : State) : State :=
  let s := (s.startWipe 1).dropRegions fun _ => true
  let s := (s.modSec fun c => { c with scopes := 0, nonce := none }).endWindow
  match s.sys.mode with
  | .head | .follow | .holdover | .subordinate | .service => s.forceMode .survey
  | .survey | .lastgasp | .dormant => s

/-- The response configured for a source (R440). -/
def State.tamperBit (s : State) (i : Nat) : Bool := s.fldBit F.SEC_TAMP_CFG_WIPE i

/-- Source i + 1 fires, with a stamp. [DEDUCED, log 50] -/
def State.tamperAt (s : State) (i : Nat) (stamp : BitVec 48) : State :=
  let wipe := s.tamperBit i
  let s := s.logTamper ⟨stamp, BitVec.ofNat 8 (i + 1), if wipe then 1 else 0, BitVec.ofNat 8 (modeCode s.sys.mode)⟩
  let s := (s.flagBit F.SEC_TAMP_FLAGS_FIRED i).flag F.SEC_FLAGS_TAMPER
  let s := s.raise Ev.TAMPER Src.secTamper 0 (i + 1)
  if wipe then s.tamperWipe else s

def State.tamper (s : State) (i : Nat) : State := s.tamperAt i s.stamp

/-- The seal opens (R437): in DORMANT it is latched for the next start-up. [DEDUCED, log 50] -/
def State.sealOpen (s : State) : State :=
  let s := s.modSec fun c => { c with sealOk := false }
  if s.sys.mode == .dormant then
    (s.modSec fun c => { c with sealLatched := some (c.sealLatched.getD s.time) }).endWindow
  else (s.tamper 0).endWindow

/-- SEAL_PULSE: a pulse of `width` AO ticks was driven and `observed` is the width SEAL_B showed within its tick of delay. [DEDUCED, log 50] -/
def execSealPulse (width observed : Nat) (s : State) : Out :=
  if !s.otp.sealFitted then .next s
  else if width = observed then
    let hits := s.sec.sealHit + 1
    .next (s.modSec fun c =>
      { c with sealMiss := 0, sealHit := if c.sealOk ∨ 8 ≤ hits then 0 else hits, sealOk := c.sealOk || decide (8 ≤ hits) })
  else
    let misses := s.sec.sealMiss + 1
    let s := s.modSec fun c => { c with sealHit := 0, sealMiss := if c.sealOk = true ∧ misses < 2 then misses else 0 }
    .next (if s.sec.sealOk = true ∧ 2 ≤ misses then s.sealOpen else s)

/-- Whether a source is monitored now (R439): the supply and clock monitors from the end of power-on reset, or of a wake's settling, to DORMANT
entry. [DEDUCED, log 50] -/
def State.tamperArmed (s : State) (i : Fin 5) : Bool :=
  match i with
  | 0 => s.otp.sealFitted && s.sec.sealOk
  | 1 | 2 => s.sys.mode != .dormant && !s.inPowerOn && s.sys.phase != .railSettle
  | _ => s.sys.mode != .dormant

/-- The source that watches a quantity, numbered from 0 (R439). -/
def tamperSource : TamperPart → Fin 5
  | .vddCore | .vddAo => 1
  | .coreClock | .lineClock | .refclk => 2
  | .junction => 3
  | .mesh => 4

/-- A watched quantity leaves its limits or is back within them: its source fires where nothing it watches was outside them (R441). -/
def State.tamperPart (s : State) (p : TamperPart) (outside : Bool) : State :=
  if !outside then s.modSec fun c => { c with away := c.away.filter (· != p) }
  else if !s.tamperArmed (tamperSource p) then s
  else
    let again := s.sec.away.any fun q => tamperSource q == tamperSource p
    let s := s.modSec fun c => { c with away := p :: c.away.filter (· != p) }
    if again then s else s.tamper (tamperSource p)

/-- A junction outside SEC_TEMP_LIM: LO is signed, HI unsigned (R446). -/
def State.tempOutside (s : State) (c : Int) : Bool :=
  decide (c < signedOf 8 (s.fld F.SEC_TEMP_LIM_LO) ∨ (s.fld F.SEC_TEMP_LIM_HI : Int) < c)

/-- TAMPER_FIRE: what a source sees, held against the limits of R439. [DEDUCED, log 50] -/
def execTamperFire (sight : TamperSight) (s : State) : Out :=
  match sight with
  | .seal => .next (if s.tamperArmed 0 then s.sealOpen else s)
  | .supply ao uv ns =>
    let out := decide (uv < 620000 ∨ 1000000 < uv)
    .next (if out = true ∧ ns < 2 then s else s.tamperPart (if ao then .vddAo else .vddCore) out)
  | .clock line periods =>
    .next (s.tamperPart (if line then .lineClock else .coreClock) (decide (periods < 7 / 10 ∨ 4 ≤ periods)))
  | .junction c => .next (s.tamperPart .junction (s.tempOutside c))
  | .mesh whole => .next (s.tamperPart .mesh (!whole))

/-! ### Results of R444 -/
namespace Sr
def ok : Nat := 0
def badToken : Nat := 1
def wrongDevice : Nat := 2
def stale : Nat := 3
def wrongState : Nat := 4
def noPresence : Nat := 5
def exhausted : Nat := 6
def notReady : Nat := 7
def badOp : Nat := 8
end Sr

/-! ### Staging (R417, R418) -/

/-- The pending record's place (R443). -/
def pendingAt : Nat := 0x18310000

/-- A command that ends with a result and nothing else. -/
def SecCmd.plain (r : Nat) : SecCmd := ⟨r, none, [], none, false⟩

/-- The bytes of the pending record, or those that delete it. -/
def pendingBytes : Option Pending → List Byte
  | some p => p.token ++ [BitVec.ofNat 8 (lcCode p.target)]
  | none => zeros 3089

/-- Write or delete the pending record; the transition is staged, or is no longer, when its last word has been written. [DEDUCED, log 49] -/
def State.putPending (s : State) (p : Option Pending) : State × SecCmd :=
  (s.mramRecord (.record .security) pendingAt (pendingBytes p), { SecCmd.plain 0 with stage := some p })

def State.stageTo (s : State) (target : LifeCycle) (token : List Byte) : State × SecCmd :=
  s.putPending (some ⟨s.otp.lc, target, s.otp.uid, token⟩)

/-- What is staged once a command's writes have ended or been cut short: what the record in MRAM holds, which is none where it is neither the new
record nor the old. [DEDUCED, log 49] -/
def State.settleStage (s : State) (new : Option Pending) : State :=
  let holds := fun (p : Option Pending) => s.bytes pendingAt 3089 == pendingBytes p
  if holds new then s.modSec fun c => { c with staged := new }
  else if holds s.sec.staged then s
  else s.modSec fun c => { c with staged := none }

/-- The conditions of R417 on a transition. [DEDUCED, log 49] -/
def State.mayStage (s : State) (target : LifeCycle) : Nat :=
  match lcSteps s.otp.lc target with
  | none => Sr.wrongState
  | some n =>
    if lcPresence s.otp.lc target && !s.present then Sr.noPresence
    else if target == .returned && s.sys.mode != .service then Sr.wrongState
    else if 32 < s.otp.lcSteps + n then Sr.exhausted
    else Sr.ok

/-! ### Tokens (R430) -/

/-- Where command buffers may lie (R445). -/
def secRegion (a n : Nat) : Bool :=
  decide (0x10140000 ≤ a ∧ a + n ≤ 0x10240000) || decide (extBase ≤ a ∧ a + n ≤ 2 ^ 32)

def State.secBuf (s : State) : Nat := (s.reg R.SEC_CMD_BUF).toNat / 4 * 4
def State.secOut (s : State) : Nat := (s.reg R.SEC_CMD_OUT).toNat / 4 * 4

/-- Read a command's input. -/
def State.secIn (s : State) (n : Nat) : State × Option (List Byte) :=
  if secRegion s.secBuf n then s.unitRead s.secBuf n else (s, none)

/-- Write a command's output at an address; the answer is false where it cannot be written. -/
def State.secPutAt (s : State) (a : Nat) (bs : List Byte) : State × Bool :=
  if secRegion a bs.length then s.unitWrite a bs else (s, false)
def State.secPut (s : State) (bs : List Byte) : State × Bool := s.secPutAt s.secOut bs

def slice (bs : List Byte) (o n : Nat) : List Byte := (bs.drop o).take n

/-- The signature block of images and tokens: SHA-384 of the two public keys, and both signatures over a message. -/
def keysHash (ecdsaPub hssPub : List Byte) : List Byte := sha384 (ecdsaPub ++ hssPub)

/-- The kind of a token. -/
def tokenKind (t : List Byte) : Nat := (t.getD 4 0).toNat

/-- Whether a token of one of the kinds given is genuine. -/
def State.tokenGenuine (s : State) (kinds : List Nat) (t : List Byte) : Bool :=
  slice t 0 4 == [0x54, 0x4B, 0x4E, 0x31] && kinds.contains (tokenKind t)
    && keysHash (slice t 160 97) (slice t 260 60) == s.otp.tokenKeyHash
    && P384.verify (slice t 160 97) (sha384 (t.take 320)) (slice t 320 96)
    && Lms.verify (slice t 260 60) (t.take 320) (slice t 416 2672)

/-- The checks of R430 in its order; `next` is the last of them. [DEDUCED, log 49] -/
def State.checkToken (s : State) (nonce : List Byte) (kinds : List Nat) (t : List Byte) (next : Nat) : Nat :=
  if !s.tokenGenuine kinds t then Sr.badToken
  else if slice t 8 16 ≠ s.otp.uid then Sr.wrongDevice
  else if slice t 24 16 ≠ nonce then Sr.stale
  else if (t.getD 5 0).toNat ≠ lcCode s.otp.lc then Sr.wrongState
  else next

/-- A token command consumes the nonce (R431); its token, if a nonce was set and the token could be read. -/
def State.tokenStart (s : State) : State × Except Nat (List Byte × List Byte) :=
  match s.sec.nonce with
  | none => (s, .error Sr.stale)
  | some n =>
    match (s.modSec fun c => { c with nonce := none }).secIn 3088 with
    | (s, some t) => (s, .ok (n, t))
    | (s, none) => (s, .error Sr.badToken)

/-- Where a token's kind leads. -/
def tokenTarget (t : List Byte) : LifeCycle :=
  if tokenKind t = 1 then .provisioned else if tokenKind t = 2 then .returned else .ended

/-- A token command that failed, with its flag. -/
def State.tokenFail (s : State) (r : Nat) : State × SecCmd := (s.flag F.SEC_FLAGS_TOKEN_FAIL, SecCmd.plain r)

/-- STAGE (R418). [DEDUCED, log 49] -/
def State.secStage (s : State) : State × SecCmd :=
  match s.tokenStart with
  | (s, .error r) => s.tokenFail r
  | (s, .ok (n, t)) =>
    let r := s.checkToken n [1, 2, 3] t (s.mayStage (tokenTarget t))
    if r = 0 then s.stageTo (tokenTarget t) t else s.tokenFail r

/-- DEBUG (R432). -/
def State.secDebug (s : State) : State × SecCmd :=
  match s.tokenStart with
  | (s, .error r) => s.tokenFail r
  | (s, .ok (n, t)) =>
    let r := s.checkToken n [4] t (if s.otp.lc == .provisioned then Sr.ok else Sr.wrongState)
    let scopes := s.sec.scopes ||| (t.getD 6 0).setWidth 3
    if r = 0 then (s.modSec fun c => { c with scopes := scopes, opened := c.opened || scopes != 0 }, SecCmd.plain 0) else s.tokenFail r

/-! ### Identity and attestation (R427-R429) -/

/-- LMS state in the MRAM security area (R443): the next leaf q, and whether the tree is valid. -/
def lmsState : Nat := 0x18311000
def lmsCache : Nat := 0x18312000
def State.lmsQ (s : State) : Nat := s.mramLe lmsState 4
def State.lmsValid (s : State) : Bool := s.mramByte (lmsState + 20) != 0
def State.lmsOut (s : State) : Bool := s.lmsValid && decide (32768 ≤ s.lmsQ)

/-- Registers that hold a digest, as bytes, and their setting. -/
def State.digest (s : State) (a : Nat) : List Byte := (List.range 12).flatMap fun i => leBytes 4 (s.reg (a + 4 * i)).toNat
def State.setDigest (s : State) (a : Nat) (d : List Byte) : State :=
  (List.range 12).foldl (fun (s : State) i => s.setReg (a + 4 * i) (BitVec.ofNat 32 (leNat (slice d (4 * i) 4)))) s

/-- The next leaf and whether the tree is valid, read with the errors listed (R402). -/
def State.lmsRead (s : State) (mram : List (Word × ScrubOutcome)) : State × Nat × Bool :=
  let (s, bs) := s.recordRead mram lmsState 24
  (s, leNat (bs.take 4), bs.getD 20 0 != 0)

/-- The HSS public key, or zeros where no tree exists. -/
def State.hssPub (s : State) (valid : Bool) : List Byte :=
  match s.sec.lms with
  | some (seed, id) => if valid then Lms.pub seed id else zeros 60
  | none => zeros 60

/-- IDENT (R428). [DEDUCED, log 49] -/
def State.secIdent (s : State) (mram : List (Word × ScrubOutcome)) : State × SecCmd :=
  match s.sec.idk with
  | none => (s, SecCmd.plain Sr.notReady)
  | some d =>
    let (s, _, valid) := s.lmsRead mram
    match s.secPut (P384.pub (beNat d) ++ zeros 3 ++ s.hssPub valid) with
    | (s, true) => (s, SecCmd.plain Sr.ok)
    | (s, false) => (s, SecCmd.plain Sr.badOp)

/-- The number ECDSA draws for one signature. -/
def State.drawK (s : State) : State × Nat := (s.drawn 1, (Config.freeValue 384 s.freeCtr).toNat % (P384.n - 1) + 1)

/-- Take the next leaf (R427): its number and the tree, where one is left. -/
def State.takeLeaf (s : State) (mram : List (Word × ScrubOutcome)) : State × Option (Nat × List Byte × List Byte) :=
  match s.sec.lms with
  | none => (s, none)
  | some (seed, id) =>
    let (s, q, valid) := s.lmsRead mram
    if valid && decide (q < 32768) then (s.mramRecord (.record .security) lmsState (leBytes 4 (q + 1)), some (q, seed, id)) else (s, none)

/-- Bytes 0-191 of a report. -/
def State.reportHead (s : State) (leaf : Option Nat) (chal : List Byte) : List Byte :=
  let bit := fun (b : Bool) n => if b then n else 0
  [0x41, 0x54, 0x54, 0x31, 1, 0] ++ leBytes 1 (lcCode s.otp.lc) ++ leBytes 1 s.otp.reprov ++ s.otp.uid
    ++ leBytes 6 s.stamp.toNat ++ zeros 2 ++ leBytes 1 s.otp.rollback ++ leBytes 1 (s.fld F.SEC_BOOT_SVN)
    ++ leBytes 1 (s.fld F.SEC_BOOT_KEYIDX) ++ leBytes 1 (s.fld F.SEC_BOOT_SOURCE) ++ leBytes 4 (leaf.getD 0xFFFFFFFF)
    ++ leBytes 4 s.sec.logCount ++ leBytes 4 (bit s.sec.opened 1 + bit leaf.isNone 2 + bit s.sec.testImage 4)
    ++ s.digest (R.SEC_M0_i 0) ++ s.digest (R.SEC_M1_i 0) ++ chal ++ zeros 16

/-- ATTEST (R428): the report is released when its leaf's write has verified. [DEDUCED, log 49] -/
def State.secAttest (s : State) (mram : List (Word × ScrubOutcome)) : State × SecCmd :=
  match s.sec.idk with
  | none => (s, SecCmd.plain Sr.notReady)
  | some d =>
    match s.secIn 32 with
    | (s, none) => (s, SecCmd.plain Sr.badOp)
    | (s, some chal) =>
      if !secRegion s.secOut 2960 then (s, SecCmd.plain Sr.badOp)
      else
        let (s, leaf) := s.takeLeaf mram
        let head := s.reportHead (leaf.map (·.1)) chal
        let (s, k) := s.drawK
        let ec := P384.sign (beNat d) (sha384 head) k
        let (s, hss) := match leaf with
          | some (q, seed, id) => (s.drawn 1, Lms.sign seed id q (leBytes 32 (Config.freeValue 256 s.freeCtr).toNat) head)
          | none => (s, zeros 2672)
        (s, { SecCmd.plain 0 with report := some (s.secOut, head ++ ec ++ hss) })

/-- EXTEND (R429). [DEDUCED, log 49] -/
def State.secExtend (s : State) : State × SecCmd :=
  match s.secIn 48 with
  | (s, some d) => (s.setDigest (R.SEC_M1_i 0) (sha384 (s.digest (R.SEC_M1_i 0) ++ d)), SecCmd.plain Sr.ok)
  | (s, none) => (s, SecCmd.plain Sr.badOp)

/-! ### The other commands -/

/-- NONCE (R431). -/
def State.secNonce (s : State) : State × SecCmd :=
  ((s.drawn 1).modSec fun c => { c with nonce := some (leBytes 16 (Config.freeValue 128 s.freeCtr).toNat) }, SecCmd.plain Sr.ok)

/-- UNSTAGE (R418). [DEDUCED, log 49] -/
def State.secUnstage (s : State) : State × SecCmd :=
  if s.sec.staged.isSome then s.putPending none else (s, SecCmd.plain Sr.ok)

/-- DEPLOY (R417). -/
def State.secDeploy (s : State) : State × SecCmd :=
  let r := if s.otp.lc == .provisioned then s.mayStage .deployed else Sr.wrongState
  if r = 0 then s.stageTo .deployed (zeros 3088) else (s, SecCmd.plain r)

/-- END_LOCAL (R417). -/
def State.secEndLocal (s : State) : State × SecCmd :=
  let r := if s.otp.lc == .maker || s.otp.lc == .returned then s.mayStage .ended else Sr.wrongState
  if r = 0 then s.stageTo .ended (zeros 3088) else (s, SecCmd.plain r)

/-- Program an OTP bit; a thermometer's count follows (R414). -/
def Otp.program (o : Otp) : OtpBit → Otp
  | .lcStep i => { o with lcSteps := max o.lcSteps (i + 1) }
  | .lcEnded => { o with lcEnded := true }
  | .rollback i => { o with rollback := max o.rollback (i + 1) }
  | .revoke k => { o with revoke := o.revoke ||| BitVec.twoPow 4 k.val }

def State.burn (s : State) (bits : List OtpBit) : State := { s with otp := bits.foldl Otp.program s.otp }

/-- ROLLBACK (R424): the bits it programs, from bit c upward. -/
def State.secRollback (s : State) : State × SecCmd :=
  let c := s.otp.rollback
  (s, { SecCmd.plain Sr.ok with burn := (List.range (s.fld F.SEC_BOOT_SVN - c)).map fun i => .rollback (c + i) })

/-- REVOKE (R424): the key index is in SEC_CMD_BUF bits 1:0. [DEDUCED, log 49] -/
def State.secRevoke (s : State) : State × SecCmd :=
  let k := (s.reg R.SEC_CMD_BUF).toNat % 4
  let others := (List.range 4).all fun i => i == k || s.otp.revoke.getLsbD i
  if k = s.fld F.SEC_BOOT_KEYIDX ∨ others = true then (s, SecCmd.plain Sr.wrongState)
  else (s, { SecCmd.plain Sr.ok with burn := [.revoke (Fin.ofNat 4 k)] })

/-- A reset cuts a burn short (R415): some of its bits are programmed, and the next is unprogrammed or reads 1 at normal margin only until the
next start-up. [DEDUCED, log 49] -/
def State.cutBurn (s : State) : State :=
  match s.sec.cmd with
  | none => s
  | some c =>
    if c.burn.isEmpty then s
    else
      let n := (Config.freeValue 32 s.freeCtr).toNat % (c.burn.length + 1)
      let half := if Config.freeValue 1 (s.freeCtr + 1) = 1 then (c.burn.drop n).take 1 else []
      let s := (s.drawn 2).burn (c.burn.take n ++ half)
      { s with otp := { s.otp with weak := s.otp.weak ++ half } }

/-- A write of SEC_CMD (R444). [DESIGN CHOICE, log 27] -/
def State.writeSecCmd (s : State) (v : Word) (mram : List (Word × ScrubOutcome)) : State :=
  if s.busOff then s
  else if s.sec.cmd.isSome then s.flag F.SEC_FLAGS_CMD_OVR
  else
    let (s, cmd) := match v.toNat % 16 with
      | 1 => s.secNonce
      | 2 => s.secStage
      | 3 => s.secUnstage
      | 4 => s.secDeploy
      | 5 => s.secDebug
      | 6 => s.secAttest mram
      | 7 => s.secIdent mram
      | 8 => s.secExtend
      | 9 => s.secRollback
      | 10 => s.secRevoke
      | 11 => s.secEndLocal
      | _ => (s, SecCmd.plain Sr.badOp)
    (s.modSec fun c => { c with cmd := some cmd }).flag F.SEC_CMD_STAT_BUSY

/-- NONCE. -/
def execNonce (_agent : Agent) (s : State) : Out := .next (s.writeSecCmd 1 [])
/-- STAGE. -/
def execStage (_agent : Agent) (s : State) : Out := .next (s.writeSecCmd 2 [])
/-- UNSTAGE. -/
def execUnstage (_agent : Agent) (s : State) : Out := .next (s.writeSecCmd 3 [])
/-- DEPLOY. -/
def execDeploy (_agent : Agent) (s : State) : Out := .next (s.writeSecCmd 4 [])
/-- DEBUG. -/
def execDebug (_agent : Agent) (s : State) : Out := .next (s.writeSecCmd 5 [])
/-- ATTEST. -/
def execAttest (_agent : Agent) (mram : List (Word × ScrubOutcome)) (s : State) : Out := .next (s.writeSecCmd 6 mram)
/-- IDENT. -/
def execIdent (_agent : Agent) (mram : List (Word × ScrubOutcome)) (s : State) : Out := .next (s.writeSecCmd 7 mram)
/-- EXTEND. -/
def execExtend (_agent : Agent) (s : State) : Out := .next (s.writeSecCmd 8 [])
/-- ROLLBACK. -/
def execRollback (_agent : Agent) (s : State) : Out := .next (s.writeSecCmd 9 [])
/-- REVOKE. -/
def execRevoke (_agent : Agent) (s : State) : Out := .next (s.writeSecCmd 10 [])
/-- END_LOCAL. -/
def execEndLocal (_agent : Agent) (s : State) : Out := .next (s.writeSecCmd 11 [])

/-- BUSY clears and RESULT is written. -/
def State.secResult (s : State) (r : Nat) : State :=
  ((s.modSec fun c => { c with cmd := none }).setFld F.SEC_CMD_STAT_BUSY 0).setFld F.SEC_CMD_STAT_RESULT r

/-- A command ends whose MRAM words have all been written: what it staged or programmed holds, and its report is released. Where a word failed, it
ends NOT_READY with what the record then holds. [DESIGN CHOICE, log 27] -/
def State.endSecCmd (s : State) (c : SecCmd) : State :=
  let s := match c.stage with
    | some p => s.settleStage p
    | none => s
  if c.failed then s.secResult Sr.notReady
  else
    let s := s.burn c.burn
    match c.report with
    | none => s.secResult c.result
    | some (a, bs) =>
      match s.secPutAt a bs with
      | (s, true) => (s.secResult c.result).raise Ev.ATTEST_DONE Src.secBoot (BitVec.ofNat 32 a) 0
      | (s, false) => s.secResult Sr.badOp

/-- SEC_CMD_COMPLETE: a command ends, once its last MRAM word has been written (R418, R427). [DESIGN CHOICE, log 27] -/
def execSecCmdComplete (s : State) : Out :=
  match s.sec.cmd with
  | none => .next s
  | some c => .next (if s.memu.mramPend.any fun w => w.writer == .record .security then s else s.endSecCmd c)

end Sys2Proof.Machine
end

