-- ==== Sys2Proof/Machine/Serial.lean ====
section
/-! DEFINITION. The serial ports: receiving, sending, flow control, breaks and the stuck line, and the wake disarm (R481-R498). -/

namespace Sys2Proof.Machine

/-- Change UART n. -/
def State.modUart (s : State) (n : Fin 2) (f : Uart → Uart) : State := { s with uart := s.uart.set n (f s.uart[n]) }

/-- The line settings the registers now hold (R491). -/
def State.uartNow (s : State) (n : Fin 2) : UartLine :=
  ⟨BitVec.ofNat 20 (s.fld (F.UARTn_DIV_DIV n)), (s.reg (R.UARTn_FMT n)).setWidth 4, BitVec.ofNat 2 (natBits (s.reg (R.UARTn_CTL n)).toNat 5 4)⟩

/-- Data bits, parity mode and stop bits of a format (R482). -/
def UartLine.dbits (l : UartLine) : Nat := if l.fmt.getLsbD 0 then 7 else 8
def UartLine.parity (l : UartLine) : Nat := if natBits l.fmt.toNat 2 1 = 3 then 0 else natBits l.fmt.toNat 2 1
def UartLine.stops (l : UartLine) : Nat := if l.fmt.getLsbD 3 then 2 else 1

/-- Bits in one character (R482). -/
def UartLine.charBits (l : UartLine) : Nat := 1 + l.dbits + (if l.parity = 0 then 0 else 1) + l.stops

/-- WAKE cycles of a bit (R483) and of a character (R482). -/
def UartLine.bitCycles (l : UartLine) : Nat := max 16 l.div.toNat
def UartLine.charCycles (l : UartLine) : Nat := l.charBits * l.bitCycles

/-- UART0's SIR mode, and its polarity: 1 makes a pulse a low level (R492). -/
def UartLine.sirOn (l : UartLine) : Bool := l.sir.getLsbD 0
def UartLine.sirLow (l : UartLine) : Bool := l.sir.getLsbD 1

/-- `n` cycles of the 48 MHz WAKE clock have passed since `t`: a cycle is 64/125 of a dtick. -/
def State.wakePassed (s : State) (t : Time) (n : Nat) : Bool := decide (64 * n ≤ 125 * (s.now - t.toNat))

/-- The settings that were in force at an instant (R491). -/
def State.uartAt (s : State) (n : Fin 2) (t : Time) : UartLine :=
  match s.uart[n].was.find? fun p => decide (t.toNat < p.1.toNat) with
  | some p => p.2
  | none => s.uartNow n

/-- The settings have changed from `old`: characters that started before now keep it (R491). -/
def State.keepLine (s : State) (n : Fin 2) (old : UartLine) : State :=
  if s.uartNow n = old then s else s.modUart n fun u => { u with was := u.was ++ [(s.time, old)] }

/-- Receive FIFO level that raises UART_RX (R487). -/
def State.rxTrig (s : State) (n : Fin 2) : Nat := min 64 (max 1 (s.fld (F.UARTn_FIFO_CTL_RX_TRIG n)))

/-- RTS_N after the receive level has changed (R493): by hysteresis with AFC on UART1, else asserted while EN. -/
def State.updateRts (s : State) (n : Fin 2) : State :=
  let u := s.uart[n]
  let lvl := u.rx.length
  let r :=
    if !s.on (F.UARTn_CTL_EN n) then true
    else if n = 1 && s.on (F.UARTn_CTL_AFC n) then
      if s.fld (F.UARTn_FIFO_CTL_RTS_HI n) ≤ lvl then true
      else if lvl ≤ s.fld (F.UARTn_FIFO_CTL_RTS_LO n) then false else u.rtsN
    else false
  s.modUart n fun u => { u with rtsN := r }

/-- Release the latches of R487 once the FIFO is below RX_TRIG, or empty. -/
def State.releaseRx (s : State) (n : Fin 2) : State :=
  let lvl := s.uart[n].rx.length
  let t := s.rxTrig n
  (s.modUart n fun u => { u with trigHeld := u.trigHeld && decide (t ≤ lvl), idleHeld := u.idleHeld && decide (lvl ≠ 0) }).updateRts n

/-- UART_ERROR at most once per 1 ms per UART, with the four bits in AUX (R486). -/
def State.uartError (s : State) (n : Fin 2) (bits : Nat) : State :=
  s.raiseLimited (Lim.uartError n) 24576 Ev.UART_ERROR (Src.uart n) (BitVec.ofNat 32 n) bits

/-- Write one entry into the receive FIFO, or overrun (R485), with UART_ERROR for the character's errors together (R486); UART_RX when the level
reaches RX_TRIG (R487). -/
def State.pushRx (s : State) (n : Fin 2) (errs : Nat) (e : BitVec 12) : State :=
  if s.uart[n].rx.length < 64 then
    let s := if errs = 0 then s else s.uartError n errs
    let s := s.modUart n fun u => { u with rx := u.rx ++ [e] }
    let s := s.updateRts n
    if s.rxTrig n ≤ s.uart[n].rx.length && !s.uart[n].trigHeld then
      (s.modUart n fun u => { u with trigHeld := true }).raise Ev.UART_RX (Src.uart n) (BitVec.ofNat 32 n) 0
    else s
  else (s.flag (F.UARTn_FLAGS_OVR n)).uartError n (errs + 8)

/-! ### Characters as levels, tick by tick -/

/-- A level of the received character, high where it is not given. -/
def levelAt (l : List Bool) (i : Nat) : Bool := l.getD i true

/-- Samples 7, 8 and 9 of bit b (R484). -/
def middle (l : List Bool) (b : Nat) : List Bool := [levelAt l (16 * b + 7), levelAt l (16 * b + 8), levelAt l (16 * b + 9)]

/-- Their majority (R484). -/
def rxdBit (l : List Bool) (b : Nat) : Bool := decide (2 ≤ (middle l b).count true)

/-- They disagree (R485). -/
def rxdNoisy (l : List Bool) (b : Nat) : Bool := !((middle l b).all id || (middle l b).all fun x => !x)

/-- The glitch filter (R484, R558): a level that it does not accept stays what it was before. `ok` says of the i-th run, by level and WAKE cycles,
whether it is accepted. -/
def glitchFree (ok : Nat → Bool → Rat → Bool) : Nat → Bool → List (Bool × Rat) → List (Bool × Rat)
  | _, _, [] => []
  | i, was, (v, d) :: rest =>
    let now := if v == was || ok i v d then v else was
    (now, d) :: glitchFree ok (i + 1) now rest

/-- A level is accepted that holds for 2 WAKE cycles; in SIR mode a pulse of 0.1 us or longer is, and between the two without rule (R558). -/
def State.levelOk (s : State) (l : UartLine) (i : Nat) (v : Bool) (d : Rat) : Bool :=
  decide (2 ≤ d) && (!l.sirOn || v == l.sirLow || decide (24 / 5 ≤ d) || Config.freeValue 1 (s.freeCtr + i) == 1)

/-- The level at a time after the first run's start; the line idles high after the last. -/
def levelsAt : Rat → List (Bool × Rat) → Bool
  | _, [] => true
  | t, (v, d) :: rest => if t < d then v else levelsAt (t - d) rest

/-- The leading edges of pulses; `was` is a pulse (R492). -/
def pulseEdges (low : Bool) : Rat → Bool → List (Bool × Rat) → List Rat
  | _, _, [] => []
  | t, was, (v, d) :: rest => (if v != low && !was then [t] else []) ++ pulseEdges low (t + d) (v != low) rest

/-- The level at each sample tick of a character (R483, R484), the start edge's own first; in SIR mode each pulse is a 0 of 16 ticks from its leading
edge (R492). [DESIGN CHOICE, log 26] -/
def UartLine.samples (l : UartLine) (sir : Bool) (runs : List (Bool × Rat)) : List Bool :=
  let bit : Rat := (l.bitCycles : Nat)
  let edges := pulseEdges l.sirLow 0 false runs
  (List.range (16 * l.charBits)).map fun (i : Nat) =>
    let t := (i : Rat) * bit / 16
    if sir then !(edges.any fun e => decide (e ≤ t ∧ t < e + bit)) else levelsAt t runs

/-- The ticks of one bit on TXD: a level, or in SIR mode for a 0 a pulse of ticks 7 to 9 (R492). -/
def UartLine.bitTicks (l : UartLine) (sir v : Bool) : List Bool :=
  if sir then (List.range 16).map fun i => if !v && decide (7 ≤ i ∧ i ≤ 9) then !l.sirLow else l.sirLow
  else List.replicate 16 v

/-- A character on TXD (R482). -/
def UartLine.ticks (l : UartLine) (sir : Bool) (b : Byte) : List Bool :=
  let data := (List.range l.dbits).map fun i => b.getLsbD i
  let odd := (data.count true) % 2 == 1
  let par := if l.parity = 0 then [] else [if l.parity = 1 then odd else !odd]
  ([false] ++ data ++ par ++ List.replicate l.stops true).flatMap fun v => l.bitTicks sir v

/-! ### Receiving -/

/-- While UART0 transmits in SIR mode, and for one bit time after, RXD is ignored (R492). -/
def State.sirBlind (s : State) (n : Fin 2) (start : Time) : Bool :=
  let u := s.uart[n]
  n == 0 && ((u.shifter.isSome && u.txLine.sirOn) || match u.sirEnd with
    | some e => decide (125 * start.toNat < 125 * e.toNat + 64 * u.txLine.bitCycles)
    | none => false)

/-- A character of the levels given, tick by tick from its start edge (a low sample after a high one, so a break is over when the next one
comes, R488), under the settings in force then (R482, R484, R485, R488, R491). -/
def State.receiveLevels (s : State) (n : Fin 2) (start : Time) (l : UartLine) (lv : List Bool) : State :=
  let s := s.modUart n fun u => { u with rxLine := l, edgeAt := start, lowAt := none, was := u.was.filter fun p => decide (start.toNat < p.1.toNat) }
  if rxdBit lv 0 then s
  else
    let d := l.dbits
    let hasPar := l.parity != 0
    let data := (List.range d).foldl (fun v i => if rxdBit lv (1 + i) then v + 2 ^ i else v) 0
    let ones := ((List.range d).filter fun i => rxdBit lv (1 + i)).length
    let par := rxdBit lv (1 + d)
    let checked := 2 + d + hasPar.toNat
    if (List.range checked).all fun b => !rxdBit lv b then
      let s := (s.modUart n fun u => { u with lowAt := some start, rxd := false }).pushRx n 0 0x800
      (s.flag (F.UARTn_FLAGS_BREAK n)).raise Ev.UART_BREAK (Src.uart n) (BitVec.ofNat 32 n) 0
    else
      let noise := (List.range checked).any fun b => rxdNoisy lv b
      let want := if l.parity = 1 then decide (ones % 2 = 1) else decide (ones % 2 = 0)
      let pe := hasPar && par != want
      let fe := !rxdBit lv (checked - 1)
      let e := data + (if pe then 0x100 else 0) + (if fe then 0x200 else 0) + (if noise then 0x400 else 0)
      let s := s.modUart n fun u => { u with rxd := !fe }
      let s := if pe then s.flag (F.UARTn_FLAGS_PE n) else s
      let s := if fe then s.flag (F.UARTn_FLAGS_FE n) else s
      let s := if noise then s.flag (F.UARTn_FLAGS_NOISE n) else s
      let errs := (if pe then 1 else 0) + (if fe then 2 else 0) + (if noise then 4 else 0)
      s.pushRx n errs (BitVec.ofNat 12 e)

/-- The receiver takes a character: it is enabled and clocked, and neither stuck nor blind (R481, R489, R492, R495). -/
def State.receives (s : State) (n : Fin 2) (start : Time) : Bool :=
  s.on (F.UARTn_CTL_EN n) && s.on (F.UARTn_CTL_RXEN n) && !s.uart[n].stuck && !s.asleep && !s.sirBlind n start

/-- What the receiver samples of RXD from a start edge on, behind the glitch filter. -/
def State.heard (s : State) (n : Fin 2) (l : UartLine) (runs : List (Bool × Rat)) : List Bool :=
  let sir := n == 0 && l.sirOn
  l.samples sir (glitchFree (s.levelOk { l with sir := if sir then l.sir else 0 }) 0 (if sir then l.sirLow else true) runs)

/-- UART_CHAR_RECEIVED (R484, R485): the levels of RXD, each with its duration in WAKE cycles, from the start edge at `start`. [DESIGN CHOICE, log 26] -/
def execUartCharReceived (n : Fin 2) (start : Time) (levels : List (Bool × Rat)) (s : State) : Out :=
  if !s.receives n start then .next s
  else
    let l := s.uartAt n start
    let s' := if n == 0 && l.sirOn then s.drawn levels.length else s
    .next (s'.receiveLevels n start l (s.heard n l levels))

/-- UART_BREAK (R488): every checked bit of a character was 0. -/
def execUartBreak (n : Fin 2) (start : Time) (s : State) : Out :=
  if !s.receives n start then .next s
  else .next (s.receiveLevels n start (s.uartAt n start) (List.replicate 192 false))

/-- BREAK_LIMIT character times have passed since the start edge of a break that has not ended (R489). -/
def State.lowLong (s : State) (n : Fin 2) : Bool :=
  match s.uart[n].lowAt with
  | some t => s.wakePassed t (max 2 (s.fld (F.UARTn_FIFO_CTL_BREAK_LIMIT n)) * s.uart[n].rxLine.charCycles)
  | none => false

/-- RXD has been low for BREAK_LIMIT character times (R489). -/
def State.lineStuck (s : State) (n : Fin 2) : State :=
  if !s.on (F.UARTn_CTL_EN n) || s.uart[n].stuck || !s.lowLong n then s
  else
    let s := s.modUart n fun u => { u with stuck := true, disarmed := true, rxd := false }
    (s.flag (F.UARTn_FLAGS_LINE_STUCK n)).raise Ev.LINE_STUCK (Src.uart n) (BitVec.ofNat 32 n) 0

/-- LINE_STUCK (R489). -/
def execLineStuck (n : Fin 2) (s : State) : Out := .next (if s.asleep then s else s.lineStuck n)

/-- STUCK_CLEAR: RXD high for one character time (R489), which a UART that is off does not see (R481) and the AO domain counts itself (R497). -/
def execStuckClear (n : Fin 2) (s : State) : Out :=
  .next (if !s.on (F.UARTn_CTL_EN n) || s.asleep then s else s.modUart n fun u => { u with stuck := false, disarmed := false, rxd := true, lowAt := none })

/-- Four character times without a start edge and a character waiting (R487). -/
def State.rxTimeout (s : State) (n : Fin 2) : State :=
  let u := s.uart[n]
  if u.rx.isEmpty || u.idleHeld || u.stuck || !s.wakePassed u.edgeAt (4 * u.rxLine.charCycles) then s
  else (s.modUart n fun u => { u with idleHeld := true }).raise Ev.UART_RX (Src.uart n) (BitVec.ofNat 32 n) 0

/-- UART_RX_TIMEOUT (R487). -/
def execUartRxTimeout (n : Fin 2) (s : State) : Out := .next (s.rxTimeout n)

/-- A read of UARTn_DATA: the oldest character leaves the FIFO, or EMPTY (R498). -/
def State.readUart (s : State) (n : Fin 2) : Word × State :=
  match s.uart[n].rx with
  | [] => (0x80000000, s)
  | e :: rest => (e.setWidth 32, (s.modUart n fun u => { u with rx := rest }).releaseRx n)

/-- UART_RX_READ (R485). -/
def execUartRxRead (n : Fin 2) (s : State) : Out :=
  let (w, s) := s.readUart n
  .next { s with busOut := w }

/-- The transmitter takes a character when it may (R490, R493); the settings of now are in force for it (R491). -/
def State.startTx (s : State) (n : Fin 2) : State :=
  let u := s.uart[n]
  if u.shifter.isNone && s.on (F.UARTn_CTL_EN n) && s.on (F.UARTn_CTL_TXEN n) &&
      !(n = 1 && s.on (F.UARTn_CTL_AFC n) && u.ctsN) then
    match u.tx with
    | [] => s
    | b :: rest =>
      let l := s.uartNow n
      s.modUart n fun u =>
        { u with shifter := some b, tx := rest, txLine := l, emptied := false, txAt := s.time, wave := l.ticks (n == 0 && l.sirOn) b }
  else s

/-- UART_TX_EMPTY once the FIFO and the shifter are both empty (R490). -/
def State.txEmpty (s : State) (n : Fin 2) : State :=
  let u := s.uart[n]
  if u.tx.isEmpty && u.shifter.isNone && !u.emptied then
    (s.modUart n fun u => { u with emptied := true }).raise Ev.UART_TX_EMPTY (Src.uart n) (BitVec.ofNat 32 n) 0
  else s

/-- A write of UARTn_DATA (R490). -/
def State.writeUart (s : State) (n : Fin 2) (v : Word) : State :=
  if s.uart[n].tx.length < 64 then
    (s.modUart n fun u => { u with tx := u.tx ++ [v.setWidth 8], emptied := false }).startTx n
  else s.flag (F.UARTn_FLAGS_TX_OVR n)

/-- UART_TX_WRITE (R490). -/
def execUartTxWrite (n : Fin 2) (v : Word) (s : State) : Out := .next (s.writeUart n v)

/-- The character in the shifter has been sent: its character time is over. -/
def State.charOver (s : State) (n : Fin 2) : Bool :=
  s.uart[n].shifter.isSome && s.wakePassed s.uart[n].txAt s.uart[n].txLine.charCycles

/-- UART_CHAR_SENT: the shifter ends its character and the next may start (R490). -/
def execUartCharSent (n : Fin 2) (s : State) : Out :=
  if s.charOver n then
    .next (((s.modUart n fun u =>
      { u with shifter := none, wave := [], sirEnd := if u.txLine.sirOn then some s.time else u.sirEnd }).startTx n).txEmpty n)
  else .next s

/-- TXFLUSH empties the transmit FIFO; a character in the shifter completes (R498). -/
def State.flushTx (s : State) (n : Fin 2) : State :=
  if s.uart[n].tx.isEmpty then s else (s.modUart n fun u => { u with tx := [] }).txEmpty n

/-- UART_TXFLUSH (R498). -/
def execUartTxflush (n : Fin 2) (s : State) : Out := .next (s.flushTx n)

/-- RXFLUSH empties the receive FIFO (R498). -/
def State.flushRx (s : State) (n : Fin 2) : State := (s.modUart n fun u => { u with rx := [] }).releaseRx n

/-- UART_RXFLUSH (R498). -/
def execUartRxflush (n : Fin 2) (s : State) : Out := .next (s.flushRx n)

/-- A write of UARTn_FIFO_CTL, refused whole when RTS_LO is not below RTS_HI or RTS_HI exceeds 64 (R494). -/
def State.writeFifoCtl (s : State) (n : Fin 2) (v : Word) : State :=
  let hi := natBits v.toNat 22 16
  if hi ≤ natBits v.toNat 13 8 ∨ 64 < hi then s.flag (F.UARTn_FLAGS_CFG_ERR n)
  else (s.setReg (R.UARTn_FIFO_CTL n) (v &&& 0xFF7F3F7F)).releaseRx n

/-- FIFO_CTL_WRITE (R494). -/
def execFifoCtlWrite (n : Fin 2) (v : Word) (s : State) : Out := .next (s.writeFifoCtl n v)

/-- CTS_CHANGE: the synchronised CTS_N takes a level (R493), which nothing follows while the UART is off (R481). -/
def execCtsChange (level : Bool) (s : State) : Out :=
  .next ((s.modUart 1 fun u => { u with ctsN := level }).startTx 1)

/-- EN cleared: TXD falls idle and the character in the shifter is lost (R481). [DESIGN CHOICE, log 26] -/
def State.txOff (s : State) (n : Fin 2) : State :=
  if s.uart[n].shifter.isNone then s else (s.modUart n fun u => { u with shifter := none, wave := [] }).txEmpty n

/-- The level on TXD (R481, R492): the character's at the present tick, else idle, which is high, and in SIR mode the level of no pulse. [DEDUCED,
log 26] -/
def State.txd (s : State) (n : Fin 2) : Bool :=
  let u := s.uart[n]
  let idle := if n == 0 && (s.uartNow n).sirOn then (s.uartNow n).sirLow else true
  if u.shifter.isSome then u.wave.getD ((s.now - u.txAt.toNat) * 2000 / (64 * u.txLine.bitCycles)) idle else idle

/-- A write of UARTn_CTL (R491, R498): AFC is UART1's, SIR and SIR_POL UART0's; the flushes act; the outputs follow EN. -/
def State.writeUartCtl (s : State) (n : Fin 2) (v : Word) : State :=
  let s := (s.setReg (R.UARTn_CTL n) (v &&& (if n = 0 then 0x77 else 0x4F))).keepLine n (s.uartNow n)
  let s := if v.getLsbD 8 then s.flushRx n else s
  let s := if v.getLsbD 9 then s.flushTx n else s
  let s := if s.on (F.UARTn_CTL_EN n) then s else s.txOff n
  (s.updateRts n).startTx n

/-- The AO ticks RXD must stay high before a disarmed UART is armed again: a character time of the receiver's settings, rounded up (R491, R497). -/
def State.rearmTicks (s : State) (n : Fin 2) : Nat := (s.uart[n].rxLine.charCycles * 32768 + 47999999) / 48000000

/-- UART_REARM: in DORMANT a disarmed UART whose RXD has been high long enough is armed again (R497). [DESIGN CHOICE, log 26] -/
def execUartRearm (n : Fin 2) (s : State) : Out :=
  if s.asleep && decide (s.rearmTicks n ≤ (s.reg R.TMR_DORM).toNat) then
    .next (s.modUart n fun u => { u with disarmed := false, stuck := false, rxd := true, lowAt := none })
  else .next s

/-- UARTn_STAT as it reads but for RX_BUSY (R498); a UART that is off ignores its inputs (R481). [DESIGN CHOICE, log 26] -/
def State.uartStat (s : State) (n : Fin 2) : Word :=
  let u := s.uart[n]
  let en := s.on (F.UARTn_CTL_EN n)
  BitVec.ofNat 32 (u.rx.length + 2 ^ 8 * u.tx.length + (if u.shifter.isSome then 2 ^ 16 else 0)
    + (if n = 1 && !u.rtsN then 2 ^ 18 else 0) + (if n = 1 && en && !u.ctsN then 2 ^ 19 else 0)
    + (if u.stuck then 2 ^ 20 else 0) + (if en && u.rxd then 2 ^ 21 else 0))

/-- A read of UARTn_STAT: whether a character is being received while the receiver can take one is a free value. [DESIGN CHOICE, log 26] -/
def State.readStat (s : State) (n : Fin 2) : State × Word :=
  if s.receives n s.time then (s.drawn 1, s.uartStat n ||| ((Config.freeValue 1 s.freeCtr).setWidth 32 <<< 17)) else (s, s.uartStat n)

end Sys2Proof.Machine
end

