-- ==== Sys2Proof/Machine/Boot.lean ====
section
/-! DEFINITION. Resets (R530, R531, R442) and what start-up runs: repair and test (R395, R397), the staged transition (R419), keys (R307,
R308, R425), provisioning (R433), and images (R372, R420-R423, R520). -/

namespace Sys2Proof.Machine

/-! ### Resets -/

/-- Words being written when a reset comes are completed (R526), those still waiting are lost. [DEDUCED, log 45] -/
def State.mramSettle (s : State) : State :=
  let go := s.memu.mramPend.filter (·.started)
  go.foldl (fun (s : State) w => s.mramStore w) { s with memu := { s.memu with mramPend := [] } }

/-- What a reset leaves in MRAM and in OTP of the writes and burns under way (R415, R418, R526). [DEDUCED, log 49] -/
def State.settled (s : State) : State :=
  let s := s.mramSettle.cutBurn
  let s := match s.sec.cmd.bind (·.stage) with
    | some p => s.settleStage p
    | none => s
  match s.sec.cleared with
  | some p => if s.sec.staged.isNone && s.bytes pendingAt 3089 == pendingBytes (some p) then s.modSec fun c => { c with staged := some p } else s
  | none => s

/-- The registers that show straps, the grade (R570), OTP fields and spares (R446, R531). [DESIGN CHOICE, log 61] -/
def State.showFixed (s : State) : State :=
  let b := s.sys.straps
  let s := ((s.setFld F.SYS_STAT_CID b.cid.toNat).setOn F.SYS_STAT_HOSTSEL b.hostSel).setFld F.SYS_STAT_BOOT_SRC b.bootSrc.toNat
  let s := (s.setFld F.SEC_TAMP_CFG_WIPE s.otp.tamperPolicy.toNat).setFld F.SEC_TEMP_LIM_HI (match s.grade with | .i => 125 | .e => 140)
  (s.setFld F.MEM_MRAM_STAT_REMAP ((s.memu.spares.map (·.2)).foldl (· + ·) 0)).setFld F.SEC_BOOT_C s.otp.rollback

/-- Everything at its reset value but what lies outside the device, in OTP and in MRAM. -/
def State.cleared (s : State) (mem : List Host.Cell) (fills : List Fill) : State :=
  { State.reset with
    mem := mem, fills := fills, hostMem := s.hostMem, busOut := s.busOut, spiOut := s.spiOut, freeCtr := s.freeCtr, grade := s.grade
    otp := s.otp
    memu := { MemUnit.reset with spares := s.memu.spares }
    sec := { Sec.reset with staged := s.sec.staged, logCount := s.sec.logCount }
    hif := { Hif.reset with msi := s.hif.msi }
    pending := s.pending }

/-- Memory that keeps its contents without power, in the form it has once no range is zero-filled. -/
def State.nonvolatile (s : State) : List Host.Cell :=
  s.mem.filter fun p => decide (mramBase ≤ p.1 ∧ p.1 < mramBase + 0x1000000 ∧ p.2 ≠ memDefault [] p.1)

/-- Power-on reset with the straps given (R530, R531). [DESIGN CHOICE, log 8] -/
def State.powerOn (s : State) (straps : Straps) : State :=
  let s := s.settled
  let s' := s.cleared s.nonvolatile []
  { s' with sys := { s'.sys with straps := straps, railEn := true } }.showFixed

/-- POWER_ON_RESET. [DESIGN CHOICE, log 7] -/
def execPowerOnReset (straps : Straps) (s : State) : Out := .next (s.powerOn straps)

/-- Registers that a system reset keeps: those of R530, and those a lock freezes until power-on reset (R371, R440). [DEDUCED, log 45] -/
def State.keptRegs (s : State) : List Nat :=
  [R.SYS_MAINS_CTL, R.SYS_DORM_CTL, R.TMR_WAKE_LO, R.TMR_WAKE_HI, R.TMR_DORM]
    ++ (if s.on F.OCC_CFG_LOCK then [R.OCC_CFG] else []) ++ (if s.on F.SEC_TAMP_CFG_TLOCK then [R.SEC_TAMP_CFG] else [])

/-- Registers of the UARTs that configure them (R495). [DEDUCED, log 45] -/
def uartConfig : List Nat :=
  [0, 1].flatMap fun n => [R.UARTn_CTL n, R.UARTn_DIV n, R.UARTn_FMT n, R.UARTn_FIFO_CTL n]

/-- A system reset: every block but what R530 keeps and what only a power-on reset restores (R412, R495), with memory and registers as
given. [DEDUCED, log 45] -/
def State.resetKeeping (s : State) (mem : List Host.Cell) (fills : List Fill) (regs : List Nat) : State :=
  let s' := s.cleared mem fills
  let s' := { s' with
    time := s.time
    memu := { s'.memu with mramLast := s.memu.mramLast }
    hif := { s'.hif with pci := s.hif.pci }
    sys := { s'.sys with straps := s.sys.straps, railEn := s.sys.railEn, mramFrozen := s.sys.mramFrozen, onAo := s.sys.onAo
                         heldEdges := s.sys.heldEdges, wake := s.sys.wake, wakeHi := s.sys.wakeHi
                         returnAt := s.sys.returnAt }
    age := { s'.age with lastStart := s.age.lastStart, sleepDue := s.age.sleepDue, hold := s.age.hold }
    sec := { s'.sec with scopes := s.sec.scopes, opened := s.sec.opened, windowEnd := s.sec.windowEnd, sealOk := s.sec.sealOk
                         sealMiss := s.sec.sealMiss, sealHit := s.sec.sealHit, heldLog := s.sec.heldLog, away := s.sec.away
                         romClosed := s.sec.romClosed, sealLatched := s.sec.sealLatched } }
  let s' := { s' with uart := s.uart.map fun (u : Uart) => { Uart.reset with rxLine := u.rxLine, txLine := u.txLine, rxd := u.rxd, ctsN := u.ctsN } }
  let s' := (regs ++ uartConfig).foldl (fun (t : State) a => t.setReg a (s.reg a)) s'.showFixed
  [F.MEM_MRAM_STAT_CORR, F.SYS_STAT_MAINS_OK, F.SYS_STAT_REF_OK, F.SYS_STAT_LOCK, F.HIF_STAT_LINK_UP, F.HIF_STAT_SPEED, F.HIF_STAT_WIDTH].foldl
    (fun (t : State) f => t.setFld f (s.fld f)) s'

/-- The blocks as group B loses its power in DORMANT, and as a wake resets them (R530, R536): UART1's RTS_N is asserted while it may wake the
device (R497). [DEDUCED, log 45] -/
def State.sleepReset (s : State) : State :=
  let s := s.settled
  let s' := s.resetKeeping s.nonvolatile [] s.keptRegs
  let line : Vector Uart 2 := s.uart.map fun (u : Uart) =>
    { Uart.reset with rxLine := u.rxLine, txLine := u.txLine, rxd := u.rxd, ctsN := u.ctsN, disarmed := u.disarmed, rtsN := !s.on (F.UARTn_CTL_WAKE_EN 1) }
  { s' with uart := line }

/-- A system reset; made during start-up it restarts start-up. [DEDUCED, log 45] -/
def State.systemReset (s : State) : State :=
  let s := s.settled
  let prior := if s.sys.phase == .running then s.sys.mode else s.sys.prior
  let s' := s.resetKeeping s.mem s.fills s.keptRegs
  { s' with sys := { s'.sys with kind := .system, prior := prior, wake := 0 } }

/-- A write of SYS_RST_CTL. -/
def State.writeRstCtl (s : State) (v : Word) : State :=
  if natBits v.toNat 15 8 = 0xD1 ∧ v.getLsbD 0 = true ∧ s.sys.mode ≠ .lastgasp ∧ s.sys.mode ≠ .dormant then s.systemReset else s

/-- SYSTEM_RESET. -/
def execSystemReset (_agent : Agent) (v : Word) (s : State) : Out := .next (s.writeRstCtl v)

/-- TEST_MODE_ENTRY: a reset with a wipe; open only in MAKER and RETURNED (R442). No key is derived while the mode is in use. -/
def execTestModeEntry (s : State) : Out :=
  match s.otp.lc with
  | .maker | .returned =>
    let s := s.systemReset.zeroSecure
    .next (s.modSec fun c => { c with testMode := true })
  | .provisioned | .deployed | .ended => .next s

/-! ### Banks: the record applied, the wipe and the tests (R395-R398) -/

def repairLen : Nat := 1024
def State.repairGood (s : State) : Bool :=
  s.mramBytes (repairAddr 0 + repairLen) 4 == crcStored .crc32c (s.mramBytes (repairAddr 0) repairLen)

/-- Banks the record holds as failed. -/
def State.applyRepair (s : State) : State :=
  (List.range 64).foldl (fun (s : State) b =>
    if s.mramByte (repairAddr b + 8) = 0 then s
    else
      let s := s.flag F.MEM_FLAGS_BANK_FAIL
      if b < 32 then s.flagBit F.MEM_BANK_FAIL_LO_FAIL b else s.flagBit F.MEM_BANK_FAIL_HI_FAIL (b - 32)) s

/-- Banks tested at this start-up: by policy, all when the record is bad, and those whose repair is pending (R397). [DEDUCED, log 46] -/
def State.bootBanks (s : State) (bad : Bool) : List Nat :=
  let all := bad || (match s.otp.marchPolicy.toNat with
    | 0 => false | 1 => true | 2 => s.sys.kind == .powerOn | _ => Config.marchOther)
  (List.range 64).filter fun b => all || s.spareUsed (repairAddr b + 6)

/-- A pending repair of a column is applied before its bank is tested, if the spare column is free (R397); the answer tells. [DEDUCED, log 46] -/
def State.applyPending (s : State) (b : Nat) : State × Bool :=
  let a := repairAddr b
  let c := s.mramLe (a + 6) 2 % 1024
  if s.spareUsed (a + 6) && c != 0x3FF && !s.spareUsed (a + 4) then (s.setRepair (a + 4) (0x8000 + c), true) else (s, false)

/-- A pending entry is settled by the start-up that tests its bank. -/
def State.clearPending (s : State) (b : Nat) : State :=
  if s.spareUsed (repairAddr b + 6) then s.setRepair (repairAddr b + 6) 0 else s

/-- The collector's cycles until it holds no event: what time gives it between two groups of a start-up test (R379, R393). [DESIGN CHOICE, log 13] -/
def State.collected (s : State) : State :=
  (List.range (s.evc.held.length + s.evc.staged.length + 1)).foldl (fun (s : State) _ => s.collectorCycle true) s

/-- Run the start-up tests, group by group; the record is written word by word as any is (R401, R526). [DESIGN CHOICE, log 13] -/
def State.bootMarch (s : State) (faults : List BankFault) (errs : List (Word × ScrubOutcome)) : State :=
  let (s, lost) := s.mramReads errs (repairAddr 0) (repairLen + 4)
  let bad := !lost.isEmpty || !s.repairGood
  let s := if bad then (s.mramErase (.record .repair) (repairAddr 0) (repairAddr 0 + repairLen)).flag F.MEM_FLAGS_REPAIR_REC else s
  let s := s.applyRepair.zeroSecure
  let banks := s.bootBanks bad
  let (s, applied) := banks.foldl (fun (p : State × List Nat) b =>
    match p.1.applyPending b with
    | (s, true) => (s, b :: p.2)
    | (s, false) => (s, p.2)) (s, [])
  let s := allEight.foldl (fun (s : State) (g : Fin 8) =>
    let mine := banks.filter fun b => b / 8 == g.val
    if mine.isEmpty then s
    else
      let mask := mine.foldl (fun (m : BitVec 8) b => m ||| BitVec.twoPow 8 (b % 8)) 0
      (s.endMarch ⟨true, g, mask⟩ faults applied).collected) s
  let s := banks.foldl (fun (s : State) b => s.clearPending b) s
  if banks.isEmpty then s.showRepair else s.closeRepair

/-- A bank has failed. -/
def State.bankFailed (s : State) : Bool := s.reg R.MEM_BANK_FAIL_LO != 0 || s.reg R.MEM_BANK_FAIL_HI != 0

/-! ### The staged transition (R419) -/

/-- Execute the pending record, if one is staged, reads whole and fits; the answer is the record executed. Its MRAM words are written one by one, and
a record that a power cut leaves whole is staged again (R419). [DEDUCED, log 46] -/
def State.runPending (s : State) (errs : List (Word × ScrubOutcome)) : State × Option Pending :=
  match s.sec.staged with
  | none => (s, none)
  | some p =>
    let lc := s.otp.lc
    let (s, lost) := s.mramReads errs pendingAt 3089
    let s := s.modSec fun c => { c with staged := none, cleared := some p }
    let erase := fun (s : State) (lo hi : Nat) => s.mramErase (.record .security) (mramBase + lo) (mramBase + hi)
    let clear := fun (s : State) => erase s 0x310000 0x310C11
    if lost ≠ [] ∨ p.uid ≠ s.otp.uid ∨ lc ≠ p.source then (clear s, none)
    else
      let o := if p.target == .ended then { s.otp with lcEnded := true }
        else { s.otp with lcSteps := s.otp.lcSteps + (lcSteps p.source p.target).getD 0 }
      let s := { s with otp := o }
      let s : State := match p.target with
        | .returned | .ended => erase (erase s 0 0x301000) 0x400000 0x1000000
        | _ => erase s 0x300000 0x300800
      (clear s, some p)

/-- The events of a transition, whose wipe zeroises every slot (R322, R419). -/
def State.transitionEvents (s : State) : State :=
  let s := (s.flag F.KEY_FLAGS_ZEROISED).raise Ev.KEY_ZEROISED Src.key 0xFFFF 0
  (s.raise Ev.PARTITION_WIPED Src.memSecure 0 2).raise Ev.LC_CHANGE Src.secLife (BitVec.ofNat 32 (lcCode s.otp.lc)) 0

/-! ### Keys (R307, R308, R425) -/

def asciiKekLine : List Byte := [0x4B, 0x45, 0x4B, 0x2D, 0x4C, 0x49, 0x4E, 0x45]
def asciiKekMem : List Byte := [0x4B, 0x45, 0x4B, 0x2D, 0x4D, 0x45, 0x4D]
def asciiKekHost : List Byte := [0x4B, 0x45, 0x4B, 0x2D, 0x48, 0x4F, 0x53, 0x54]
def asciiKekSlot : List Byte := [0x4B, 0x45, 0x4B, 0x2D, 0x53, 0x4C, 0x4F, 0x54]
def asciiIdentEcc : List Byte := [0x49, 0x44, 0x45, 0x4E, 0x54, 0x2D, 0x45, 0x43, 0x43]
def asciiIdentLms : List Byte := [0x49, 0x44, 0x45, 0x4E, 0x54, 0x2D, 0x4C, 0x4D, 0x53]
def asciiKekExport : List Byte := [0x4B, 0x45, 0x4B, 0x2D, 0x45, 0x58, 0x50, 0x4F, 0x52, 0x54]

/-- LCCLASS of R308. -/
def lcClass : LifeCycle → Nat
  | .maker => 0
  | .provisioned | .deployed => 1
  | .returned => 2
  | .ended => 0

/-- The PUF's response of 32 bytes has been reconstructed. [DEDUCED, log 46] -/
def pufOk (puf : List Byte) : Bool := puf.length == 32

/-- Derive the keys of this life-cycle state from K_ROOT. [DEDUCED, log 46] -/
def State.deriveKeys (s : State) (puf : List Byte) : State :=
  let lc := s.otp.lc
  if lc == .ended || !pufOk puf then s
  else
    let root := xorBytes puf s.otp.kOtp
    let ctx := leBytes 1 (lcClass lc) ++ leBytes 1 s.otp.reprov
    let kek := fun label => kdf root label ctx 256
    let keks : Keks := ⟨kek asciiKekLine, kek asciiKekMem, kek asciiKekHost, kek asciiKekSlot⟩
    let idk := beBytes 48 (P384.scalar (kdf root asciiIdentEcc [0, 0] 448))
    let seed := kdf root asciiIdentLms (0 :: leBytes 1 s.otp.reprov) 384
    let lms := if lc == .provisioned || lc == .deployed then some (seed.take 32, seed.drop 32) else none
    let s := (s.modKeyStore fun k => { k with keks := some keks }).flag F.KEY_STAT_KEKS_READY
    s.modSec fun c => { c with idk := some idk, lms := lms }

/-! ### Provisioning (R427, R433) -/

/-- The new tree's state and node cache, nodes 1 to 1,023 in order. -/
def State.buildTree (s : State) : State :=
  match s.sec.lms with
  | none => s
  | some (seed, id) =>
    let s := s.mramRecord (.record .security) lmsState (leBytes 4 0 ++ id ++ [1])
    (List.range 10).foldl (fun (s : State) d =>
      (List.range (2 ^ d)).foldl (fun (s : State) j =>
        let r := 2 ^ d + j
        s.mramRecord (.record .security) (lmsCache + 32 * (r - 1)) (Lms.node id seed (15 - d) r)) s) s

/-- The secret of the ephemeral key and the operator's public key; where that is no point of the curve, a free value. -/
def State.sharedSecret (s : State) (e : Nat) (kms : List Byte) : List Byte :=
  match P384.times e (P384.decode kms) with
  | some (x, _) => beBytes 48 x
  | none => beBytes 48 (Config.freeValue 384 s.freeCtr).toNat

/-- Write the export record. -/
def State.exportKeks (s : State) (p : Pending) : State :=
  match s.key.keks, s.sec.idk with
  | some k, some d =>
    let (s, e) := s.drawK
    let z := s.sharedSecret e (slice p.token 48 97)
    let (s, n) := (s.drawn 1).drawK
    let kt := (sha384 (beBytes 4 1 ++ z ++ asciiKekExport ++ s.otp.uid)).take 32
    let head := [0x4B, 0x45, 0x58, 0x31, 1, 0] ++ leBytes 1 s.otp.reprov ++ [0] ++ s.otp.uid ++ zeros 8 ++ P384.pub e
      ++ P384.pub (beNat d) ++ s.hssPub s.lmsValid
    let c := gcmSeal kt (zeros 12) head (k.line ++ k.mem ++ k.host ++ k.slot) 16
    let body := head ++ c.1 ++ c.2 ++ zeros 2
    s.mramRecord (.record .security) pendingAt (body ++ P384.sign (beNat d) (sha384 body) n)
  | _, _ => s

/-! ### Images (R372, R420, R421) -/

/-- A segment descriptor. -/
structure Segment where
  core : Nat
  kind : Nat
  ofs  : Nat
  len  : Nat
  file : Nat
  rsv  : Bool
deriving DecidableEq, Repr

def parseSegment (b : List Byte) : Segment :=
  let f := fun o n => leNat (slice b o n)
  ⟨f 0 1, f 1 1, f 4 4, f 8 4, f 12 4, f 2 2 == 0⟩

def Segment.size (g : Segment) : Nat := if g.kind = 0 then 0x10000 else 0x8000
def Segment.valid (g : Segment) : Bool :=
  g.rsv && decide (g.core < 8 ∧ g.kind < 2 ∧ g.ofs % 4 = 0 ∧ g.len % 4 = 0 ∧ g.ofs + g.len ≤ g.size)
/-- The TCM a segment goes to, by its global address. -/
def Segment.tcm (g : Segment) : Nat := tcmBase + 0x20000 * g.core + 0x10000 * g.kind

def imageSegments (img : List Byte) : List Segment :=
  (List.range (img.getD 6 0).toNat).map fun i => parseSegment (slice img (40 + 16 * i) 16)

/-- IMG_LEN. -/
def imageLen (img : List Byte) : Nat :=
  (listMax ((imageSegments img).map fun g => g.file + g.len) + 63) / 64 * 64

/-- The signature block. -/
def imageBlock (img : List Byte) : List Byte := slice img (imageLen img) 2992

def imageSvn (img : List Byte) : Nat := leNat (slice (imageBlock img) 12 4)
def imageKey (img : List Byte) : Nat := ((imageBlock img).getD 6 0).toNat
def imageTest (img : List Byte) : Bool := ((imageBlock img).getD 7 0).getLsbD 0
def imageMessage (img : List Byte) : List Byte := img.take (imageLen img) ++ (imageBlock img).take 224

/-- MAGIC, FORMAT, IMG_LEN and segment bounds are valid. -/
def imageFormed (img : List Byte) : Bool :=
  let b := imageBlock img
  let n := (img.getD 6 0).toNat
  slice img 0 4 == [0x4F, 0x52, 0x52, 0x59] && slice img 4 2 == [1, 0] && decide (1 ≤ n ∧ n ≤ 32)
    && decide (40 + 16 * n ≤ img.length) && (imageSegments img).all Segment.valid && b.length == 2992
    && slice b 0 4 == [0x53, 0x47, 0x4E, 0x31] && slice b 4 2 == [1, 0] && leNat (slice b 8 4) == imageLen img

/-- The failure code of R421 for an image, 0 where it may start. [DEDUCED, log 46] -/
def State.imageCode (s : State) (img : List Byte) : Nat :=
  let b := imageBlock img
  let lc := s.otp.lc
  let k := imageKey img
  if s.bankFailed then 1
  else if !s.sec.pufOk then 2
  else if lc == .ended then 3
  else if !imageFormed img then 4
  else if h : 4 ≤ k ∨ s.otp.revoke.getLsbD k = true then 5
  else if keysHash (slice b 64 97) (slice b 164 60) ≠ s.otp.imgKeyHash[k]'(by omega) then 5
  else if (imageTest img && lc != .maker && lc != .returned) || (slice b 16 16 != zeros 16 && slice b 16 16 != s.otp.uid) then 6
  else if imageSvn img < s.otp.rollback ∨ 64 < imageSvn img then 7
  else if !P384.verify (slice b 64 97) (sha384 (imageMessage img)) (slice b 224 96) then 8
  else if !Lms.verify (slice b 164 60) (imageMessage img) (slice b 320 2672) then 9
  else 0

/-- Copy an image's segments to their TCMs. -/
def State.loadSegments (s : State) (img : List Byte) : State :=
  (imageSegments img).foldl (fun (s : State) g => s.setBytes (g.tcm + g.ofs) (slice img g.file g.len)) s

/-- The image verified is started on OC0 (R422 steps 6 and 7). -/
def State.startImage (s : State) (img : List Byte) (source : Nat) : State :=
  let s := s.setDigest (R.SEC_M0_i 0) (sha384 (imageMessage img))
  let s := (((s.setFld F.SEC_BOOT_SVN (imageSvn img)).setFld F.SEC_BOOT_KEYIDX (imageKey img)).setFld F.SEC_BOOT_SOURCE source).setFld
    F.SEC_BOOT_CODE 0
  let s := { s.modSec fun c => { c with romClosed := true, testImage := imageTest img } with sys := { s.sys with booted := true } }
  s.modCore 0 fun _ => { Core.boot with pc := BitVec.ofNat 32 (leNat (slice img 8 4)) }

/-- Try one source's image: its segments are streamed into the TCMs once its block has passed; the answer is whether it starts, with the
TCMs written. [DEDUCED, log 46] -/
def State.tryImage (s : State) (img : List Byte) (source : Nat) : State × Bool × List Segment :=
  let code := s.imageCode img
  let s := if code = 0 ∨ 8 ≤ code then s.loadSegments img else s
  if code = 0 then (s.startImage img source, true, [])
  else (s.setFld F.SEC_BOOT_CODE code, false, if 8 ≤ code then imageSegments img else [])

/-- The TCMs that segments go to, by address and size. -/
def segmentTcms (gs : List Segment) : List (Nat × Nat) := gs.map fun g => (g.tcm, g.size)

/-- No source remains: the TCMs written are cleared and OC0 is halted in STOPPED. -/
def State.bootFailed (s : State) (wrote : List (Nat × Nat)) : State :=
  let s := wrote.foldl (fun (s : State) g => s.clearRange g.1 (g.1 + g.2) s.fills) s
  s.modCore 0 fun c => { c with run := .stopped }

/-- The host source: READY, and a wait without limit (R520); the TCMs written before it are kept in mind (R422). -/
def State.awaitHost (s : State) (wrote : List (Nat × Nat)) : State :=
  let s := { s with hif := { s.hif with bootWait := true, bootTcms := wrote } }
  (s.flag F.HIF_BOOT_READY).irqOccur 10

/-- A command to the flash. -/
def State.qspi (s : State) (bs : List Byte) : State := { s with sys := { s.sys with qspi := s.sys.qspi ++ [bs] } }

/-- Before its first QSPI read the ROM sets output group 1 to DRV = 2 and FAST = 1 (R551), and resets the flash (R553). -/
def State.qspiPads (s : State) : State := ((s.setReg R.SYS_PAD_CTL (putBits (s.reg R.SYS_PAD_CTL) 6 4 6)).qspi [0x66]).qspi [0x99]

/-- The read of an image from its offset in the flash: 0xEB, a 24-bit address and a mode byte of 0x00 (R422, R553). [DEDUCED, log 46] -/
def State.qspiRead (s : State) (o : Nat) : State := s.qspi ([0xEB] ++ beBytes 3 o ++ [0])

/-- The sources that BOOT_SRC names, in order. [DEDUCED, log 46] -/
def State.bootFrom (s : State) (a b : List Byte) : State :=
  if s.sys.straps.bootSrc = 1 then s.awaitHost []
  else
    let s := s.qspiPads
    match (s.qspiRead 0).tryImage a 0 with
    | (s, true, _) => s
    | (s, false, w) =>
      match (s.qspiRead 0x800000).tryImage b 1 with
      | (s, true, _) => s
      | (s, false, v) => if s.sys.straps.bootSrc = 2 then s.awaitHost (segmentTcms (w ++ v)) else s.bootFailed (segmentTcms (w ++ v))

/-- The host's image: GO with HIF_BOOT_LEN bytes at 0x1014_0000 (R520). -/
def State.hostImage (s : State) : State :=
  let n := s.fld F.HIF_BOOT_LEN_LEN
  let before := s.hif.bootTcms
  let s := { s with hif := { s.hif with bootWait := false, bootTcms := [] } }.setFld F.HIF_BOOT_READY 0
  let img := (List.range n).map fun i => s.sramByte (0x10140000 + i)
  let s := s.modCore 0 fun _ => Core.boot
  let fits := decide (n ≤ 1048576)
  let (s, ok, w) := if fits then s.tryImage img 2 else (s.setFld F.SEC_BOOT_CODE 4, false, [])
  let s := if ok then s
    else ((List.range 16).foldl (fun (s : State) b => s.zeroBank (20 + b)) s).bootFailed (before ++ segmentTcms w)
  (s.flag F.HIF_BOOT_DONE).irqOccur 10

/-- A write of HIF_BOOT: GO counts only while READY. -/
def State.writeBoot (s : State) (v : Word) : State :=
  if v.getLsbD 8 && s.hif.bootWait then s.hostImage else s

/-- HOST_BOOT_GO. -/
def execHostBootGo (v : Word) (s : State) : Out := .next (s.writeBoot v)

/-! ### START_UP (R532, R422) -/

/-- A seal opened in DORMANT is logged with its own time (R441). [DEDUCED, log 50] -/
def State.logSeal (s : State) : State :=
  match s.sec.sealLatched with
  | none => s
  | some t =>
    let s := (s.modSec fun c => { c with sealLatched := none }).logTamper ⟨t.setWidth 48, 1, 0, BitVec.ofNat 8 (modeCode .dormant)⟩
    ((s.flagBit F.SEC_TAMP_FLAGS_FIRED 0).flag F.SEC_FLAGS_TAMPER).raise Ev.TAMPER Src.secTamper 0 1

/-- A wake waits RAIL x 100 us for group B before start-up begins (R537). -/
def State.railSettled (s : State) : Bool := decide (s.sys.railAt.toNat + usDticks (100 * s.fld F.SYS_DORM_CTL_RAIL) ≤ s.now)

/-- START_UP: the start of the sampling chains (R146), weak OTP bits completed (R415), and the boot ROM's flow, up to the start of an image or the
wait for the host. In test mode no key is derived and nothing is booted. [DEDUCED, log 46] -/
def execStartUp (inp : BootInputs) (s : State) : Out :=
  match s.sys.phase with
  | .starting | .running => .next s
  | .reset | .railSettle =>
    if s.sys.phase == .railSettle && !s.railSettled then .next s else
    let back := if inp.mainsOk then some (s.sys.returnAt.getD s.time) else none
    let s := { s with sys := { s.sys with phase := .starting, mode := .survey, returnAt := back } }.setOn F.SYS_STAT_MAINS_OK inp.mainsOk
    let s := (s.setOn F.SYS_STAT_REF_OK (!s.sys.onAo)).setFld F.SYS_STAT_LOCK (s.fld F.SYS_STAT_LOCK ||| 3)
    let s := allPorts.foldl (fun (s : State) (n : Port) => s.syncReset n) s
    let s := [0, 1].foldl (fun (s : State) (n : Fin 2) => s.updateRts n) s
    let s := { s with otp := { s.otp with weak := [] } }.bootMarch inp.faults inp.mram
    if s.sec.testMode then .next s
    else
      let s := s.logSeal.modSec fun c => { c with pufOk := pufOk inp.puf }
      let (s, done) := s.runPending inp.mram
      let s := (s.deriveKeys inp.puf).reseedRng
      let s : State := match done with
        | none => s
        | some p =>
          let s := if p.target == .provisioned then s.buildTree.exportKeks p else s
          s.transitionEvents
      .next (s.bootFrom inp.imageA inp.imageB)

end Sys2Proof.Machine
end

