-- ==== Sys2Proof/Machine/Hif.lean ====
section
/-! DEFINITION. The host interface's own rows: ring counts, enabling and disabling (R506, R523), DMA errors (R517), interrupt moderation
(R519), the PCIe link (R500) and a host reset (R530). -/

namespace Sys2Proof.Machine

/-! ### Rings -/

/-- A ring has settled all it took: no reservation unsettled, or no fetched entry incomplete (R523). -/
def State.ringIdle (s : State) (r : Fin 8) : Bool :=
  (s.hif.rings[r].resv.all fun v => v.status != .prov) && s.hif.rings[r].subs.all (·.done)

/-- The distance from one 16-bit count up to another. -/
def countsTo (a b : Nat) : Nat := (b + 65536 - a) % 65536

/-- A write of TAIL (R506): CONS may move up to HEAD, PROD up to DONE + 2^LOG2; any other write is ignored. [DEDUCED, log 56] -/
def State.writeTail (s : State) (r : Fin 8) (v : Word) : State :=
  let new := v.toNat % 65536
  let old := s.fld (F.HIF_RINGr_TAIL_COUNT r)
  let head := s.fld (F.HIF_RINGr_HEAD_COUNT r)
  let top := if r.val < 4 then head else head + s.ringLen r
  if countsTo old new ≤ countsTo old top then s.setFld (F.HIF_RINGr_TAIL_COUNT r) new else s

/-- RING_TAIL_WRITE. -/
def execRingTailWrite (r : Fin 8) (v : Word) (s : State) : Out := .next (s.writeTail r v)

/-- The host channel of a ring has its key: HOST_GCM with ENC on rings 0-3 and DEC on rings 4-7 (R516). -/
def State.ringKey (s : State) (r : Fin 8) : Bool :=
  match s.namedKey (s.fld (F.HIF_RINGr_CFG_KEYSLOT r)) with
  | some k => k.policy == 4 && (if r.val < 4 then k.enc else k.dec)
  | none => false

/-- A write of HIF_RINGr_CFG: the other fields are taken only while EN = 0; setting EN zeroes the counts and ERR, or is refused. [DEDUCED, log 43] -/
def State.writeRingCfg (s : State) (r : Fin 8) (v : Word) : State :=
  if s.on (F.HIF_RINGr_CFG_EN r) then s.setOn (F.HIF_RINGr_CFG_EN r) (v.getLsbD 0)
  else
    let s := s.setReg (R.HIF_RINGr_CFG r) (v &&& 0x00FFFF02)
    if !v.getLsbD 0 then s
    else if !s.ringIdle r || (s.ringSecure r && !s.ringKey r) then s.hifFlag F.HIF_FLAGS_CFG_ERR
    else
      let s := s.modRing r fun _ => ⟨[], [], 0⟩
      let s := ((s.setReg (R.HIF_RINGr_HEAD r) 0).setReg (R.HIF_RINGr_TAIL r) 0).setReg (R.HIF_RINGr_AUX r) 0
      (s.setOn (F.HIF_RINGr_STAT_ERR r) false).flag (F.HIF_RINGr_CFG_EN r)

/-- RING_ENABLE: the write of CFG that sets EN. -/
def execRingEnable (r : Fin 8) (v : Word) (s : State) : Out := .next (s.writeRingCfg r (v ||| 1))

/-- Clearing EN: reservations and fetches stop, entries already taken proceed. -/
def State.ringOff (s : State) (r : Fin 8) : State := s.setOn (F.HIF_RINGr_CFG_EN r) false

/-- RING_DISABLE: the write of CFG that clears EN. -/
def execRingDisable (r : Fin 8) (s : State) : Out := .next (s.ringOff r)

/-- HOST_RESET: every ring's EN is cleared and the configuration space reset (R530); in SPI mode the PCIe balls are inactive (R499). [DEDUCED, log 56] -/
def execHostReset (s : State) : Out :=
  .next (if s.sys.straps.hostSel then s
    else allEight.foldl (fun (s : State) (r : Fin 8) => s.ringOff r) { s with hif := { s.hif with pci := ⟨false, false⟩ } })

/-! ### DMA errors -/

/-- The oldest entry of a ring whose payload is still to be read: a stored descriptor that is not booked (R512). -/
def State.unread (s : State) (r : Fin 8) : Option Deferred := s.mac.store.find? fun d => d.ring == r && !d.booked

/-- DMA_ERROR of an access not made by another command: the collector's next record in the host event ring (R382), a payload read at a booking, or a ring's descriptor, completion,
payload or write-back access. [DEDUCED, log 43] -/
def execDmaError (target : DmaTarget) (s : State) : Out :=
  match target with
  | .eventRing =>
    if s.on F.EVC_CTL_HR_EN && !s.evc.hostErr then .next (s.collectorCycle false) else .next s
  | .payload r =>
    match s.unread r with
    | some d => .next ((s.hifFlag F.HIF_FLAGS_DMA_ERR).finishDeferred d.no .bufErr 0 0)
    | none => .next s
  | .ring r => .next (if s.ringOn r || !s.ringIdle r then s.ringFail r else s)

/-! ### Interrupts and the link -/

/-- IRQ_MODERATION_TIMER: USEC after the first occurrence since a cause last fired, it fires. -/
def execIrqModerationTimer (c : Fin 11) (s : State) : Out :=
  let us := s.fld (F.HIF_IRQc_USEC c)
  match s.hif.irq[c].first with
  | some t => .next (if us != 0 && decide (t.toNat + usDticks us ≤ s.now) then s.irqFire c else s)
  | none => .next s

/-- The Device ID and the class code that the configuration space shows (R500). -/
def pciDeviceId : BitVec 16 := 0x6406
def pciClassCode : BitVec 24 := 0x028000

/-- The configuration space as the host has it now: vectors pending that may be sent and are not masked are sent (R501). [PRESUMED, log 22] -/
def State.setPci (s : State) (p : Pci) : State :=
  let s : State := { s with hif := { s.hif with pci := p } }
  if !s.mayRequest then s
  else (List.range 32).foldl (fun (s : State) v =>
    if (s.reg R.MSIX_PBA).getLsbD v && !(s.reg (R.MSIX_CTL v)).getLsbD 0 then s.sendVector v else s) s

/-- LINK_UP: the PCIe link enters L0 with a speed and width, or leaves it; Bus Master Enable and the power state come with it. [DEDUCED, log 56] -/
def execLinkUp (up : Bool) (speed width : BitVec 2) (pci : Pci) (s : State) : Out :=
  if s.sys.straps.hostSel then .next s
  else
    let s := (s.setPci pci).setOn F.HIF_STAT_LINK_UP up
    .next ((s.setFld F.HIF_STAT_SPEED (if up then speed.toNat else 0)).setFld F.HIF_STAT_WIDTH (if up then width.toNat else 0))

end Sys2Proof.Machine
end

