-- ==== Sys2Proof/Machine/Power.lean ====
section
/-! DEFINITION. The end of start-up (R37, R532), mode requests and transitions (R38, R39, R42, R43, R572), the outage procedure (R40, R41,
R534, R535), DORMANT and wakes (R536, R537), supplies (R525, R526, R544) and clocks (R529). -/

namespace Sys2Proof.Machine

def State.modSys (s : State) (f : Sys → Sys) : State := { s with sys := f s.sys }

/-! ### Mains loss (R40, R41, R534) -/

/-- The beacon key of R303 in a named slot, bound. [DEDUCED, log 35] -/
def State.beaconBound (s : State) (slot : Nat) : Option Bound :=
  match s.namedKey slot with
  | some k => if k.policy = 2 ∧ k.enc = true then s.bindKey slot else none
  | none => none

/-- The seven plaintext bytes of R98. -/
def Outage.body (g : Outage) : List Byte := [if g.zcCause then 1 else 0] ++ leBytes 6 g.tLoss.toNat

/-- The first symbol boundary at least 2 sym after `t` on the superframe's grid. -/
def State.lgTime (s : State) (t : Nat) : Nat :=
  let o := s.mac.cur.start
  let e := t + 2 * symDticks
  if e ≤ o then o - (o - e) / symDticks * symDticks else o + (e - o + symDticks - 1) / symDticks * symDticks

/-- The LASTGASP frame, its key bound and its tag still to come. [DEDUCED, log 48] -/
def State.lastgaspOp (s : State) (g : Outage) (key : Bound) : TxOp :=
  let p := s.lgPort
  let tp := s.txPort p
  let lots := lotsOf (s.mac.cur.lots.getD p 0)
  let mc := if s.fld F.SYS_MAINS_CTL_LG_MC = 7 then 0 else s.fld F.SYS_MAINS_CTL_LG_MC
  { TxOp.blank with
    id := s.mac.nextId, inQueue := false, kind := .lastgasp, encr := .running, time := s.lgTime g.entry.toNat, port := tp
    pair := s.yokedPort p, lots := lots, mc := mc
    hdr := parseLong (longHeader 4 mc false false (lotBits lots) 15 broadcastNode 0 (s.domain % 256))
    addr := netAddr s.domain broadcastNode, bound := some key, plain := g.body, tones := dataTones (s.plan tp) lots, plan := s.plan tp }

/-- The frame is made ready, or its absence recorded (R534). [DEDUCED, log 48] -/
def State.prepareLastgasp (s : State) (g : Outage) : State :=
  if !s.on F.SYS_MAINS_CTL_LG_EN then s.modSys fun y => { y with outage := some { g with result := 0xFF } }
  else
    let s := s.modSys fun y => { y with outage := some g }
    match s.beaconBound (natBits s.mac.cur.bcn.toNat 15 8) with
    | some k =>
      let o := s.lastgaspOp g k
      s.modMac fun m => { m with ops := m.ops ++ [o], nextId := m.nextId + 1 }
    | none => s.reportDrop { TxOp.blank with kind := .lastgasp } Drop.keyPolicy

/-- A run in progress is abandoned, and no more of its table is written (R473). [DEDUCED, log 53] -/
def State.abandonAge (s : State) : State :=
  let s := { s.setFld F.AGE_STAT_BUSY 0 with age := { s.age with running := none, closing := none } }
  { s with memu := { s.memu with mramPend := s.memu.mramPend.filter fun w => !(w.writer == MramWriter.record .margin) } }.mramKick

/-- Every line port but the one of the outage report, and its partner while yoked, is powered down. -/
def State.portsOff (s : State) : State :=
  let keep := s.lgPort
  let s := allPorts.foldl (fun (s : State) (n : Port) =>
    if n = keep ∨ (s.yokedPort n = true ∧ n.val / 2 = keep.val / 2) then s else s.setFld (F.LPn_CTL_EN n) 0) s
  s.refreshHeld

/-- Entry to LASTGASP: steps 1 to 3 of R41, and the frame of step 4. [DEDUCED, log 48] -/
def State.enterLastgasp (s : State) (zc : Bool) : State :=
  let old := s.sys.mode
  let filt := if zc then 0 else usDticks (10 * s.fld F.SYS_MAINS_CTL_FILT)
  let tLoss := (s.time - BitVec.ofNat 64 filt).setWidth 48
  let s := s.forceMode .lastgasp
  let s := s.abandonAge
  let (s, n) := s.squashUndecided Sq.LASTGASP
  let s := (s.cutAtSymbol (fun _ => true) Drop.lastgasp).dropQueue Drop.lastgasp
  let s := s.ddrOff
  let g : Outage := ⟨tLoss, zc, old, s.mac.cur.bsn, BitVec.ofNat 64 s.mac.cur.start, n, 0, s.time, false⟩
  s.portsOff.txpDown.prepareLastgasp g

/-- A mains loss in a running device. [DEDUCED, log 48] -/
def State.mainsLoss (s : State) (zc : Bool) : State :=
  let s := (s.flag F.SYS_FLAGS_MAINS).raise Ev.MAINS_LOST Src.sysMains 0 0
  if s.sys.mode == .lastgasp then s else s.enterLastgasp zc

/-- Every enabled zero-crossing input has lost its lock, and there is one (R40). -/
def State.zcAllLost (s : State) : Bool :=
  let ns := allPorts.filter fun (n : Port) => s.on (F.LPn_ZC_CTL_EN n)
  !ns.isEmpty && ns.all fun n => !s.lp[n].zcLock

/-- An edge during start-up is held (R532, R534). -/
def State.holdEdge (s : State) (e : Option Bool) : State := s.modSys fun y => { y with heldEdges := y.heldEdges ++ [e] }

/-- A mains edge acts: a loss with its cause, or a return. -/
def State.mainsEdge (s : State) : Option Bool → State
  | some zc => s.mainsLoss zc
  | none => s.raise Ev.MAINS_RETURN Src.sysMains 0 0

/-- MAINS_LOSS: the filtered assertion edge of MAINS_OK_N, or ZC_LOST on every input with ZC_LASTGASP = 1. An edge during start-up is
held; in DORMANT it only restarts the timing of a return (R534). -/
def execMainsLoss (zc : Bool) (s : State) : Out :=
  if zc && !(s.on F.SYS_MAINS_CTL_ZC_LASTGASP && s.zcAllLost) then .next s
  else
    let s := if zc then s else s.modSys fun y => { y with returnAt := none }
    if s.sys.mode == .dormant then .next s
    else
    let s := if zc then s else s.setFld F.SYS_STAT_MAINS_OK 0
    match s.sys.phase with
    | .running => .next (s.mainsLoss zc)
    | .starting => .next (s.holdEdge (some zc))
    | .reset => .next (if s.sys.kind == .powerOn then s else s.holdEdge (some zc))
    | .railSettle => .next s

/-- MAINS_RETURN: in DORMANT the edge only starts the timing of wake source 4 (R534, R537). -/
def execMainsReturn (s : State) : Out :=
  let s := s.modSys fun y => { y with returnAt := some (y.returnAt.getD s.time) }
  if s.sys.mode == .dormant then .next s
  else
    let s := s.setFld F.SYS_STAT_MAINS_OK 1
    match s.sys.phase with
    | .running => .next (s.raise Ev.MAINS_RETURN Src.sysMains 0 0)
    | .starting => .next (s.holdEdge none)
    | .reset => .next (if s.sys.kind == .powerOn then s else s.holdEdge none)
    | .railSettle => .next s

/-- The LASTGASP frame, which holds its stream, gets its tag (R98, R101) and launches. -/
def State.playLastgasp (s : State) (o : TxOp) : State :=
  match o.bound with
  | none => s.dropOp o Drop.keyPolicy
  | some b =>
    let tag := (cmac b.key (o.hdr.bytes.take 11 ++ o.plain)).take 8
    let outs := if o.txen.isEmpty then (s.outPorts o.port).filter fun n => s.fldBit F.TXP_CTL_PORT_EN n else o.txen
    let o' := { o with encr := .done, payload := o.plain ++ tag, txen := outs }
    (((s.modOp o.id fun _ => o').crcTxFrame o.id o'.frameBytes).txenAll outs).launch o'

/-- LASTGASP_FRAME_LAUNCH: one that has not yet taken its stream takes it now, or is dropped where its path does not allow it (R210). [DEDUCED, log 48] -/
def execLastgaspFrameLaunch (s : State) : Out :=
  match s.mac.ops.find? (fun o => o.kind == .lastgasp), s.sys.mode with
  | some o, .lastgasp =>
    match o.stage with
    | .onAir _ => .next s
    | .taken _ => .next (s.playLastgasp o)
    | .queued =>
      let o := s.refreshed o
      match s.streamRefusal o false with
      | some r => .next (s.failStream o r)
      | none => .next ((s.putStream (s.ownStream o)).playLastgasp (s.ownStream o))
  | _, _ => .next s

/-- The outage record (R535). -/
def Outage.record (g : Outage) : List Byte :=
  leBytes 6 g.tLoss.toNat ++ [if g.zcCause then 1 else 0, BitVec.ofNat 8 (modeCode g.oldMode)] ++ leBytes 2 g.bsn.toNat
    ++ leBytes 8 g.sfStart.toNat ++ leBytes 2 g.squashed ++ [g.result] ++ zeros 7

/-- [DEDUCED, log 48] -/
def outageAt : Nat := 0x18320000

/-- LASTGASP_FLUSH: once the frame has been sent, dropped or is not due. -/
def execLastgaspFlush (s : State) : Out :=
  match s.sys.outage, s.sys.mode with
  | some g, .lastgasp =>
    if g.flushed || s.mac.ops.any (fun o => o.kind == .lastgasp) then .next s
    else
      let s := ((s.mramRecord (.record .outage) outageAt (zeros 4)).mramRecord (.record .outage) (outageAt + 4) g.record).mramRecord (.record .outage) outageAt [0x4F, 0x55, 0x54, 0x31]
      .next (s.modSys fun y => { y with outage := some { g with flushed := true } })
  | _, _ => .next s

/-! ### DORMANT and wakes (R536, R537, R572) -/

/-- The device may enter DORMANT: the flush has ended, or the requested transition's commits have. -/
def State.mayDorm (s : State) : Bool :=
  !s.decidedRx && !(s.memu.mramPend.any fun w => w.writer == .record .outage) && (match s.sys.mode with
    | .lastgasp => (s.sys.outage.map (·.flushed)).getD false
    | .survey => s.sys.dormReq
    | _ => false)

/-- DORMANT_ENTRY: every domain but AO loses its power. -/
def execDormantEntry (s : State) : Out :=
  if s.sys.phase != .running || !s.mayDorm then .next s
  else
    let s := s.endWindow.setMode .dormant |>.sleepAge
    let s := (s.modSec fun c => { c with scopes := 0, away := [] }).sleepReset
    let s := s.modSys fun y => { y with phase := .running, mode := .dormant, railEn := false, onAo := false }
    let s := { s with cores := s.cores.map fun (c : Core) => { c with run := .stopped } }
    let s := (s.setFld F.SYS_STAT_REF_OK 0).setFld F.SYS_STAT_LOCK 0
    .next ((s.setReg R.TMR_DORM 0).setFld F.SYS_MODE_STAT_MODE (modeCode .dormant))

/-- The wake sources enabled, bit (code - 1), the AO timer and the mains once their time has come (R537, R489). -/
def State.wakeEnabled (s : State) : BitVec 6 :=
  let uart := fun (n : Fin 2) => s.on (F.UARTn_CTL_WAKE_EN n) && !s.uart[n].disarmed
  let timer := decide (s.pair R.TMR_WAKE_LO R.TMR_WAKE_HI ≤ s.now)
  let bit := fun (b : Bool) n => if b then 2 ^ n else 0
  let d := s.fld F.SYS_DORM_CTL_WAKE_EN
  let mains := match s.sys.returnAt with
    | some t => decide (t.toNat + usDticks (1000 * max 1 (s.fld F.SYS_MAINS_CTL_RET_MS)) ≤ s.now)
    | none => false
  BitVec.ofNat 6 (bit (uart 0) 0 + bit (uart 1) 1 + bit (d.testBit 0 && timer) 2 + bit (d.testBit 1 && mains) 3 + (d / 4 % 4) * 16)

/-- WAKE_SOURCE: the sources that occurred in one AO tick; those enabled raise RAIL_EN, and the wake resets what had no power (R530, R537). [DEDUCED, log 48] -/
def execWakeSource (sources : BitVec 6) (s : State) : Out :=
  let got := sources &&& s.wakeEnabled
  if !s.asleep || got == 0 then .next s
  else
    .next (s.sleepReset.modSys fun y =>
      { y with phase := .railSettle, mode := .dormant, railEn := true, kind := .wake, prior := .dormant, wake := got, railAt := s.time })

/-! ### The end of start-up (R37, R532) -/

def startCode : StartKind → Nat
  | .powerOn => 0
  | .system => 1
  | .wake => 2

/-- The lowest-coded source of a set. -/
def lowestWake (w : BitVec 6) : Nat := (((List.range 6).find? fun i => w.getLsbD i).getD 0) + 1

/-- START_UP_END: the first-stage image starts. [DEDUCED, log 46] -/
def execStartUpEnd (s : State) : Out :=
  if s.sys.phase != .starting || !s.sys.booted then .next s
  else
    let y := s.sys
    let s := s.modSys fun y => { y with phase := .running, mode := .survey, heldEdges := [] }
    let s := (s.setFld F.SYS_START_KIND (startCode y.kind)).setFld F.SYS_START_WAKE y.wake.toNat
    let s := (s.setOn F.SYS_START_MAINS_HELD (y.heldEdges.any (·.isSome))).setFld F.SYS_MODE_STAT_MODE (modeCode .survey)
    let s := if y.kind == .powerOn then s
      else s.raise Ev.MODE_CHANGE Src.sysMode (BitVec.ofNat 32 (modeCode .survey + 16 * modeCode y.prior)) 0
    let s := if y.kind == .wake then s.raise Ev.WAKE Src.sysPower 0 (lowestWake y.wake) else s
    .next (y.heldEdges.foldl State.mainsEdge s.wakeAge)

/-! ### Requests (R38, R39) -/

/-- HEAD may be entered from SURVEY. -/
def State.mayHead (s : State) : Bool := s.sys.straps.cid == 0 && (s.beaconBound (s.fld F.MAC_BCN_CTL_KEYSLOT)).isSome

/-- FOLLOW may be entered (R39, R265). [DEDUCED, log 47] -/
def State.mayFollow (s : State) : Bool :=
  let f := s.mac.follow
  let sf : Rat := ((128 * f.slotlen * symDticks + f.length : Nat) : Rat)
  s.sys.straps.cid == 0 && s.fld F.MAC_FOLLOW_BCN_OFS != 0 && f.slotlen == s.slotlenReg && f.heard == s.slotlenReg && f.length != 0
    && f.dom == s.fld F.MAC_FOLLOW_MASTER_DOMAIN && decide ((s.now : Rat) ≤ s.masterStart + sf)

/-- SUBORDINATE may be entered. -/
def State.maySubordinate (s : State) : Bool := s.sys.straps.cid != 0 && s.on F.ULK_STAT_ALIGNED

/-- A request of FOLLOW starts a new ephemeris with the next beacon (R266). -/
def State.pendFollow (s : State) : State :=
  (s.setPend (some .follow)).modMac fun m => { m with follow := { m.follow with seen := false, entered := false } }

/-- A request of DORMANT (R572). [DEDUCED, log 47] -/
def State.requestDormant (s : State) : State :=
  let s := (s.setPend (some .dormant)).modSys fun y => { y with dormReq := true }
  (s.squashUndecided Sq.PORT_RESET).1.dropQueue Drop.mode

/-- The answer to a request of mode code `c`: the table of R39. [DEDUCED, log 47] -/
def State.request (s : State) (c : Nat) : State :=
  let when := fun (b : Bool) (t : State) => if b then t else s.modeRefused c
  if s.sys.dormReq then s.modeRefused c
  else match s.sys.mode, c with
    | .survey, 0 => when s.mayHead (s.setPend (some .head))
    | .follow, 0 | .holdover, 0 => s.setPend (some .head)
    | .survey, 1 | .head, 1 => when s.mayFollow s.pendFollow
    | .survey, 3 => when s.maySubordinate (s.setPend (some .subordinate))
    | .survey, 7 => when s.present (s.setMode .service)
    | .survey, 6 => s.requestDormant
    | .head, 4 | .follow, 4 | .holdover, 4 | .subordinate, 4 => s.setPend (some .survey)
    | .service, 4 => s.setMode .survey
    | _, _ => s.modeRefused c

/-- A write of SYS_MODE_REQ; during start-up it is ignored. -/
def State.writeModeReq (s : State) (v : Word) : State :=
  if s.sys.phase == .running && !s.busOff then s.request (v.toNat % 16) else s

/-- MODE_REQUEST. [DEDUCED, log 47] -/
def execModeRequest (_agent : Agent) (v : Word) (s : State) : Out := .next (s.writeModeReq v)

/-- A superframe starts now: the running one has just started, or the next is due. [DEDUCED, log 47] -/
def State.atSuperframe (s : State) : Bool := s.now == s.mac.cur.start || decide (s.nextStart ≤ s.now)

/-- A slot of the running superframe starts now. -/
def State.atSlot (s : State) : Bool :=
  s.atSuperframe || (decide (s.mac.cur.start ≤ s.now) && (s.now - s.mac.cur.start) % (s.mac.cur.slotlen * symDticks) == 0)

/-- Transmissions in flight, driven calibrations and booked ACKs, which a mode change requested by firmware waits for (R39, R203). [DEDUCED, log 47] -/
def State.inFlight (s : State) : Bool :=
  s.calOnAir || s.mac.ops.any fun o => o.stage != .queued || o.isAck

/-- MODE_TRANSITION: the boundary of the pending transition has come (R39, R43). [DEDUCED, log 47] -/
def execModeTransition (s : State) : Out :=
  match s.sys.pend with
  | some .survey => .next (if s.inFlight || !s.atSlot then s else s.setMode .survey)
  | some .head => .next (if s.atSuperframe then s.setMode .head else s)
  | some .follow => .next (if s.atSuperframe then s.setMode .follow else s)
  | some .subordinate => .next (if s.atSuperframe then s.setMode .subordinate else s)
  | _ => .next s

/-! ### Supplies and clocks (R525, R526, R529, R544) -/

/-- SUPPLY_MONITOR: a supply falls below its threshold. Group B is off in DORMANT by design. [DEDUCED, log 48] -/
def execSupplyMonitor (supply : Supply) (s : State) : Out :=
  match supply with
  | .groupA =>
    let s := s.powerOn s.sys.straps
    .next (s.modSys fun y => { y with railEn := false })
  | .vddCore | .vddNv => .next (if s.sys.mode == .dormant then s else s.modSys fun y => { y with mramFrozen := true })

/-- MRAM_FREEZE_LIFT: held tamper entries are written and waiting writes go on; until a wake has brought group B back nothing is lifted. -/
def execMramFreezeLift (s : State) : Out :=
  if !s.sys.mramFrozen || s.sys.mode == .dormant then .next s
  else
    let s := s.modSys fun y => { y with mramFrozen := false }
    let held := s.sec.heldLog
    let s := s.modSec fun c => { c with heldLog := [] }
    .next (held.foldl (fun (s : State) e => s.writeTamper e) s).mramKick

/-- GROUP_A_WITHIN_LIMITS: RAIL_EN rises while PORST_N is held. -/
def execGroupAWithinLimits (s : State) : Out :=
  .next (if s.sys.phase == .reset && s.sys.kind == .powerOn then s.modSys fun y => { y with railEn := true } else s)

/-- A register with a field cleared. -/
def State.without (s : State) (f : Field) : Word := putBits (s.reg f.addr) f.hi f.lo 0

/-- REFCLK_LOST. -/
def execRefclkLost (s : State) : Out :=
  if s.sys.onAo || s.sys.mode == .dormant then .next s
  else
    let s := (s.setFld F.SYS_STAT_REF_OK 0).flag F.SYS_FLAGS_REF_LOST
    let s := s.raise Ev.CLOCK_FAIL Src.sysClock 0 2
    let s := s.writeDmdCtl (s.without F.DMD_CTL_PORT_EN)
    let s := s.writeTxpCtl (s.without F.TXP_CTL_PORT_EN)
    let s := s.modSys fun y => { y with onAo := true }
    .next (s.tamperPart .refclk true)

/-- REFCLK_RETURN. -/
def execRefclkReturn (s : State) : Out :=
  .next (if s.sys.onAo then ((s.modSys fun y => { y with onAo := false }).flag F.SYS_STAT_REF_OK).tamperPart .refclk false else s)

/-- The domains in the order of R15, with the LOCK bit of their PLL where SYS_STAT shows one. -/
def domainCode : Domain → Nat
  | .ao => 0
  | .wake => 1
  | .line => 2
  | .dsp => 3
  | .core => 4
  | .ddr => 5
  | .pcie => 6
  | .ulir => 7

def domainLock : Domain → Nat
  | .line | .dsp => 1
  | .core => 2
  | .ddr => 4
  | .ao | .wake | .pcie | .ulir => 0

/-- PLL_UNLOCK: the AO and WAKE domains have no PLL (R527). [DEDUCED, log 45] -/
def execPllUnlock (domain : Domain) (s : State) : Out :=
  match domain with
  | .ao | .wake => .next s
  | d =>
    let s := (s.flag F.SYS_FLAGS_PLL_UNLOCK).raise Ev.CLOCK_FAIL Src.sysClock 0 (domainCode d)
    .next (s.setFld F.SYS_STAT_LOCK (s.fld F.SYS_STAT_LOCK &&& (7 - domainLock d)))

end Sys2Proof.Machine
end

