-- ==== Sys2Proof/Machine/Ulir.lean ====
section
/-! DEFINITION. The Ulir ring (R447-R464): discovery, faults, calibration, time alignment, lookups, frame collection and relayed beacons. -/

namespace Sys2Proof.Machine

def State.modUlk (s : State) (f : Ulk → Ulk) : State := { s with ulk := f s.ulk }

def State.ulkOn (s : State) : Bool := s.on F.ULK_CTL_EN
def State.ringUp (s : State) : Bool := s.on F.ULK_STAT_RING_UP

/-! ### Frame collection (R199-R201, R463) -/

/-- What a copy's entries say (R509): the copy header names no MC, DST, FC or KSEL. [DEDUCED, log 44] -/
def Copy.fields (c : Copy) (reason : Nat) (fcsBad : Bool) : DelHdr :=
  let f := fun o n => leNat ((c.header.drop o).take n)
  { fcsBad := fcsBad, surv := 0, copy := true, reason := reason, rxid := c.rxid, ft := f 6 1 % 16, sec := (f 6 1).testBit 4
    ackreq := false, sh := false, port := f 7 1 % 8, mc := 0, ackst := 0, src := BitVec.ofNat 32 (f 0 4), dst := 0, fc := 0
    total := f 4 2, ksel := 0, cid := c.src.toNat, tPre := f 8 6, level := 0, lots := 0, miss := 0, batt := 0 }

def Copy.owner (c : Copy) : Owner := .copy c.src c.rxid
def Copy.is (c : Copy) (src : BitVec 5) (rxid : Rxid) : Bool := c.src == src && c.rxid == rxid

def State.dropCopy (s : State) (c : Copy) : State :=
  s.modUlk fun u => { u with copies := u.copies.filter fun x => !(x.is c.src c.rxid) }

/-- A copy ends: its entries are marked (R200, R198). [DEDUCED, log 44] -/
def State.endCopy (s : State) (c : Copy) (st : EntryStatus) (reason : Nat) (fcsBad : Bool) : State :=
  let s := s.dropCopy c
  match c.ring with
  | some r => s.settle r c.owner st (c.fields reason fcsBad) (if st == .done then c.data else [])
  | none => s

/-- The master voids the copies that satisfy `p` and counts them under RING_FAULT (R194, R201); each is kept unplaced until its marker, which
then does nothing (R463). [DEDUCED, log 52] -/
def State.killCopies (s : State) (p : Copy → Bool) : State :=
  let s' := (s.ulk.copies.filter p).foldl (fun (s : State) (c : Copy) =>
    match c.ring with
    | some r => (s.bump (R.TAL_SQn Sq.RING_FAULT) 1).settle r c.owner .void (c.fields Sq.RING_FAULT false) []
    | none => s) s
  s'.modUlk fun u => { u with copies := u.copies.map fun c => if p c then { c with ring := none } else c }

/-- The master collects (R463). -/
def State.gathers (s : State) : Bool := s.ulkOn && s.isMaster && s.on F.ULK_CTL_COLLECT

/-- The SEQ of a packet from another member: at a collecting master a gap voids every open copy of its sender (R463). [DEDUCED, log 52] -/
def State.checkSeq (s : State) (src : BitVec 5) (seq : Byte) : State :=
  let s := match kget? s.ulk.lastSeq src.toNat with
    | some q => if seq = q + 1 || !s.gathers then s else (s.killCopies fun c => c.src == src).flag F.ULK_FLAGS_SEQ_GAP
    | none => s
  s.modUlk fun u => { u with lastSeq := sput u.lastSeq src.toNat seq }

/-- The first segment of a copy: its header, and its entries reserved (R200, R508). [DEDUCED, log 44] -/
def State.openCopy (s : State) (src : BitVec 5) (rxid : Rxid) (bytes : List Byte) : State × Copy :=
  let c : Copy := ⟨src, rxid, none, bytes.take 16, bytes.drop 16⟩
  let h := c.fields 0 false
  match s.matchRing h.ft h.mc h.port true with
  | none => (s.ringFull none, c)
  | some r =>
    let k := s.entriesFor r h.total
    if s.ringFits r k then (s.reserve r k c.owner, { c with ring := some r }) else (s.ringFull (some r), c)

/-- Add a segment to a copy; its payload is written once it has all come. -/
def State.growCopy (s : State) (c : Copy) : State :=
  let s := s.modUlk fun u => { u with copies := (u.copies.filter fun x => !(x.is c.src c.rxid)) ++ [c] }
  match c.ring with
  | some r => if c.data.length = (c.fields 0 false).total then s.fillResv r c.owner c.data else s
  | none => s

/-- ULIR_SEG. -/
def execUlirSeg (src : BitVec 5) (rxid : Rxid) (seq : Byte) (bytes : List Byte) (s : State) : Out :=
  if !s.gathers then .next s
  else
    let s := s.checkSeq src seq
    match s.ulk.copies.find? fun c => c.is src rxid with
    | some c => .next (s.growCopy { c with data := c.data ++ bytes })
    | none => let (s, c) := s.openCopy src rxid bytes; .next (s.growCopy c)

/-- ULIR_COMMIT: bit 0 FCS_BAD_TAG_OK, bit 1 DUPLICATE. -/
def execUlirCommit (src : BitVec 5) (rxid : Rxid) (seq : Byte) (flags : Byte) (s : State) : Out :=
  if !s.gathers then .next s
  else
    let s := s.checkSeq src seq
    match s.ulk.copies.find? fun c => c.is src rxid with
    | some c => .next (if flags.getLsbD 1 then s.endCopy c .skip 0 false else s.endCopy c .done 0 (flags.getLsbD 0))
    | none => .next s

/-- ULIR_VOID. -/
def execUlirVoid (src : BitVec 5) (rxid : Rxid) (seq : Byte) (reason : Byte) (s : State) : Out :=
  if !s.gathers then .next s
  else
    let s := s.checkSeq src seq
    match s.ulk.copies.find? fun c => c.is src rxid with
    | some c => .next (s.endCopy c .void (reason.toNat % 32) false)
    | none => .next s

/-! ### Faults (R453, R454) -/

/-- A subordinate leaves for SURVEY, its grid going on unbroken. [DEDUCED, log 51] -/
def State.leaveSub (s : State) : State :=
  if s.sys.mode == .subordinate then
    let o := s.mac.cur.start
    let s := (s.setReg R.MAC_SF_ORIGIN_LO (BitVec.ofNat 32 o)).setReg R.MAC_SF_ORIGIN_HI (BitVec.ofNat 32 (o / 2 ^ 32))
    s.forceMode .survey
  else s

def State.dropQuery (s : State) (tag : Byte) : State := s.modUlk fun u => { u with queries := u.queries.filter fun q => q.tag != tag }

/-- The ring is no longer up: queries out for receptions are not settled, and their receptions are squashed (R461). -/
def State.endQueries (s : State) : State :=
  (s.ulk.queries.filter fun q => q.rxid.isSome).foldl (fun (s : State) q =>
    ((s.dropQuery q.tag).flag F.ULK_FLAGS_LKUP_TO).refuseAll q.addr) s

/-- The master's side of a fault: the ring is down, and discovery begins again. -/
def State.ringDown (s : State) : State :=
  let s := ((s.setFld F.ULK_STAT_RING_UP 0).setFld F.ULK_STAT_N 0).setFld F.ULK_STAT_ALIGNED 0
  ((s.modUlk fun u => { u with calOk := false, discAt := none }).killCopies fun _ => true).endQueries

/-- A subordinate treats every marker it has not sent as sent: those that wait go, with the segments before them, receptions under way have no copy
any more, and RXIDs that waited for a marker only are free (R201). [DEDUCED, log 52] -/
def State.forgetMarkers (s : State) : State :=
  let ids := s.dmd.used.filter fun id => s.ulk.waiting.any (·.marks id)
  let s := s.modUlk fun u => { u with waiting := u.waiting.filter fun w => w.rank != 3 }
  let s := s.modDmd fun d => { d with rx := d.rx.map fun r => { r with sent := 0 } }
  ids.foldl (fun (s : State) id => s.freeRxid id) s

/-- RING_FAULT as a device finds it (R453). -/
def State.ringFault (s : State) : State :=
  let s := (s.flag F.ULK_FLAGS_RING_FAULT).raise Ev.RING_FAULT Src.ulkRing (BitVec.ofNat 32 s.cid) 0
  if s.isMaster then s.ringDown
  else
    let s := (s.setFld F.ULK_STAT_ALIGNED 0).setFld F.ULK_STAT_REF_LOCK 0
    let s := s.modUlk fun u => { u with good := 0, bad := 0, refRing := false }
    (s.forgetMarkers.ulkSend 4 0 0 []).leaveSub

/-- A lane fault: nothing is received. [DEDUCED, log 51] -/
def State.laneFault (s : State) : State :=
  let s := s.ringFault.setFld F.ULK_STAT_RING_UP 0
  if s.isMaster then s else s.endQueries

/-- LANE_FAULT: no comma-aligned word for 1 us, or code violations, counted, of which 16 within 1,024 words are a fault. -/
def execLaneFault (comma : Bool) (violations : Nat) (s : State) : Out :=
  if !s.ulkOn then .next s
  else
    let s := s.setFld F.ULK_ERRCNT_VIOL (min 65535 (s.fld F.ULK_ERRCNT_VIOL + violations))
    .next (if comma || decide (16 ≤ violations) then s.laneFault else s)

/-- TIME_PACKET_TIMEOUT: a subordinate has received no TIME packet for 2 ms. [DEDUCED, log 51] -/
def execTimePacketTimeout (s : State) : Out :=
  match s.ulk.timeSeen with
  | some t => .next (if s.ulkOn && !s.isMaster && decide (t.toNat + 49152 ≤ s.now) then
      (s.modUlk fun u => { u with timeSeen := none }).laneFault else s)
  | none => .next s

/-- ULIR_FAULT: the master has a member's report; no marker of that member's open copies is to come (R201). [DEDUCED, log 51] -/
def execUlirFault (src : BitVec 5) (seq : Byte) (s : State) : Out :=
  if !s.ulkOn || !s.isMaster then .next s
  else .next (((s.checkSeq src seq).raise Ev.RING_FAULT Src.ulkRing (src.setWidth 32) 0).ringDown.modUlk fun u =>
    { u with copies := u.copies.filter fun c => c.src != src })

/-- The last four of a packet's bytes are its CRC (R449). -/
def packetCrcOk (bs : List Byte) : Bool :=
  decide (12 ≤ bs.length) && crcStored .crc32c (bs.take (bs.length - 4)) == bs.drop (bs.length - 4)

/-- The packet's TYPE is one of R450's table. -/
def packetTyped (bs : List Byte) : Bool :=
  let t := (bs.getD 0 0).toNat % 16
  decide (1 ≤ t ∧ t ≤ 11)

/-- ULIR_BAD_PACKET: a packet, by its bytes between SOF and EOF, is removed for its CRC or its reserved type (R450, R451). -/
def execUlirBadPacket (bytes : List Byte) (s : State) : Out :=
  if !s.ulkOn || (packetCrcOk bytes && packetTyped bytes) then .next s
  else
    let s := s.setFld F.ULK_ERRCNT_PKT (min 65535 (s.fld F.ULK_ERRCNT_PKT + 1))
    .next (if packetCrcOk bytes then s else s.flag F.ULK_FLAGS_CRC_ERR)

/-! ### Discovery and calibration (R452, R455, R458) -/

/-- The master sends CAL. [DEDUCED, log 51] -/
def State.calibrate (s : State) : State :=
  if s.ulkOn && s.isMaster then (s.modUlk fun u => { u with calAt := some s.time }).ulkSend 2 0x1F 0 [] else s

/-- ALIGNED rises. -/
def State.align (s : State) : State :=
  if s.on F.ULK_STAT_ALIGNED then s else (s.flag F.ULK_STAT_ALIGNED).raise Ev.RING_ALIGNED Src.ulkTime 0 0

/-- The place at which a list of CIDs leaves the order 1, 2, ... -/
def firstOffender : Nat → List Byte → Option Byte
  | _, [] => none
  | i, x :: xs => if x.toNat = i then firstOffender (i + 1) xs else some x

/-- ULIR_DISC: a subordinate adds itself and forwards; at the master the list is judged. [DEDUCED, log 51] -/
def execUlirDisc (seq : Byte) (list : List Byte) (s : State) : Out :=
  if !s.ulkOn then .next s
  else if !s.isMaster then
    let p : Packet := ⟨1, 0x1F, 0, seq, 0, list ++ [BitVec.ofNat 8 s.cid]⟩
    .next (s.modUlk fun u => { u with sent := u.sent ++ [p] })
  else if s.ringUp then .next s
  else match firstOffender 1 list with
    | some x => .next ((s.flag F.ULK_FLAGS_ORDER_ERR).raise Ev.RING_FAULT Src.ulkRing (x.setWidth 32) 0)
    | none =>
      let s := s.modUlk fun u => { u with timeK := s.now / 24576 }
      .next ((s.setFld F.ULK_STAT_N (list.length + 1)).flag F.ULK_STAT_RING_UP).calibrate

/-- `n` dticks have passed since an instant, if there was one. -/
def State.since (s : State) (t : Option Time) (n : Nat) : Bool :=
  match t with
  | some t => decide (t.toNat + n ≤ s.now)
  | none => true

/-- DISC_TIMER: every 10 ms while the ring is not up. -/
def execDiscTimer (s : State) : Out :=
  .next (if s.ulkOn && s.isMaster && !s.ringUp && s.since s.ulk.discAt 245760 then
    (s.modUlk fun u => { u with discAt := some s.time }).ulkSend 1 0x1F 0 [] else s)

/-- CAL_TIMER: once per second while the ring is up. -/
def execCalTimer (s : State) : Out := .next (if s.ringUp && s.since s.ulk.calAt 24576000 then s.calibrate else s)

/-- ULK_CAL. -/
def execUlkCal (s : State) : Out := .next s.calibrate

/-- C of R455 in 0.1 ns, from R and N. -/
def hopSum (r n : Nat) : Int := (r : Int) - ((n : Int) - 1) * 1600

/-- ULIR_CAL: back at the master with the delay R, in 0.1 ns. [DEDUCED, log 51] -/
def execUlirCal (r : Nat) (s : State) : Out :=
  if !s.ulkOn || !s.isMaster || !s.ringUp then .next s
  else
    let n := s.fld F.ULK_STAT_N
    let c := hopSum r n
    if c < 0 ∨ 500 * (n : Int) < c then .next (s.flag F.ULK_FLAGS_CAL_FAIL)
    else .next (((s.setReg R.ULK_RTT (BitVec.ofNat 32 r)).modUlk fun u => { u with calOk := true }).align)

/-! ### Time (R456-R459) -/

/-- The instant at which a packet of the first class leaves the lane when it is busy with an own packet, in 1/15,625 dtick. -/
def Ulk.firstIdle (u : Ulk) : Nat := ((u.waiting.filter fun w => w.rank == 1).map (·.span)).foldl (· + ·) u.laneEnd

/-- The device time of a TIME packet's departure and its fraction in 1/65,536 dtick (R456): where the lane is idle the fraction, a word
boundary's, is the lane's own. [DEDUCED, log 51] -/
def State.timeStamp (s : State) : Nat × Nat :=
  let u := s.ulk
  if u.waiting.isEmpty && decide (u.laneEnd ≤ laneDtick * s.now) then (s.now, (Config.freeValue 16 s.freeCtr).toNat)
  else (u.firstIdle / laneDtick, u.firstIdle % laneDtick * 65536 / laneDtick)

/-- The payload of a TIME packet sent now. -/
def State.timePayload (s : State) : List Byte :=
  let led := s.sys.mode == .follow || s.sys.mode == .holdover
  leBytes 8 s.timeStamp.1 ++ leBytes 2 s.timeStamp.2 ++ leBytes 8 s.mac.cur.start ++ leBytes 2 s.mac.cur.slotlen
    ++ leBytes 2 s.mac.cur.bsn.toNat ++ leBytes 1 (if led then s.fld F.MAC_FOLLOW_BCN_OFS else 0)
    ++ leBytes 1 (if s.sys.mode == .holdover then 1 else 0) ++ leBytes 4 (s.reg R.ULK_RTT).toNat ++ leBytes 1 (s.fld F.ULK_STAT_N) ++ zeros 3

/-- TIME_SEND: device time has reached a further multiple of 24,576. -/
def execTimeSend (s : State) : Out :=
  if s.ulkOn && s.isMaster && s.ringUp && decide (s.ulk.timeK < s.now / 24576) then
    .next (((s.modUlk fun u => { u with timeK := s.now / 24576 }).ulkSend 3 0x1F 0 s.timePayload).drawn 1)
  else .next s

/-- a_k of R455, in dticks: 0.1 ns are 192/78125 of a dtick. -/
def State.hopDelay (s : State) (r n : Nat) : Rat :=
  let k : Rat := (s.cid : Nat)
  let tenths := k * (hopSum r n : Rat) / ((max 1 n : Nat) : Rat) + (k - 1) * 1600 + (signedOf 16 (s.fld F.ULK_TRIM_TRIM) : Rat)
  tenths * mkRat 192 78125

/-- Ports are off, so that a step may be made (R457). -/
def State.stepFree (s : State) : Bool := s.fld F.DMD_CTL_PORT_EN == 0 && s.fld F.TXP_CTL_PORT_EN == 0

/-- The instants a line port keeps move with device time. -/
def LpChain.restamp (c : LpChain) (t : Time → Time) (n : Nat → Nat) : LpChain :=
  let ends := fun (p : Time × Option Time) => (t p.1, p.2.map t)
  { c with
    overs := c.overs.map ends, zcLast := c.zcLast.map t, holdUntil := t c.holdUntil, decayAt := t c.decayAt, resetAt := c.resetAt.map t
    codes := c.codes.map fun p => (t p.1, p.2), spans := c.spans.map ends
    sending := c.sending.map fun x => { x with since := n x.since, till := x.till.map n } }

/-- Instants kept to measure time from, and the grid in force, move with device time by d dticks. [DEDUCED, log 52] -/
def State.restamp (s : State) (d : Int) : State :=
  let t := fun (x : Time) => x - BitVec.ofInt 64 d
  let m := fun (x : Option Time) => x.map t
  let n := fun (x : Nat) => ((x : Int) - d).toNat
  let lane := (laneDtick : Int) * d
  { s with
    limits := s.limits.map fun p => (p.1, t p.2)
    lp := s.lp.map fun c => c.restamp t n
    cores := s.cores.map fun c => { c with cycleAt := t c.cycleAt, wdogAt := t c.wdogAt, locks := c.locks.map fun l => { l with since := t l.since } }
    memu := { s.memu with mramLast := s.memu.mramLast.map fun p => (p.1, t p.2) }
    sec := { s.sec with windowEnd := m s.sec.windowEnd, sealLatched := m s.sec.sealLatched }
    sys := { s.sys with returnAt := m s.sys.returnAt }
    uart := s.uart.map fun (u : Uart) =>
      { u with edgeAt := t u.edgeAt, lowAt := m u.lowAt, txAt := t u.txAt, sirEnd := m u.sirEnd, was := u.was.map fun p => (t p.1, p.2) }
    age := { s.age with lastStart := m s.age.lastStart, running := m s.age.running, sleepDue := m s.age.sleepDue, hold := m s.age.hold
                        vidAt := t s.age.vidAt, ppsLast := m s.age.ppsLast }
    ulk := { s.ulk with timeSeen := m s.ulk.timeSeen, laneEnd := ((s.ulk.laneEnd : Int) - lane).toNat
                        queries := s.ulk.queries.map fun q => { q with since := t q.since } }
    mac := { s.mac with cur := { s.mac.cur with start := n s.mac.cur.start }, lag := s.mac.lag.map (·.map n)
                        counted := s.mac.counted.map n, follow := { s.mac.follow with ownAt := s.mac.follow.ownAt - d } }
    hif := { s.hif with irq := s.hif.irq.map fun (q : Irq) => { q with first := m q.first } } }

/-- Device time loses d dticks, and the superframe to come is placed on it anew (R231, R460). [DEDUCED, log 52] -/
def State.moveTime (s : State) (d : Int) : State :=
  let s := { s.restamp d with time := s.time - BitVec.ofInt 64 d }
  s.unbuild.modMac fun m => { m with next := s.gridFrom (s.now + 1), offGrid := m.offGrid && s.gridMode == .subordinate }

/-- The alignment step: device time loses the error, timed actions are cancelled and windows discarded. [DEDUCED, log 52] -/
def State.alignStep (s : State) : State :=
  let shift := roundUp ((s.ulk.stepErr : Rat) * mkRat 192 78125)
  let gone := s.mac.events
  let s := s.modMac fun m => { m with events := [], windows := [] }
  let s := s.dropWhere (fun o => o.stage == .queued) Drop.cancelled
  let s := gone.foldl (fun (s : State) e =>
    let s := s.raiseTo Ev.TX_DROPPED Src.macQueue 0 Drop.cancelled (coreMask e.core) s.stamp
    match e.gate with | some id => s.freeRxid id | none => s) s
  let s := s.setFld F.ULK_STAT_LOAD_WAIT 0
  let ref := s.on F.ULK_CTL_REF
  (s.modUlk fun u => { u with stepped := u.stepped || ref, good := 0, bad := 0, slew := 0, phase := 0, refRing := ref }).moveTime shift

/-- ALIGNMENT_STEP. -/
def execAlignmentStep (s : State) : Out := .next (if s.on F.ULK_STAT_LOAD_WAIT && s.stepFree then s.alignStep else s)

/-- A subordinate sets ALIGNED once all that R458 asks for holds. -/
def State.tryAlign (s : State) : State :=
  if s.ulkOn && !s.isMaster && s.ulk.calOk && (!s.on F.ULK_CTL_REF || s.on F.ULK_STAT_REF_LOCK) && decide (4 ≤ s.ulk.good) then s.align else s

/-- The error of a TIME packet counts toward ALIGNED, or against it (R458). -/
def State.judgeError (s : State) (e : Rat) (calOk : Bool) : State :=
  let small := decide (-500 ≤ e ∧ e ≤ 500)
  let large := decide (e < -1000 ∨ 1000 < e)
  let s := s.modUlk fun u => { u with good := if small then min 4 (u.good + 1) else 0, bad := if large then u.bad + 1 else 0, calOk := calOk }
  if s.on F.ULK_STAT_ALIGNED && decide (2 ≤ s.ulk.bad) then s.ringFault
  else s.tryAlign

/-- ULIR_TIME: a subordinate stamps a TIME packet's SOF, in dticks of its own device time. [DEDUCED, log 51] -/
def execUlirTime (stamp : Rat) (payload : List Byte) (s : State) : Out :=
  if !s.ulkOn || s.isMaster then .next s
  else
    let f := fun o n => leNat ((payload.drop o).take n)
    let r := f 24 4
    let n := f 28 1
    let s := ((s.flag F.ULK_STAT_RING_UP).setFld F.ULK_STAT_N n).setReg R.ULK_RTT (BitVec.ofNat 32 r)
    let due : Rat := (f 0 8 : Nat) + mkRat (f 8 2) 65536 + s.hopDelay r n
    let e := (stamp - due) * mkRat 78125 192
    let big := decide (e < -10000 ∨ 10000 < e) || (s.on F.ULK_CTL_REF && !s.ulk.stepped)
    let s := s.setReg R.ULK_TERR (BitVec.ofInt 32 (roundAway e))
    let back := s.on F.ULK_CTL_REF && s.on F.ULK_STAT_REF_LOCK && s.ulk.stepped
    let s := s.modUlk fun u =>
      { u with timeSf := some payload, slew := if big then 0 else 24576 * roundAway e, timeSeen := some s.time, refRing := u.refRing || back }
    let s := s.setOn F.ULK_STAT_LOAD_WAIT big
    let s := s.judgeError e (r != 0 && decide (0 ≤ hopSum r n))
    if !big then .next s
    else
      let s := s.modUlk fun u => { u with stepErr := roundAway e }
      .next (if s.on F.ULK_STAT_LOAD_WAIT && s.stepFree then s.alignStep else s)

/-- REF_LOCK: the ring-referenced synthesiser has locked (R454). -/
def execRefLock (s : State) : Out := .next (if s.ulkOn && !s.isMaster && s.on F.ULK_CTL_REF then (s.flag F.ULK_STAT_REF_LOCK).tryAlign else s)

/-- A write of ULK_CTL: a device whose lanes lose their power leaves the ring, and what waited for the lane goes. [DEDUCED, log 51] -/
def State.writeUlkCtl (s : State) (v : Word) : State :=
  let was := s.ulkOn
  let s := s.setReg R.ULK_CTL (v &&& (if s.isMaster then 0x1D else 0x1F))
  let s := if s.on F.ULK_CTL_REF then s else (s.setFld F.ULK_STAT_REF_LOCK 0).modUlk fun u => { u with refRing := false }
  let s := if was && !s.ulkOn then
      let s := (if s.on F.ULK_STAT_ALIGNED || s.ringUp then s.ringFault else s).setFld F.ULK_STAT_RING_UP 0
      s.endQueries.forgetMarkers.modUlk fun u => { u with waiting := [], timeSeen := none, good := 0, slew := 0 }
    else if !was && s.ulkOn then s.modUlk fun u => { u with discAt := none, timeSeen := if s.isMaster then none else some s.time }
    else s
  let s := s.tryAlign
  if v.getLsbD 8 then s.calibrate else s

/-! ### Lookups (R461, R462) -/

/-- This device holds the record of an address. -/
def State.ownsRecord (s : State) (a : Word) : State × Bool :=
  match s.hotFind a with
  | some i => (s, !s.stallFlag i 5)
  | none =>
    match s.recordOf a with
    | (s, some _) => (s, true)
    | (s, none) => (s, false)

/-- ULIR_LOOKUP_REQ: a member answers, or only forwards. -/
def execUlirLookupReq (src : BitVec 5) (seq : Byte) (addr : Word) (tag : Byte) (s : State) : Out :=
  if !s.ulkOn then .next s
  else
    let s := s.checkSeq src seq
    let tent := s.ulk.queries.any fun q => q.addr == addr
    match s.ownsRecord addr with
    | (s, true) => .next (s.ulkSend 6 src.toNat tag.toNat [1])
    | (s, false) => .next (if tent || (s.hotFind addr).isSome then s.ulkSend 6 src.toNat tag.toNat [2] else s)

/-- They proceed under R286. -/
def State.lendWaiting (s : State) (a : Word) : State :=
  if !s.on F.LGR_CTL_EN then s.refuseAll a
  else (s.waitingRx a).foldl (fun (s : State) id =>
    match s.hotFind a with
    | some i => s.giveStall id i
    | none => s.lendTo id a) s

/-- ULIR_LOOKUP_RSP: an answer, OWNER or TENTATIVE, or the query come back. [DEDUCED, log 52] -/
def execUlirLookupRsp (returned : Bool) (src : BitVec 5) (seq : Byte) (tag : Byte) (owner : Bool) (s : State) : Out :=
  let s := if returned then s else s.checkSeq src seq
  match s.ulk.queries.find? fun q => q.tag == tag with
  | none => .next s
  | some q =>
    match q.rxid with
    | some _ =>
      if returned then .next ((s.dropQuery tag).lendWaiting q.addr)
      else if owner || decide (src.toNat < s.cid) then .next ((s.dropQuery tag).refuseAll q.addr)
      else .next s
    | none =>
      if returned then .next ((s.dropQuery tag).setFld F.ULK_LKUP_STAT_BUSY 0)
      else if owner then .next ((s.flag F.ULK_LKUP_STAT_FOUND).setFld F.ULK_LKUP_STAT_OWNER src.toNat)
      else .next s

/-- LOOKUP_TIMEOUT: no full round within 20 us. [DEDUCED, log 52] -/
def execLookupTimeout (tag : Byte) (s : State) : Out :=
  match s.ulk.queries.find? fun q => q.tag == tag && decide (q.since.toNat + usDticks 20 ≤ s.now) with
  | none => .next s
  | some q =>
    let s := s.dropQuery tag
    match q.rxid with
    | some _ => .next ((s.flag F.ULK_FLAGS_LKUP_TO).refuseAll q.addr)
    | none => .next ((s.flag F.ULK_LKUP_STAT_TIMEOUT).setFld F.ULK_LKUP_STAT_BUSY 0)

/-- A write of ULK_LKUP_ADDR sends a query; one already out for firmware is given up. [DEDUCED, log 52] -/
def State.writeLkup (s : State) (a : Word) : State :=
  let s := s.modUlk fun u => { u with queries := u.queries.filter fun q => q.rxid.isSome }
  let s := (s.setReg R.ULK_LKUP_ADDR a).setReg R.ULK_LKUP_STAT 0
  if s.ringUp then (s.askRing a none).flag F.ULK_LKUP_STAT_BUSY else s.flag F.ULK_LKUP_STAT_TIMEOUT

/-- LOOKUP_QUERY. -/
def execLookupQuery (addr : Word) (s : State) : Out := .next (s.writeLkup addr)

/-! ### Relayed beacons (R464) -/

/-- The key under which the master signs member k's beacon message. -/
def State.memberKey (s : State) (k : Nat) (msg : List Byte) : Option (List Byte) :=
  if 1 ≤ k ∧ s.on (F.ULK_MEMBERk_BCN_EN k) = true ∧ s.fld (F.ULK_MEMBERk_DOMAIN k) = leNat ((msg.drop 11).take 2) then
    match s.namedKey (s.fld (F.ULK_MEMBERk_KEYSLOT k)) with
    | some q => if q.policy = 2 ∧ q.enc = true then some q.key else none
    | none => none
  else none

/-- ULIR_BCN_REQ. -/
def execUlirBcnReq (src : BitVec 5) (seq : Byte) (msg : List Byte) (tag : Byte) (s : State) : Out :=
  if !s.ulkOn || !s.isMaster then .next s
  else
    let s := s.checkSeq src seq
    .next (s.ulkSend 8 src.toNat tag.toNat (match s.memberKey src.toNat msg with
      | some k => (cmac k msg).take 8
      | none => []))

/-- ULIR_BCN_TAG: the tag of the beacon waiting on a port, or its refusal. [DEDUCED, log 42] -/
def execUlirBcnTag (tag : Byte) (mac : Option (List Byte)) (s : State) : Out :=
  let mine := fun (o : TxOp) => o.port.val == tag.toNat
  match mac with
  | some m =>
    .next (s.modMac fun q => { q with ops := q.ops.map fun o =>
      if o.kind == .beacon && o.encr == .waiting && mine o then { o with payload := o.payload ++ m.take 8, encr := .done } else o })
  | none => .next (s.refuseBeacons mine)

/-- BCN_TAG_DEADLINE: at S - 1 ms a beacon without its tag is not sent. -/
def execBcnTagDeadline (s : State) : Out := .next (s.refuseBeacons fun o => decide (o.time ≤ s.now + 24576))

end Sys2Proof.Machine
end

