-- ==== Sys2Proof/Machine/RegRead.lean ====
section
/-! DEFINITION. Reading a register (R10, R522): the registers that show something kept elsewhere, sign extensions, the reads that change
something, and the _LO and _HI pairs (R272, R540). -/

namespace Sys2Proof.Machine

/-- An address is one of `n` registers from `base`, `stride` apart: its index is given to `f`. -/
def atIdx {α : Type} (a base stride n : Nat) (f : Fin n → α) (d : α) : α :=
  if h : base ≤ a ∧ (a - base) % stride = 0 ∧ (a - base) / stride < n then f ⟨(a - base) / stride, h.2.2⟩ else d

/-- A word from (place, value) pairs. -/
def packed (fs : List (Nat × Nat)) : Word := BitVec.ofNat 32 (fs.foldl (fun n p => n + p.2 * 2 ^ p.1) 0)

/-- A field of `w` bits sign-extended (R149, R229). -/
def sext (w : Nat) (v : Word) : Word := BitVec.ofNat 32 (toTwos 32 (signedOf w (v.toNat % 2 ^ w)))

/-! ### Views -/

def State.lpStat (s : State) (n : Port) : Word :=
  let l := s.lp[n]
  packed [(8, s.settleN n), (6, (s.txhAt n s.now).toNat), (5, l.queued.isSome.toNat), (4, l.fade.isSome.toNat), (3, l.bank.toNat),
    (2, (s.mapValid n).toNat), (1, l.zcLock.toNat), (0, (decide (l.settle = 0) && !inSpans l.overs s.now).toNat)]

/-- [DESIGN CHOICE, log 26] -/
def State.zcPhase (s : State) (n : Port) : Word :=
  match s.lp[n].zcLast with
  | none => 0
  | some _ =>
    let p := s.mainsPhase n s.now
    packed [(31, s.lp[n].zcLock.toNat), (16, phaseBin p), (0, p)]

/-- [DESIGN CHOICE, log 26] -/
def State.lpView (s : State) (n : Port) (o : Nat) : Word :=
  let a := R.LPn_CTL n + o
  if o = 0x04 then s.lpStat n
  else if o = 0x54 then BitVec.ofNat 32 (s.peakReading n)
  else if o = 0x5C then BitVec.ofNat 32 (logp (2 * s.lp[n].env))
  else if o = 0x68 then s.zcPhase n
  else if 0x100 ≤ o ∧ o < 0x200 then sext 24 (s.reg a)
  else if 0x400 ≤ o ∧ o < 0x800 then sext 18 (s.reg a)
  else atIdx o 0x200 4 64 (fun b => BitVec.ofNat 32 (logp s.lp[n].nmap[b])) (s.reg a)

def CtxState.code : CtxState → Nat
  | .idle => 0
  | .qualify => 1
  | .joined => 2
  | .header => 3
  | .payload => 4
  | .pending => 5
  | .directed => 6
  | .held => 7

/-- Contexts neither IDLE nor HELD. -/
def State.ctxBusy (s : State) : Nat := (s.dmd.ctx.filter fun c => c.state != .idle && c.state != .held).length

/-- [DESIGN CHOICE, log 26] -/
def State.ctxView (s : State) (c : Nat) : Word :=
  let x := s.ctx c
  let lvl := if x.state == .idle || x.state == .held then 0 else logp (meanRat (s.onTone c))
  packed [(24, (match x.rxid with | some id => id.toNat | none => 0)), (20, x.state.code), (19, x.watcher.toNat), (0, lvl)]

/-- The idle noise of tone t + 8 on the port selected, 0 outside its preset or plan. -/
def State.noiseView (s : State) (t : Nat) : Word :=
  let p : Port := if s.fld F.DMD_NSEL_PORT = 0 then 0 else if s.fld F.DMD_NSEL_PORT = 1 then 1 else if s.fld F.DMD_NSEL_PORT = 2 then 2
    else if s.fld F.DMD_NSEL_PORT = 3 then 3 else if s.fld F.DMD_NSEL_PORT = 4 then 4 else 5
  if decide (t / 16 < presetLots (s.preset p)) && planTone (s.plan (s.txPort p)) (t + 8) then BitVec.ofNat 32 (logp (s.lp[p].idle.getD t 0)) else 0

def State.dmdView (s : State) (o : Nat) : Word :=
  if o = 0x04 then packed [(16, 256 - s.dmd.used.length), (8, s.ctxBusy), (0, s.dmd.yoked.toNat)]
  else atIdx o 0x400 4 320 (fun t => s.noiseView t.val) (atIdx o 0xC00 4 240 (fun c => s.ctxView c.val) (s.reg (R.DMD_CTL + o)))

/-- Streams of a port in use. -/
def State.streamsBusy (s : State) (n : Nat) : List Nat := (s.busyOps n).filterMap fun o => o.stage.stream

def State.txpView (s : State) (o : Nat) : Word :=
  let own := s.reg (R.TXP_CTL + o)
  if 0x800 ≤ o ∧ o < 0xE00 then sext 18 own
  else
    atIdx o 0x110 0x40 6 (fun n =>
        (own &&& 0xFFFFFFE0) ||| packed [(4, (s.txenOn n).toNat), (0, lotBits ((s.streamsBusy n).filter (· < 4)))])
      (atIdx o 0x118 0x40 6 (fun n => BitVec.ofNat 32 (lotBits (((s.streamsBusy n).filter (4 ≤ ·)).map (· - 4)))) own)

/-- A beacon is on the line. -/
def State.inBeacon (s : State) : Bool :=
  s.mac.ops.any fun o => o.kind == .beacon && (match o.stage with | .onAir _ => true | _ => false)

/-- SLOTLEN as it reads: a subordinate shows its master's (R460). -/
def State.slotlenView (s : State) : Nat :=
  match s.sys.mode, s.ulk.timeSf with
  | .subordinate, some p => leNat ((p.drop 18).take 2)
  | _, _ => s.fld F.MAC_SF_CTL_SLOTLEN

def State.macView (s : State) (o : Nat) : Word :=
  if o = 0x04 then packed [(16, s.mac.cur.bsn.toNat), (8, s.inBeacon.toNat), (0, s.slotNo s.now)]
  else if o = 0x10 then putBits (s.reg R.MAC_SF_CTL) 12 0 s.slotlenView
  else if o = 0xB0 then
    packed [(16, (s.mac.ops.filter fun p => p.inQueue && decide (p.index < 120)).length), (0, s.queueUsed.length)]
  else if o = 0xB4 then BitVec.ofNat 32 (s.mac.windows.filter fun w => !w.closed).length
  else if o = 0xB8 then BitVec.ofNat 32 s.mac.store.length
  else s.reg (R.MAC_CTL + o)

def State.lgrView (s : State) (o : Nat) : Word :=
  if o = 0x04 then (s.reg R.LGR_STAT &&& 0xC0000000) ||| packed [(16, s.pinned), (0, s.hotUsed)] else s.reg (R.LGR_CTL + o)

def State.keyView (s : State) (o : Nat) : Word :=
  if o = 0x04 then
    (s.reg R.KEY_STAT &&& 0xC0000000) ||| packed [(16, s.otp.reprov), (8, lcClass s.otp.lc), (0, s.retiring.length)]
  else s.reg (R.KEY_CTL + o)

def State.crcView (s : State) (o : Nat) : Word :=
  atIdx o 0x104 0x20 4 s.crcValue (atIdx o 0x10C 0x20 4 s.crcResultNow (s.reg (0x400E0000 + o)))

def State.evcView (s : State) (o : Nat) : Word :=
  if o = 0x04 then
    packed [(16, s.evc.staged.length), (0, lotBits ((allEight.filter fun k => !s.evc.queues[k].isEmpty).map (·.val)))]
  else s.reg (R.EVC_CTL + o)

/-- Regions 0 and 1 show the ledger's settings (R406, R412). -/
def State.ddrView (s : State) (o : Nat) : Word :=
  atIdx o 0x104 0x20 2 (fun r => BitVec.ofNat 32 (s.regionBase r))
    (atIdx o 0x108 0x20 2 (fun r => BitVec.ofNat 32 (s.regionSize r))
      (atIdx o 0x110 0x20 2 (fun _ => s.reg R.LGR_GEN) (s.reg (R.DDR_CTL + o))))

/-- Whole seconds left in the presence window. -/
def State.presLeft (s : State) : Nat :=
  match s.sec.windowEnd with
  | some t => (t.toNat - s.now) / 24576000
  | none => 0

/-- SEC_STAT. Until start-up after power-on reset SEAL_OK shows the reset value of its table. [DEDUCED, log 50] -/
def State.secStat (s : State) : Word :=
  packed [(29, lcCode s.otp.lc), (23, 32 - s.otp.lcSteps), (16, s.otp.reprov), (15, s.sec.staged.isSome.toNat),
    (12, (match s.sec.staged with | some p => lcCode p.target | none => 0)), (11, s.sec.romClosed.toNat), (10, s.present.toNat),
    (9, (s.sealIntact && !s.inPowerOn).toNat), (8, s.sec.windowEnd.isSome.toNat), (7, s.sec.idk.isSome.toNat), (4, s.sec.scopes.toNat), (3, s.lmsOut.toNat)]

def State.secView (s : State) (o : Nat) : Word :=
  if o = 0x00 then s.secStat
  else if o = 0x14 then s.reg R.SEC_CMD_BUF &&& 0xFFFFFFFC
  else if o = 0x40 then putBits (s.reg R.SEC_BOOT) 31 24 s.otp.rollback
  else if o = 0x44 then BitVec.ofNat 32 s.lmsQ
  else if o = 0x50 then BitVec.ofNat 32 s.presLeft
  else
    atIdx o 0x20 4 4 (fun i => BitVec.ofNat 32 (leNat ((s.otp.uid.drop (4 * i)).take 4)))
      (atIdx o 0x30 4 4 (fun i => BitVec.ofNat 32 (leNat (((s.sec.nonce.getD []).drop (4 * i)).take 4))) (s.reg (R.SEC_STAT + o)))

def State.ulkView (s : State) (o : Nat) : Word :=
  if o = 0x04 then (s.reg R.ULK_STAT &&& 0xF03F0000) ||| packed [(8, s.cid), (0, s.isMaster.toNat)] else s.reg (R.ULK_CTL + o)

def State.hifView (s : State) (o : Nat) : Word :=
  let own := s.reg (R.HIF_CTL + o)
  if o = 0x04 then (own &&& 0x7C000000) ||| packed [(31, s.sys.straps.hostSel.toNat)]
  else atIdx o 0x124 0x40 8 (fun r => (own &&& 2) ||| packed [(0, (s.ringIdle r).toNat)]) own

def State.sysView (s : State) (o : Nat) : Word :=
  if o = 0x24 then
    (s.reg R.SYS_DORM_CTL &&& 0x00FF003C)
      ||| packed [(0, s.fld (F.UARTn_CTL_WAKE_EN 0)), (1, s.fld (F.UARTn_CTL_WAKE_EN 1))]
  else s.reg (R.SYS_MODE_REQ + o)

/-- What the register at an address shows now; addresses without one read zero (R522). [DEDUCED, log 24] -/
def State.regView (s : State) (a : Nat) : Word :=
  let o := a % 0x10000
  match (a - regBase) / 0x10000 with
  | 0x00 => s.sysView o
  | 0x01 => s.lpView 0 o
  | 0x02 => s.lpView 1 o
  | 0x03 => s.lpView 2 o
  | 0x04 => s.lpView 3 o
  | 0x05 => s.lpView 4 o
  | 0x06 => s.lpView 5 o
  | 0x08 => s.dmdView o
  | 0x09 => s.txpView o
  | 0x0A => s.macView o
  | 0x0B => s.lgrView o
  | 0x0D => s.keyView o
  | 0x0E => s.crcView o
  | 0x0F => s.evcView o
  | 0x11 => s.ddrView o
  | 0x12 => if o = 0x0004 then s.uartStat 0 else if o = 0x1004 then s.uartStat 1 else s.reg a
  | 0x13 => s.ulkView o
  | 0x15 => s.secView o
  | 0x16 => s.hifView o
  | 0x17 => if o = 0 then s.time.setWidth 32 else if o = 4 then (s.time >>> 32).setWidth 32 else s.reg a
  | 0x18 => if o = 4 then s.occStat else s.reg a
  | _ => s.reg a

/-! ### Reads that do something -/

/-- The _HI partner of a _LO register (R272, R540). -/
def hiOf (a : Nat) : Option Nat :=
  if a = R.MAC_SF_ORIGIN_LO ∨ a = R.MAC_SF_START_LO ∨ a = R.MAC_OPENMAP_LO ∨ a = R.MAC_MEPH_XLO ∨ a = R.TMR_TIME_LO ∨ a = R.TMR_WAKE_LO
  then some (a + 4) else none

/-- The cipher pipelines may hold blocks: a job, a transmission being sealed or a reception being opened. [DESIGN CHOICE, log 26] -/
def State.cipherWork (s : State) : Bool :=
  !s.key.jobs.isEmpty || (s.mac.ops.any fun o => o.encr == .running) || s.dmd.rx.any fun r => r.bound.isSome && r.tagOk.isNone

/-- CPH_STAT: which pipelines hold a block while there is work is a free value. [DESIGN CHOICE, log 26] -/
def State.readCph (s : State) : State × Word :=
  let n := s.key.jobs.length
  if s.cipherWork then (s.drawn 1, packed [(8, n), (0, (Config.freeValue 2 s.freeCtr).toNat)]) else (s, packed [(8, n)])

/-- The transmit flags and the tally count what has been clipped so far before an access; those samples are of earlier cycles (R12, R217, R384). -/
def State.counted (s : State) (a : Nat) : State :=
  if (a - regBase) / 0x10000 = 0x09 ∨ (a - regBase) / 0x10000 = 0x19 then { s.countAll with cycle := s.cycle } else s

/-- A read of an aligned register address. [DEDUCED, log 24; DEDUCED, log 25] -/
def State.regRead (s0 : State) (a : Nat) : State × Word :=
  let s := s0.counted a
  match hiOf a with
  | some hi => (s.modMac fun m => { m with latches := sput m.latches hi (s.regView hi) }, s.regView a)
  | none =>
    match kget? s.mac.latches a with
    | some v => (s.modMac fun m => { m with latches := sdel m.latches a }, v)
    | none =>
      if a = R.KEY_RAND then s.readRand
      else if a = R.CPH_STAT then s.readCph
      else
        atIdx a (R.UARTn_STAT 0) 0x1000 2 (fun n => s.readStat n) <|
        atIdx a (R.UARTn_DATA 0) 0x1000 2 (fun n => let r := s.readUart n; (r.2, r.1))
          (atIdx a (R.LPn_PEAK 0) 0x10000 6 (fun n => s.readPeak n) (s, s.regView a))

end Sys2Proof.Machine
end

