-- ==== Sys2Proof/Machine/RegWrite.lean ====
section
/-! DEFINITION. Writing a register (R8, R10, R522): the access types, the registers whose write does something, and those that take
writes only at times. -/

namespace Sys2Proof.Machine

/-- What a write of `v` leaves in a register that held `old` (R10). [DEDUCED, log 24] -/
def RegRow.written (r : RegRow) (old v : Word) : Word :=
  ((((old &&& ~~~r.rw) ||| (v &&& r.rw)) &&& ~~~(v &&& r.w1c)) ||| (v &&& r.w1s))

/-- A write that only does what the access types of R10 say: a W1C bit that hardware has set in the same cycle ends set (R12), and an address
without a register discards the write. [DEDUCED, log 24] -/
def State.plainWrite (s : State) (a : Nat) (v : Word) : State :=
  match regRow? a with
  | some r => s.setReg a (r.written (s.reg a) (v &&& ~~~(r.w1c &&& s.marks a)))
  | none => s

/-- A plain write taken only under a condition. -/
def State.writeIf (s : State) (c : Bool) (a : Nat) (v : Word) : State := if c then s.plainWrite a v else s

/-- A plain write that leaves some bits as they are. -/
def State.writeKeep (s : State) (keep : Word) (a : Nat) (v : Word) : State := s.plainWrite a ((v &&& ~~~keep) ||| (s.reg a &&& keep))

def State.sysWrite (s : State) (o : Nat) (v : Word) : State :=
  if o = 0x00 then s.writeModeReq v
  else if o = 0x18 then s.writeRstCtl v
  else s.plainWrite (R.SYS_MODE_REQ + o) v

def State.lpWrite (s : State) (n : Port) (o : Nat) (v : Word) : State :=
  let a := R.LPn_CTL n + o
  if o = 0x00 then s.writeLpCtl n v
  else if o = 0x10 then s.writePga n v
  else if o = 0x20 then s.writeFirCtl n v
  else if o = 0x40 then s.writeAgcCtl n v
  else if o = 0x30 then s.writeNotchCtl n (v.setWidth 4)
  else if o = 0x60 then s.writeZcCtl n v
  else if o = 0x70 then s.writeNmapCtl n v
  else if 0x100 ≤ o ∧ o < 0x180 then
    atIdx (o / 0x20 * 0x20) 0x100 0x20 4 (fun i => if o % 0x20 < 0x14 then s.writeNotch n i (o % 0x20 / 4) v else s) s
  else if 0x400 ≤ o ∧ o < 0x580 then s.writeFirTap n false ((o - 0x400) / 4) v
  else if 0x600 ≤ o ∧ o < 0x780 then s.writeFirTap n true ((o - 0x600) / 4) v
  else s.plainWrite a v

def State.dmdWrite (s : State) (o : Nat) (v : Word) : State :=
  if o = 0x00 then s.writeDmdCtl v
  else atIdx o 0x30 4 6 (fun n => s.writeLoten n v) (s.plainWrite (R.DMD_CTL + o) v)

def State.txpWrite (s : State) (o : Nat) (v : Word) : State :=
  if o = 0x00 then s.writeTxpCtl v
  else if o = 0x40 then s.writeCalCtl v
  else if 0x800 ≤ o ∧ o < 0xE00 then
    atIdx (o / 0x100 * 0x100) 0x800 0x100 6 (fun n => atIdx (o % 0x100) 0 4 48 (fun t => s.writeShp n t v) s) s
  else atIdx o 0x100 0x40 6 (fun n => s.writeTxpPctl n v) (s.plainWrite (R.TXP_CTL + o) v)

/-- SLOTLEN cannot be written in SUBORDINATE (R460), ORIGIN and BSN only in SURVEY (R231), slot 0's bit of the open map not at all, and
BCN_OFS not in FOLLOW or HOLDOVER (R467). -/
def State.macWrite (s : State) (o : Nat) (v : Word) : State :=
  let a := R.MAC_CTL + o
  if o = 0x10 then s.writeKeep (if s.inMode .subordinate then 0x1FFF else 0) a v
  else if o = 0x14 then s.writeOriginLo v
  else if o = 0x18 then s.writeOriginHi v
  else if o = 0x24 then s.writeBsn v
  else if o = 0x28 then s.writeKeep 1 a v
  else if o = 0x90 then s.writeKeep (if s.inMode .follow || s.inMode .holdover then 0x3F0000 else 0) a v
  else s.plainWrite a v

/-- The cold-store registers are written only while the ledger is off (R297). -/
def State.lgrWrite (s : State) (o : Nat) (v : Word) : State :=
  let a := R.LGR_CTL + o
  if o = 0x00 then s.writeLgrCtl v []
  else if o = 0x40 then s.writeLgrCmd (v.toNat % 16) []
  else if 0x14 ≤ o ∧ o ≤ 0x20 then s.writeIf (!s.on F.LGR_CTL_EN) a v
  else s.plainWrite a v

def State.keyWrite (s : State) (o : Nat) (v : Word) : State :=
  if o = 0x00 then (if v.getLsbD 0 then s.reseedRng else s)
  else if o = 0x10 then s.writeKeyCmd v []
  else s.plainWrite (R.KEY_CTL + o) v

def State.crcWrite (s : State) (o : Nat) (v : Word) : State :=
  atIdx o 0x100 0x20 4 (fun n => s.writeCrcCtl n v)
    (atIdx o 0x104 0x20 4 (fun n => s.writeCrcValue n v)
      (atIdx o 0x108 0x20 4 (fun n => s.writeCrcData n v) (s.plainWrite (0x400E0000 + o) v)))

def State.evcWrite (s : State) (o : Nat) (v : Word) : State :=
  let a := R.EVC_CTL + o
  if o = 0x00 then s.writeEvcCtl v
  else if o = 0x8C then s.writeHrCons v
  else if o = 0x80 ∨ o = 0x84 then s.writeIf (!s.on F.EVC_CTL_HR_EN) a v
  else s.plainWrite a v

def State.memWrite (s : State) (o : Nat) (v : Word) : State :=
  if o = 0x20 then s.writeMarchCtl v else s.plainWrite (0x40100000 + o) v

/-- A region's base, size and tag area are written only while it is off; the ledger's regions take base, size and generation from the
ledger (R406, R407, R412). -/
def State.ddrWrite (s : State) (o : Nat) (v : Word) : State :=
  let a := R.DDR_CTL + o
  if o = 0x00 then s.writeDdrCtl v
  else
    atIdx o 0x100 0x20 8 (fun r => s.writeRegionCtl r v)
      (if 0x100 ≤ o ∧ o < 0x200 then
        let r := (o - 0x100) / 0x20
        s.writeIf (!s.on (F.DDR_RrCTL_EN r) && (decide (2 ≤ r) || decide (o % 0x20 = 0x0C))) a v
      else s.plainWrite a v)

/-- A write of UARTn_DIV or UARTn_FMT (R491). -/
def State.writeUartLine (s : State) (n : Fin 2) (a : Nat) (v : Word) : State := (s.plainWrite a v).keepLine n (s.uartNow n)

def State.uartWrite (s : State) (o : Nat) (v : Word) : State :=
  atIdx o 0x00 0x1000 2 (fun n => s.writeUartCtl n v)
    (atIdx o 0x18 0x1000 2 (fun n => s.writeUart n v)
      (atIdx o 0x1C 0x1000 2 (fun n => s.writeFifoCtl n v)
        (atIdx o 0x10 0x1000 2 (fun n => s.writeUartLine n (R.UARTn_DIV n) v)
          (atIdx o 0x14 0x1000 2 (fun n => s.writeUartLine n (R.UARTn_FMT n) v) (s.plainWrite (R.UARTn_CTL 0 + o) v)))))

def State.ulkWrite (s : State) (o : Nat) (v : Word) : State :=
  if o = 0x00 then s.writeUlkCtl v
  else if o = 0x20 then s.writeLkup v
  else s.plainWrite (R.ULK_CTL + o) v

def State.ageWrite (s : State) (o : Nat) (v : Word) : State :=
  if o = 0x00 then s.writeAgeCtl v
  else if o = 0x14 then s.writeAgeVid v
  else s.plainWrite (R.AGE_CTL + o) v

/-- SEC_TAMP_CFG: TLOCK can only be set and freezes the responses, which can only be set in PROVISIONED and DEPLOYED (R440). -/
def State.writeTampCfg (s : State) (v : Word) : State :=
  if s.on F.SEC_TAMP_CFG_TLOCK then s
  else
    let old := s.fld F.SEC_TAMP_CFG_WIPE
    let new := v.toNat % 32
    let set := s.otp.lc == .provisioned || s.otp.lc == .deployed
    (s.setFld F.SEC_TAMP_CFG_WIPE (if set then old ||| new else new)).setOn F.SEC_TAMP_CFG_TLOCK (v.getLsbD 8)

/-- SEC_CMD_BUF keeps bits 1:0, where REVOKE finds its key index (R424, R444). -/
def State.secWrite (s : State) (o : Nat) (v : Word) : State :=
  if o = 0x10 then s.writeSecCmd v []
  else if o = 0x14 then s.setReg R.SEC_CMD_BUF v
  else if o = 0x60 then s.writeTampCfg v
  else s.plainWrite (R.SEC_STAT + o) v

/-- A cause whose occurrences already reach a new CNT fires (R519). [DEDUCED, log 23] -/
def State.writeIrq (s : State) (c : Fin 11) (v : Word) : State :=
  let s := s.plainWrite (R.HIF_IRQc c) v
  if s.hif.irq[c].count ≠ 0 ∧ max 1 (s.fld (F.HIF_IRQc_CNT c)) ≤ s.hif.irq[c].count then s.irqFire c else s

/-- A vector unmasked while it is pending is sent (R501). [PRESUMED, log 22] -/
def State.writeMsix (s : State) (n : Fin 32) (v : Word) : State :=
  let s := s.plainWrite (R.MSIX_CTL n) v
  if !v.getLsbD 0 && (s.reg R.MSIX_PBA).getLsbD n && s.mayRequest then s.sendVector n else s

/-- Ring fields other than EN are ignored while EN = 1 (R523), but for the count that R506 moves. -/
def State.hifWrite (s : State) (o : Nat) (v : Word) : State :=
  let a := R.HIF_CTL + o
  if o = 0x20 then s.writeBoot v
  else if o = 0x24 then s.writeIf s.hif.bootWait a v
  else
    atIdx o 0x40 4 11 (fun c => s.writeIrq c v)
      (atIdx o 0x100 0x40 8 (fun r => s.writeRingCfg r v)
        (atIdx o 0x118 0x40 8 (fun r => s.writeTail r v)
          (atIdx o 0x100C 0x10 32 (fun n => s.writeMsix n v)
            (if 0x100 ≤ o ∧ o < 0x300 then
              let r := (o - 0x100) / 0x40
              s.writeIf (!s.on (F.HIF_RINGr_CFG_EN r) && !(decide (4 ≤ r) && decide (o % 0x40 = 0x20))) a v
            else s.plainWrite a v))))

/-- The high word of the wake time waits for the low one (R540). -/
def State.tmrWrite (s : State) (o : Nat) (v : Word) : State :=
  if o = 0x08 then (s.setReg R.TMR_WAKE_LO v).setReg R.TMR_WAKE_HI s.sys.wakeHi
  else if o = 0x0C then s.modSys fun y => { y with wakeHi := v }
  else s.plainWrite (R.TMR_TIME_LO + o) v

def State.occWrite (s : State) (agent : Agent) (o : Nat) (v : Word) : State :=
  let a := R.OCC_CTL + o
  if o = 0x00 then s.writeOccCtl agent (v.setWidth 8) ((v >>> 16).setWidth 8)
  else if o = 0x0C then s.writeOccCfg v
  else
    atIdx o 0x40 0x10 8 (fun _ => if s.occWritable agent then s.plainWrite a v else s.flag F.OCC_FLAGS_HOST_REFUSED)
      (s.plainWrite a v)

def State.talWrite (s : State) (o : Nat) (v : Word) : State :=
  if o = 0x00 then (if v.getLsbD 0 then s.clearTally else s) else s.plainWrite (R.TAL_CTL + o) v

/-- TALLY_CLEAR (R384). -/
def execTallyClear (s : State) : Out := .next (s.counted R.TAL_CTL).clearTally

/-- A write of an aligned register address by either agent. [DEDUCED, log 24] -/
def State.regWrite (s0 : State) (agent : Agent) (a : Nat) (v : Word) : State :=
  let s := s0.counted a
  let o := a % 0x10000
  match (a - regBase) / 0x10000 with
  | 0x00 => s.sysWrite o v
  | 0x01 => s.lpWrite 0 o v
  | 0x02 => s.lpWrite 1 o v
  | 0x03 => s.lpWrite 2 o v
  | 0x04 => s.lpWrite 3 o v
  | 0x05 => s.lpWrite 4 o v
  | 0x06 => s.lpWrite 5 o v
  | 0x08 => s.dmdWrite o v
  | 0x09 => s.txpWrite o v
  | 0x0A => s.macWrite o v
  | 0x0B => s.lgrWrite o v
  | 0x0D => s.keyWrite o v
  | 0x0E => s.crcWrite o v
  | 0x0F => s.evcWrite o v
  | 0x10 => s.memWrite o v
  | 0x11 => s.ddrWrite o v
  | 0x12 => s.uartWrite o v
  | 0x13 => s.ulkWrite o v
  | 0x14 => s.ageWrite o v
  | 0x15 => s.secWrite o v
  | 0x16 => s.hifWrite o v
  | 0x17 => s.tmrWrite o v
  | 0x18 => s.occWrite agent o v
  | 0x19 => s.talWrite o v
  | _ => s.plainWrite a v

/-- The register region (R521). -/
def inRegs (a : Nat) : Bool := decide (regBase ≤ a ∧ a < regBase + 0x1A0000)

/-- REGISTER_WRITE: a word write of the register region; one that is not aligned is discarded, and the host's sets BAD_ACC (R502). A
core's store that is not aligned faults before it gets here (R345). [DEDUCED, log 24] -/
def execRegisterWrite (agent : Agent) (addr v : Word) (s : State) : Out :=
  let a := addr.toNat
  if s.busOff || a < regBase || regBase + 0x1000000 ≤ a then .next s
  else if a % 4 ≠ 0 then .next (match agent with | .host => s.hifFlag F.HIF_FLAGS_BAD_ACC | .core _ => s)
  else if !inRegs a then .next s
  else
    let s := match agent with | .host => s | .core k => s.crcCoreStore k a (leBytes 4 v.toNat)
    .next (s.regWrite agent a v)

end Sys2Proof.Machine
end

