-- ==== Sys2Proof/Machine/CoreMem.lean ====
section
/-! DEFINITION. How a core reaches memory: which addresses it may load and store (R340), its store buffer (R362), what its loads return,
and the order its instructions keep. -/

namespace Sys2Proof.Machine

/-- The global TCM windows (R340): core and offset of an ITCM address. -/
def itcmCore (a : Nat) : Option CoreId :=
  if h : tcmBase ≤ a ∧ a < tcmBase + 0x100000 ∧ a % 0x20000 < 0x10000 then some ⟨(a - tcmBase) / 0x20000, by
    have := h.2.1; have := h.1; omega⟩ else none

/-- What a core may load (R340), by global address; the register region by words only (R8). -/
def State.loadable (s : State) (k : CoreId) (a size : Nat) : Bool :=
  (k == 0 && decide (a < 0x20000) && !s.sec.romClosed) || inShared a || decide (bankBase 50 ≤ a ∧ a < bankBase 64) || inMram a
    || (itcmCore a).isSome || inDtcm a || (inRegs a && size == 4) || inExt a

/-- What a core may store to (R340, R342, R400). -/
def storable (k : CoreId) (a size : Nat) : Bool :=
  inShared a || inFirmware a
    || (match itcmCore a with | some j => j != k | none => false) || inDtcm a || (inRegs a && size == 4) || inExt a

/-- A store of a core is still on its way into MRAM. -/
def State.mramBusy (s : State) (k : CoreId) : Bool := s.memu.mramPend.any fun w => w.writer == .core k

/-- A store takes effect at its target (R362); one that fails in external memory is lost (R409). [DEDUCED, log 17] -/
def State.performStore (s : State) (k : CoreId) (b : BufStore) : State :=
  let a := globalAddr k b.addr.toNat
  let bs := leBytes b.size b.data.toNat
  let s := s.crcCoreStore k a bs
  if inRegs a then s.regWrite (.core k) a b.data
  else if inMram a then s.mramIssue (a / 4 * 4) (bs.zipIdx.map fun p => (a + p.2, p.1)) (.core k)
  else if inExt a then (s.extWrite a bs).1
  else match itcmCore a with
    | some j => s.writeItcm (.core k) j a bs
    | none => s.portWrite true a bs

/-- The oldest buffered store leaves the buffer, unless an earlier one is still on its way into MRAM. [DESIGN CHOICE, log 14] -/
def State.drainOne (s : State) (k : CoreId) : State :=
  match s.cores[k].storeBuf with
  | [] => s
  | b :: rest =>
    if s.mramBusy k then s else (s.modCore k fun c => { c with storeBuf := rest }).performStore k b

/-- Drain up to `n` stores. -/
def State.drainN (k : CoreId) : Nat → State → State
  | 0, s => s
  | n + 1, s => State.drainN k n (s.drainOne k)

/-- Drain what can be drained. -/
def State.drainAll (s : State) (k : CoreId) : State := State.drainN k s.cores[k].storeBuf.length s

/-- Every store of the core is visible. [DEDUCED, log 15] -/
def State.storesVisible (s : State) (k : CoreId) : Bool := s.cores[k].storeBuf.isEmpty && !s.mramBusy k

/-- Issue an instruction that begins only after every earlier store has become visible (R363, R364): the buffer drains, and until it has
the core stays at the instruction. [DESIGN CHOICE, log 14; DEDUCED, log 15] -/
def State.issueOrdered (s : State) (k : CoreId) (f : State → State) : Out :=
  s.issue k fun s =>
    let s := s.drainAll k
    if s.coreReady k && s.storesVisible k then f s else s

/-- A store instruction (R343, R348, R362): it enters the buffer of four; with the buffer full one leaves first, or the core stays at the
instruction. [DESIGN CHOICE, log 14; DEDUCED, log 17] -/
def State.store (s : State) (k : CoreId) (a : Word) (size : Nat) (data : Word) : State :=
  if a.toNat % size ≠ 0 then s.coreFault k Cause.align a
  else if !storable k (globalAddr k a.toNat) size then s.coreFault k Cause.access a
  else
    let s := if 4 ≤ s.cores[k].storeBuf.length then s.drainOne k else s
    if s.coreReady k && decide (s.cores[k].storeBuf.length < 4) then
      (s.modCore k fun c => { c with storeBuf := c.storeBuf ++ [⟨a, size, data⟩] }).retire k
    else s

/-- The byte at global address `x` as core k's own stores not yet visible leave it, the latest first (R362). -/
def State.ownByte (s : State) (k : CoreId) (x : Nat) : Option Byte :=
  let buf := s.cores[k].storeBuf.reverse.findSome? fun b =>
    let a := globalAddr k b.addr.toNat
    if a ≤ x ∧ x < a + b.size then (leBytes b.size b.data.toNat)[x - a]? else none
  match buf with
  | some v => some v
  | none => s.memu.mramPend.reverse.findSome? fun w => if w.writer = .core k then kget? w.bytes x else none

/-- A byte of SRAM, TCM, MRAM or boot ROM as a core's load returns it (R309, R340): banks 52-63 return zero, and the layout of the event
queues in banks 50-51 is the device's own. -/
def State.coreByte (s : State) (a i : Nat) : Byte :=
  if a < 0x20000 then Config.romByte a
  else if bankBase 50 ≤ a ∧ a < bankBase 52 then BitVec.ofNat 8 ((Config.freeValue 32 s.freeCtr).toNat / 2 ^ (8 * i))
  else if bankBase 52 ≤ a ∧ a < bankBase 64 then 0
  else if inMram a then s.byte a
  else s.sramByte a

/-- A load reads the banks of the event queues. [DESIGN CHOICE, log 12] -/
def inQueues (a : Nat) : Bool := decide (bankBase 50 ≤ a ∧ a < bankBase 52)

/-- What a load returns outside the registers; `none` is an error response (R366). [DESIGN CHOICE, log 12; DESIGN CHOICE, log 14] -/
def State.coreLoad (s : State) (k : CoreId) (a size : Nat) : State × Option Nat :=
  let own := fun (s : State) (bs : List Byte) => leNat (bs.zipIdx.map fun p => (s.ownByte k (a + p.2)).getD p.1)
  if inExt a then
    let (s, r) := s.extRead a size
    (s, r.map (own s))
  else
    let (s, bs) := if inShared a then s.portRead true a size else (s, (List.range size).map fun i => s.coreByte (a + i) i)
    (if inQueues a then s.drawn 1 else s, some (own s bs))

/-- What a loaded value of a size becomes in a register (R346). -/
def PendLoad.value (l : PendLoad) (v : Nat) : Word := if l.signed then BitVec.ofNat 32 (toTwos 32 (signedOf (8 * l.size) v)) else BitVec.ofNat 32 v

/-- A load instruction (R340, R343, R348): from the core's own DTCM it completes at once, else the core stalls until the data returns. -/
def State.load (s : State) (k : CoreId) (l : PendLoad) : State :=
  let a := globalAddr k l.addr.toNat
  if l.addr.toNat % l.size ≠ 0 then s.coreFault k Cause.align l.addr
  else if !s.loadable k a l.size then s.coreFault k Cause.access l.addr
  else if ownDtcm k a then
    match s.coreLoad k a l.size with
    | (s, some v) => s.finish k l.rd (l.value v)
    | (s, none) => s.coreFault k Cause.bus l.addr
  else s.modCore k fun c => { c with load := some l }

/-- The data of a load returns. A register is read only after every earlier store has taken effect (R362). [DESIGN CHOICE, log 14] -/
def State.endLoad (s : State) (k : CoreId) (l : PendLoad) : State :=
  let a := globalAddr k l.addr.toNat
  let land := fun (s : State) (v : Word) => (s.modCore k fun c => { c with load := none }).finish k l.rd v
  if inRegs a then
    let s := s.drainAll k
    if s.storesVisible k then let r := s.regRead a; land r.1 r.2 else s
  else
    match s.coreLoad k a l.size with
    | (s, some v) => land s (l.value v)
    | (s, none) => s.coreFault k Cause.bus l.addr

end Sys2Proof.Machine
end

