-- ==== Sys2Proof/Machine/HostAccess.lean ====
section
/-! DEFINITION. The host's reach into the device: BAR2 (R501, R502), the SPI slave (R503, R504) and the JTAG port (R442). -/

namespace Sys2Proof.Machine

/-! ### What the host reaches (R501, R521) -/

/-- A host write of bytes of one word outside the register region: banks 20-35, through port B, and TCMs take it, MRAM is read only, other
addresses discard it. -/
def State.hostMemWord (s : State) (a : Nat) (bs : List Byte) : State :=
  if inShared a then s.portWord false a bs
  else if inDtcm a then s.setSramBytes a bs
  else if inMram a then s.flag F.MEM_FLAGS_MRAM_WP
  else match itcmCore a with
    | some k => s.writeItcm .host k a bs
    | none => s

def State.hostMemWrite (s : State) (a : Nat) (bs : List Byte) : State :=
  (wordRuns bs.length a bs).foldl (fun (s : State) (r : Nat × List Byte) => s.hostMemWord r.1 r.2) s

/-- Bytes as the host reads them outside the register region, banks 20-35 through port B and MRAM with the errors listed (R402); what it does not
reach reads zero. -/
def State.hostRead (s : State) (a n : Nat) (errs : List (Word × ScrubOutcome)) : State × List Byte :=
  let (s, lost) := s.mramReads errs a n
  let (s, bs) := s.portBytes false a n
  (s, zeroLost lost a bs)

/-- Where a BAR2 offset leads, for offsets that lead anywhere. -/
def bar2Addr (off : Nat) : Option Nat :=
  if off < 0x100000 then some (bankBase 20 + off)
  else if off < 0x200000 then some (tcmBase + (off - 0x100000))
  else if 0x1000000 ≤ off ∧ off < 0x2000000 then some (mramBase + (off - 0x1000000))
  else none

/-- BAR2_WRITE: there is no BAR2 in SPI mode. [DEDUCED, log 56] -/
def execBar2Write (off : Word) (data : List Byte) (s : State) : Out :=
  if s.sys.straps.hostSel || s.busOff then .next s
  else
    .next ((wordRuns data.length off.toNat data).foldl (fun (s : State) (r : Nat × List Byte) =>
      match bar2Addr r.1 with
      | some a => s.hostMemWord a r.2
      | none => s) s)

/-- The addresses of BAR0 (R501). -/
def inBar0 (a : Nat) : Bool := decide (regBase ≤ a ∧ a < regBase + 0x1000000)

/-- A word read by the host (R501, R502): in BAR0 a request that is not one aligned word is answered with ones and BAD_ACC, and ranges without a block
read zero (R522); elsewhere BAR2's reach, which takes any alignment. [DEDUCED, log 24] -/
def State.hostWord (s : State) (a : Nat) (mram : List (Word × ScrubOutcome)) : State × Word :=
  if inBar0 a then
    if a % 4 ≠ 0 then (s.hifFlag F.HIF_FLAGS_BAD_ACC, 0xFFFFFFFF) else if inRegs a then s.regRead a else (s, 0)
  else
    let r := s.hostRead a 4 mram
    (r.1, BitVec.ofNat 32 (leNat r.2))

/-- REG_LO_READ: the host reads a word, `busOut` taking its value; of a _LO register it latches the partner. [DEDUCED, log 25] -/
def execRegLoRead (addr : Word) (mram : List (Word × ScrubOutcome)) (s : State) : Out :=
  if s.busOff then .next s
  else
    let r := s.hostWord addr.toNat mram
    .next { r.1 with busOut := r.2 }

/-! ### SPI -/

/-- Whole words written to the register region from `a` up. A partial word is discarded with SPI_ERR. -/
def State.spiRegs (s : State) (a : Nat) : List Byte → State
  | b0 :: b1 :: b2 :: b3 :: rest =>
    State.spiRegs (if inRegs a then s.regWrite .host a (BitVec.ofNat 32 (leNat [b0, b1, b2, b3])) else s) (a + 4) rest
  | [] => s
  | _ => s.hifFlag F.HIF_FLAGS_SPI_ERR

/-- SPI_WRITE (R503, R504): a transaction that does not start on a word boundary of the register region is discarded with SPI_ERR. [DESIGN CHOICE, log 55; DEDUCED, log 56] -/
def execSpiWrite (addr : Word) (data : List Byte) (s : State) : Out :=
  let a := addr.toNat
  if !s.sys.straps.hostSel || s.busOff then .next s
  else if !inRegs a then .next (s.hostMemWrite a data)
  else if a % 4 ≠ 0 then .next (s.hifFlag F.HIF_FLAGS_SPI_ERR)
  else .next (s.spiRegs a data)

/-- Read `n` registers from `a` up. -/
def State.spiReadRegs : Nat → State → Nat → State × List Byte
  | 0, s, _ => (s, [])
  | n + 1, s, a =>
    let r := if inRegs a then s.regRead a else (s, 0)
    let q := State.spiReadRegs n r.1 (a + 4)
    (q.1, leBytes 4 r.2.toNat ++ q.2)

/-- The data of an SPI READ: `n` bytes from `a`. In the register region only whole words are read, the bytes of a partial word are what the
register shows, and a transaction that does not start and end on a word boundary sets SPI_ERR (R504). [DESIGN CHOICE, log 55] -/
def State.spiData (s : State) (a n : Nat) (mram : List (Word × ScrubOutcome)) : State × List Byte :=
  if !inRegs a then s.hostRead a n mram
  else if a % 4 ≠ 0 then (s.hifFlag F.HIF_FLAGS_SPI_ERR, zeros n)
  else
    let r := State.spiReadRegs (n / 4) s a
    if n % 4 = 0 then r
    else (r.1.hifFlag F.HIF_FLAGS_SPI_ERR, r.2 ++ (State.spiReadRegs 1 r.1 (a + n / 4 * 4)).2.take (n % 4))

/-- SPI_READ (R503, R504): `len` bytes returned after the address; `waits` wait bytes of 0x00, at least one, then 0xA5 and the data. With 0xA5 not
sent after 32 wait bytes the rest is 0xEE, with SPI_ERR. [DESIGN CHOICE, log 55] -/
def execSpiRead (addr : Word) (waits len : Nat) (mram : List (Word × ScrubOutcome)) (s : State) : Out :=
  if !s.sys.straps.hostSel || s.busOff then .next s
  else
    let w := max 1 waits
    if 32 < w then
      let s := if 32 < len then s.hifFlag F.HIF_FLAGS_SPI_ERR else s
      .next { s with spiOut := (zeros 32 ++ List.replicate (len - 32) 0xEE).take len }
    else if len ≤ w + 1 then .next { s with spiOut := (zeros w ++ [0xA5]).take len }
    else
      let r := s.spiData addr.toNat (len - w - 1) mram
      .next { r.1 with spiOut := zeros w ++ [0xA5] ++ r.2 }

/-- INT_N is driven low (R519). -/
def State.intAsserted (s : State) : Bool := s.sys.straps.hostSel && (s.reg R.HIF_ISR &&& s.reg R.HIF_IER) != 0

/-- The opcodes of R503. -/
def spiOpcodes : List Byte := [0x02, 0x0B, 0x05]

/-- SPI_STATUS (R503): the byte of STATUS; a WRITE or READ that ends with its opcode does nothing, and an unknown opcode sets SPI_ERR (R504). [DESIGN CHOICE, log 55] -/
def execSpiStatus (opcode : Byte) (s : State) : Out :=
  if !s.sys.straps.hostSel || s.busOff then .next s
  else if opcode != 0x05 then .next (if spiOpcodes.contains opcode then s else s.hifFlag F.HIF_FLAGS_SPI_ERR)
  else
    let v := s.intAsserted.toNat + 2 * (s.on F.HIF_BOOT_READY).toNat + 4 * (s.on F.HIF_FLAGS_SPI_ERR).toNat
    .next { s with spiOut := [BitVec.ofNat 8 v] }

/-! ### JTAG (R442) -/

/-- An access under a scope (0 cores, 1 memory, 2 boundary scan) is open. -/
def State.debugOpen (s : State) (scope : Nat) : Bool :=
  match s.otp.lc with
  | .maker | .returned => true
  | .provisioned => s.sec.scopes.getLsbD scope
  | .deployed | .ended => false

/-- Memory the debug port reaches by address: TCMs under core debug, the rest under memory access; never banks 52-63. [DESIGN CHOICE, log 55] -/
def State.debugReaches (s : State) (a : Nat) : Bool :=
  if inDtcm a || (itcmCore a).isSome then s.debugOpen 0
  else s.debugOpen 1 && (decide (a < 0x20000) || decide (sramBase ≤ a ∧ a < bankBase 52) || inMram a || inExt a)

/-- Banks whose contents and layout are the device's own: the TCMs' storage, line buffers, DSP storage, event queues (R387). [DESIGN CHOICE, log 12] -/
def inWorking (a : Nat) : Bool := decide (bankBase 8 ≤ a ∧ a < bankBase 20) || decide (bankBase 36 ≤ a ∧ a < bankBase 52)

/-- A word read by the debug port; external memory in error (R409) and an MRAM word that cannot be corrected (R402) read zero. [DESIGN CHOICE, log 12; DESIGN CHOICE, log 55] -/
def State.debugRead (s : State) (a : Nat) (mram : ScrubOutcome) : State × Word :=
  if !s.debugReaches a then (s, 0)
  else if inWorking a then (s.drawn 1, Config.freeValue 32 s.freeCtr)
  else if inExt a then
    let r := s.extRead a 4
    (r.1, match r.2 with | some bs => BitVec.ofNat 32 (leNat bs) | none => 0)
  else
    let r := if inMram a then s.mramRead a mram else (s, true)
    (r.1, if r.2 then BitVec.ofNat 32 (leNat ((List.range 4).map fun i => s.coreByte (a + i) i)) else 0)

/-- A word written by the debug port. MRAM refuses it (R400), the boot ROM is read only. [DESIGN CHOICE, log 55] -/
def State.debugWrite (s : State) (a : Nat) (v : Word) : State :=
  let bs := leBytes 4 v.toNat
  if !s.debugReaches a || inWorking a || decide (a < 0x20000) then s
  else if inMram a then s.flag F.MEM_FLAGS_MRAM_WP
  else if inExt a then (s.extWrite a bs).1
  else match itcmCore a with
    | some k => (match s.cores[k].run with
      | .stopped | .halted => s.setSramBytes a bs
      | _ => s.flag F.OCC_FLAGS_ITCM_WP)
    | none => s.setSramBytes a bs

/-- Core k stands still, so that the debug port may reach its registers. -/
def State.coreStill (s : State) (k : CoreId) : Bool :=
  match s.cores[k].run with
  | .stopped | .halted => true
  | _ => false

/-- DEBUG_ACCESS: performed where R442's table has it open, refused without effect elsewhere. [DESIGN CHOICE, log 55] -/
def execDebugAccess (kind : DebugKind) (s : State) : Out :=
  match kind with
  | .boundaryScan => .next s
  | .coreHalt k => .next (if s.debugOpen 0 then s.stopCore k else s)
  | .coreStep k =>
    .next (if s.debugOpen 0 && s.cores[k].run == .stopped then s.modCore k fun c => { c with run := .running, stepping := true } else s)
  | .regRead k r => .next (if s.debugOpen 0 && s.coreStill k then { s with busOut := s.g k r } else s)
  | .regWrite k r v => .next (if s.debugOpen 0 && s.coreStill k then s.setG k r v else s)
  | .pcRead k => .next (if s.debugOpen 0 && s.coreStill k then { s with busOut := s.cores[k].pc } else s)
  | .pcWrite k v => .next (if s.debugOpen 0 && s.coreStill k then s.modCore k fun c => { c with pc := v &&& 0xFFFFFFFC } else s)
  | .memRead addr mram =>
    if addr.toNat % 4 = 0 then
      let r := s.debugRead addr.toNat mram
      .next { r.1 with busOut := r.2 }
    else .next s
  | .memWrite addr v => .next (if addr.toNat % 4 = 0 then s.debugWrite addr.toNat v else s)

end Sys2Proof.Machine
end

