-- ==== Sys2Proof/Machine/IsaAlu.lean ====
section
/-! DEFINITION. Orrery instructions on registers alone: arithmetic, shifts, bit fields, immediates and control transfer (R345-R348). -/

namespace Sys2Proof.Machine

/-- The low five bits of a shift count (R346). -/
def shamt (y : Word) : Nat := (y &&& 31).toNat

/-- Leading zeros of a word, 0 to 32. -/
def clz32 (x : Word) : Nat := ((List.range 32).find? fun i => x.getLsbD (31 - i)).getD 32

/-- Ones in a word. -/
def popc32 (x : Word) : Nat := ((List.range 32).filter fun i => x.getLsbD i).length

/-- Bits lsb+w-1:lsb of a word, zero- or sign-extended (R347). -/
def bitField (x : Word) (signed : Bool) (lsb w : Nat) : Word :=
  if signed then (x <<< (32 - lsb - w)).sshiftRight (32 - w) else (x <<< (32 - lsb - w)) >>> (32 - w)

/-- `old` with its bits lsb+w-1:lsb replaced by the low bits of `x` (R347). -/
def insertField (old x : Word) (lsb w : Nat) : Word := putBits old (lsb + w - 1) lsb (x.toNat % 2 ^ w)

/-- rd takes a function of ra and rb. -/
def State.aluRR (s : State) (k : CoreId) (rd ra rb : GReg) (f : Word → Word → Word) : Out :=
  s.issue k fun s => s.finish k rd (f (s.g k ra) (s.g k rb))

/-- rd takes a function of ra. -/
def State.aluR (s : State) (k : CoreId) (rd ra : GReg) (f : Word → Word) : Out :=
  s.issue k fun s => s.finish k rd (f (s.g k ra))

/-- A conditional branch: taken, to its own address plus 4 times the sign-extended offset (R348). -/
def State.branch (s : State) (k : CoreId) (ra rb : GReg) (off : BitVec 16) (p : Word → Word → Bool) : Out :=
  s.issue k fun s =>
    let pc := s.cores[k].pc
    s.retireTo k (if p (s.g k ra) (s.g k rb) then pc + (off.signExtend 32 <<< 2) else pc + 4)

/-- ADD (R346). -/
def execAdd (k : CoreId) (rd ra rb : GReg) (s : State) : Out := s.aluRR k rd ra rb fun x y => x + y

/-- SUB (R346). -/
def execSub (k : CoreId) (rd ra rb : GReg) (s : State) : Out := s.aluRR k rd ra rb fun x y => x - y

/-- AND (R346). -/
def execAnd (k : CoreId) (rd ra rb : GReg) (s : State) : Out := s.aluRR k rd ra rb fun x y => x &&& y

/-- OR (R346). -/
def execOr (k : CoreId) (rd ra rb : GReg) (s : State) : Out := s.aluRR k rd ra rb fun x y => x ||| y

/-- XOR (R346). -/
def execXor (k : CoreId) (rd ra rb : GReg) (s : State) : Out := s.aluRR k rd ra rb fun x y => x ^^^ y

/-- SLL (R346). -/
def execSll (k : CoreId) (rd ra rb : GReg) (s : State) : Out := s.aluRR k rd ra rb fun x y => x <<< shamt y

/-- SRL (R346). -/
def execSrl (k : CoreId) (rd ra rb : GReg) (s : State) : Out := s.aluRR k rd ra rb fun x y => x >>> shamt y

/-- SRA (R346). -/
def execSra (k : CoreId) (rd ra rb : GReg) (s : State) : Out := s.aluRR k rd ra rb fun x y => x.sshiftRight (shamt y)

/-- MUL (R346). -/
def execMul (k : CoreId) (rd ra rb : GReg) (s : State) : Out := s.aluRR k rd ra rb fun x y => x * y

/-- MULH (R346). -/
def execMulh (k : CoreId) (rd ra rb : GReg) (s : State) : Out := s.aluRR k rd ra rb fun x y => ((x.signExtend 64 * y.signExtend 64) >>> 32).setWidth 32

/-- MIN (R346). -/
def execMin (k : CoreId) (rd ra rb : GReg) (s : State) : Out := s.aluRR k rd ra rb fun x y => if x.slt y then x else y

/-- MAX (R346). -/
def execMax (k : CoreId) (rd ra rb : GReg) (s : State) : Out := s.aluRR k rd ra rb fun x y => if x.slt y then y else x

/-- CLZ (R346). -/
def execClz (k : CoreId) (rd ra : GReg) (s : State) : Out := s.aluR k rd ra fun x => BitVec.ofNat 32 (clz32 x)

/-- POPC (R346). -/
def execPopc (k : CoreId) (rd ra : GReg) (s : State) : Out := s.aluR k rd ra fun x => BitVec.ofNat 32 (popc32 x)

/-- BFX (R347): lsb + w over 32 is illegal. -/
def execBfx (k : CoreId) (rd ra : GReg) (signed : Bool) (lsb width : Nat) (s : State) : Out :=
  if width = 0 ∨ 32 < lsb + width then s.issue k fun s => s.coreFault k Cause.illegal 0
  else s.aluR k rd ra fun x => bitField x signed lsb width

/-- BFI (R347): lsb + w over 32 is illegal; the other bits of rd are kept. -/
def execBfi (k : CoreId) (rd ra : GReg) (lsb width : Nat) (s : State) : Out :=
  if width = 0 ∨ 32 < lsb + width then s.issue k fun s => s.coreFault k Cause.illegal 0
  else s.issue k fun s => s.finish k rd (insertField (s.g k rd) (s.g k ra) lsb width)

/-- ADDI (R346). -/
def execAddi (k : CoreId) (rd ra : GReg) (imm : BitVec 16) (s : State) : Out := s.aluR k rd ra fun x => x + imm.signExtend 32

/-- ANDI (R346). -/
def execAndi (k : CoreId) (rd ra : GReg) (imm : BitVec 16) (s : State) : Out := s.aluR k rd ra fun x => x &&& imm.setWidth 32

/-- ORI (R346). -/
def execOri (k : CoreId) (rd ra : GReg) (imm : BitVec 16) (s : State) : Out := s.aluR k rd ra fun x => x ||| imm.setWidth 32

/-- XORI (R346). -/
def execXori (k : CoreId) (rd ra : GReg) (imm : BitVec 16) (s : State) : Out := s.aluR k rd ra fun x => x ^^^ imm.setWidth 32

/-- SLLI (R346). -/
def execSlli (k : CoreId) (rd ra : GReg) (sh : BitVec 5) (s : State) : Out := s.aluR k rd ra fun x => x <<< sh.toNat

/-- SRLI (R346). -/
def execSrli (k : CoreId) (rd ra : GReg) (sh : BitVec 5) (s : State) : Out := s.aluR k rd ra fun x => x >>> sh.toNat

/-- SRAI (R346). -/
def execSrai (k : CoreId) (rd ra : GReg) (sh : BitVec 5) (s : State) : Out := s.aluR k rd ra fun x => x.sshiftRight sh.toNat

/-- LUI (R346). -/
def execLui (k : CoreId) (rd : GReg) (imm : BitVec 16) (s : State) : Out :=
  s.issue k fun s => s.finish k rd (imm.setWidth 32 <<< 16)

/-- BEQ (R346, R348). -/
def execBeq (k : CoreId) (ra rb : GReg) (off : BitVec 16) (s : State) : Out := s.branch k ra rb off fun x y => x == y

/-- BNE (R346, R348). -/
def execBne (k : CoreId) (ra rb : GReg) (off : BitVec 16) (s : State) : Out := s.branch k ra rb off fun x y => x != y

/-- BLT (R346, R348). -/
def execBlt (k : CoreId) (ra rb : GReg) (off : BitVec 16) (s : State) : Out := s.branch k ra rb off fun x y => x.slt y

/-- BGE (R346, R348). -/
def execBge (k : CoreId) (ra rb : GReg) (off : BitVec 16) (s : State) : Out := s.branch k ra rb off fun x y => !x.slt y

/-- BLTU (R346, R348). -/
def execBltu (k : CoreId) (ra rb : GReg) (off : BitVec 16) (s : State) : Out := s.branch k ra rb off fun x y => x.ult y

/-- BGEU (R346, R348). -/
def execBgeu (k : CoreId) (ra rb : GReg) (off : BitVec 16) (s : State) : Out := s.branch k ra rb off fun x y => !x.ult y

/-- JAL (R339, R348): the return address goes to g30. -/
def execJal (k : CoreId) (off : BitVec 26) (s : State) : Out :=
  s.issue k fun s =>
    let pc := s.cores[k].pc
    (s.setG k 30 (pc + 4)).retireTo k (pc + (off.signExtend 32 <<< 2))

/-- JALR (R346): the target is taken from ra before rd is written. -/
def execJalr (k : CoreId) (rd ra : GReg) (imm : BitVec 16) (s : State) : Out :=
  s.issue k fun s =>
    let pc := s.cores[k].pc
    let t := (s.g k ra + imm.signExtend 32) &&& 0xFFFFFFFC
    (s.setG k rd (pc + 4)).retireTo k t

end Sys2Proof.Machine
end

