-- ==== Sys2Proof/Machine/Submit.lean ====
section
/-! DEFINITION. Submission rings: fetching an entry, validating it and placing it in the timed-action queue or the deferred store (R506, R512-R514,
R254, R33). -/

namespace Sys2Proof.Machine

/-- The lot set and the payload's neighbour mask of a frame sent to an address at t: without a record there is no neighbour mask. [DEDUCED, log 33] -/
def State.toward (s : State) (a : Word) (plan : Nat) (lots : List Nat) (t : Int) : State × List Nat × Option (List Byte) :=
  match s.pageInNow a with
  | (s, some i) =>
    let ls := s.neighbourLots i plan lots
    (s, ls, s.sentMask i t)
  | (s, none) => (s, lots, none)

/-- A submission ring that may fetch now: enabled, without error, with entries submitted and not yet fetched. -/
def State.mayFetch (s : State) (r : Fin 8) : Bool :=
  decide (4 ≤ r.val) && s.ringOn r && !s.ringErr r && s.fld (F.HIF_RINGr_TAIL_COUNT r) != s.fld (F.HIF_RINGr_AUX_COUNT r)

/-- The entry a ring would fetch next, counted since the ring was enabled, and the address it lies at. -/
def State.nextEntry (s : State) (r : Fin 8) : Nat := s.hif.rings[r].idx

/-- A place is free for an entry of this MODE (R512). -/
def State.placeFor (s : State) (mode : Nat) : Bool :=
  if mode = 2 then decide (s.mac.store.length < 1024)
  else if mode = 3 then true
  else (s.freeEntry 126 130).isSome

/-- A ring whose next entry need not wait. -/
def State.fetches (s : State) (r : Fin 8) : Bool :=
  s.mayFetch r && match (s.dmaRead (s.entryAddr r (s.nextEntry r)) 64).2 with
    | some b => s.placeFor (parseSub b).mode
    | none => true

/-- The submission ring whose turn it is: the rings are served in rotation. [DEDUCED, log 43] -/
def State.fetchTurn (s : State) : Option (Fin 8) :=
  let l := s.hif.lastRing
  let order : List (Fin 8) := [4, 5, 6, 7]
  ((order.filter fun r => decide (l < r.val)) ++ order.filter fun r => decide (r.val ≤ l)).find? fun r => s.fetches r

/-- The time of an action (R514): TIME, or the first symbol boundary of the superframe grid at least 500 us from now. -/
def State.actionTime (s : State) (d : SubDesc) : Nat :=
  if d.mode = 0 then d.time
  else
    let a := s.now + usDticks 500
    s.mac.cur.start + (a - s.mac.cur.start + symDticks - 1) / symDticks * symDticks

/-- A fetched entry completes without being sent. -/
def State.refuseEntry (s : State) (r : Fin 8) (n : Nat) (st : CStatus) (reason ackres : Nat) : State :=
  s.completeEntry r n ⟨st, reason, ackres, 0, 0, 0⟩

/-- An entry of MODE 0 or 1 becomes a timed action (R514). [DEDUCED, log 43] -/
def State.placeTimed (s : State) (r : Fin 8) (n : Nat) (d : SubDesc) (payloadOk : Bool) : State :=
  let noAck := if d.ackreq then 2 else 0
  if h : d.port < 6 then
    let port : Port := ⟨d.port, h⟩
    let p := s.txPort port
    let t := s.actionTime d
    let (s, lots, mask) := s.toward (netAddr s.domain d.dst) (s.plan p) (lotsOf d.lots) t
    if lots.isEmpty then s.refuseEntry r n .badDesc 0 0
    else if !payloadOk then (s.hifFlag F.HIF_FLAGS_DMA_ERR).refuseEntry r n .bufErr 0 0
    else match s.readEntry r n d with
      | (s, .bufErr) => s.refuseEntry r n .bufErr 0 0
      | (s, .hostTag) => s.refuseEntry r n .hostTag 0 0
      | (s, .ok bs) =>
        if !s.fldBit F.TXP_CTL_PORT_EN p then (s.tally 6).refuseEntry r n .dropped Drop.mode noAck
        else if s.tooLate t then
          ((s.tally 6).raise Ev.TX_LATE Src.macQueue (BitVec.ofNat 32 (s.entryAddr r n)) 0).refuseEntry r n .dropped Drop.txLate noAck
        else match s.freeEntry 126 130 with
          | none => s
          | some i => (s.addOp i (s.frameOp d (.host r n) port lots d.mc d.e mask t none bs)).1
  else s.refuseEntry r n .badDesc 0 0

/-- An entry of MODE 2 enters the deferred store for the stall of its DST (R254). [DEDUCED, log 43] -/
def State.placeDeferred (s : State) (r : Fin 8) (n : Nat) (d : SubDesc) : State :=
  let a := netAddr s.domain d.dst
  match s.recordOf a with
  | (s, some (_, true)) =>
    let x : Deferred := ⟨s.mac.nextNo, r, n, d, a, 0, none, 0, false⟩
    (s.modMac fun m => { m with store := m.store ++ [x], nextNo := m.nextNo + 1 }).refreshPend a
  | (s, _) => s.refuseEntry r n .badDesc 0 0

/-- Entry n of a ring is fetched: FETCH counts it, and it is placed or completed. -/
def State.takeEntry (s : State) (r : Fin 8) (n : Nat) (d : SubDesc) (payloadOk : Bool) : State :=
  let s := s.modRing r fun q => { q with subs := q.subs ++ [⟨n, false, d.irq⟩], idx := q.idx + 1 }
  let s := { s with hif := { s.hif with lastRing := r.val } }
  let s := s.setFld (F.HIF_RINGr_AUX_COUNT r) (s.fld (F.HIF_RINGr_AUX_COUNT r) + 1)
  if d.mode = 3 || s.descBad d (d.mode == 2) then s.refuseEntry r n .badDesc 0 0
  else if d.mode = 2 then s.placeDeferred r n d
  else s.placeTimed r n d payloadOk

/-- SUBMISSION_FETCH: the ring whose turn it is fetches one entry. `descOk` and `payloadOk` say whether the host's side of the descriptor
and payload reads succeeds (R517). [DEDUCED, log 43] -/
def execSubmissionFetch (ring : Fin 8) (descOk payloadOk : Bool) (s : State) : Out :=
  if s.fetchTurn ≠ some ring then .next s
  else if !descOk then .next (s.ringFail ring)
  else
    let n := s.nextEntry ring
    match s.dmaRead (s.entryAddr ring n) 64 with
    | (s, none) => .next (s.ringFail ring)
    | (s, some b) => .next (s.takeEntry ring n (parseSub b) payloadOk)

end Sys2Proof.Machine
end

