-- ==== Sys2Proof/Machine/IsaDev.lean ====
section
/-! DEFINITION. Orrery instructions that act on other units: the timed-action queue (R260-R263, R353), ledger fields and stall locks
(R354-R357), cipher jobs and check values (R359, R360). -/

namespace Sys2Proof.Machine

/-! ### Timed actions -/

namespace Tq
def full : Nat := 1
def late : Nat := 2
def invalid : Nat := 3
end Tq

/-- TQADD's refusal word. [DEDUCED, log 18] -/
def tqRefused (code : Nat) : Word := BitVec.ofNat 32 (2 ^ 31 + code)

/-- TQADD's handle for entry i as it now stands (R261). -/
def State.handle (s : State) (i : Nat) : Word := BitVec.ofNat 32 (i + 256 * s.genOf i)

/-- The action descriptor of R260. -/
structure ActionDesc where
  time  : Nat
  kind  : Nat
  port  : Nat
  gated : Bool
  rxid  : Rxid
  mask  : BitVec 8
  arg   : Byte
  ptr   : Nat
deriving DecidableEq, Repr

def parseAction (v : Nat) : ActionDesc :=
  { time := v % 2 ^ 64, kind := natBits v 67 64, port := natBits v 70 68, gated := v.testBit 71, rxid := BitVec.ofNat 8 (natBits v 79 72)
    mask := BitVec.ofNat 8 (natBits v 87 80), arg := BitVec.ofNat 8 (natBits v 95 88), ptr := natBits v 127 96 }

/-- [DEDUCED, log 18] -/
def ActionDesc.gate (d : ActionDesc) : Option Rxid := if d.gated then some d.rxid else none

/-- A gate names a reception in flight. -/
def State.gateOk (s : State) (d : ActionDesc) : Bool := !d.gated || s.dmd.used.contains d.rxid

/-- FULL: TQ_FULL at most once per 1 ms. -/
def State.tqFull (s : State) : State :=
  (s.flag F.MAC_FLAGS_TQ_FULL).raiseLimited Lim.tqFull (usDticks 1000) Ev.TQ_FULL Src.macQueue 0 0

/-- An EVENT action enters the queue. -/
def State.addEvent (s : State) (k : CoreId) (d : ActionDesc) : State × Word :=
  match s.freeEntry 126 130 with
  | none => (s.tqFull, tqRefused Tq.full)
  | some i =>
    let s := s.newGen i
    (s.modMac fun m => { m with events := m.events ++ [⟨i, d.time, k, d.mask, d.arg, d.gate⟩] }, s.handle i)

/-- A TX action enters the queue: its transmit descriptor and payload are read now (R513). The port is the action's. -/
def State.addTx (s : State) (k : CoreId) (d : ActionDesc) : State × Word :=
  match s.unitRead d.ptr 64 with
  | (s, none) => (s, tqRefused Tq.invalid)
  | (s, some b) =>
    let x : SubDesc := { parseSub b with port := d.port }
    if s.descBad x false then (s, tqRefused Tq.invalid)
    else if h : d.port < 6 then
      let port : Port := ⟨d.port, h⟩
      let p := s.txPort port
      let (s, lots, mask) := s.toward (netAddr s.domain x.dst) (s.plan p) (lotsOf x.lots) d.time
      if lots.isEmpty || !s.fldBit F.TXP_CTL_PORT_EN p then (s, tqRefused Tq.invalid)
      else match s.readPlain x with
        | (s, .ok bs) =>
          if s.tooLate d.time then
            ((s.tally 6).raise Ev.TX_LATE Src.macQueue (BitVec.ofNat 32 d.ptr) 0, tqRefused Tq.late)
          else match s.freeEntry 126 130 with
            | none => (s.tqFull, tqRefused Tq.full)
            | some i =>
              let o := s.frameOp x (.core k (BitVec.ofNat 32 d.ptr)) port lots x.mc x.e mask d.time d.gate bs
              let s := (s.addOp i o).1
              (s, s.handle i)
        | (s, _) => (s, tqRefused Tq.invalid)
    else (s, tqRefused Tq.invalid)

/-- A descriptor that a core names must lie where the core may load. -/
def State.descLoadable (s : State) (k : CoreId) (a n : Nat) : Bool := s.loadable k a 1 && s.loadable k (a + n - 1) 1

/-- TQADD (R261, R353, R363). [DEDUCED, log 18] -/
def execTqadd (k : CoreId) (rd ra : GReg) (s : State) : Out :=
  s.issueOrdered k fun s =>
    let a := s.g k ra
    let g := globalAddr k a.toNat
    if a.toNat % 4 ≠ 0 then s.coreFault k Cause.align a
    else if !s.descLoadable k g 16 then s.coreFault k Cause.access a
    else match s.coreLoad k g 16 with
      | (s, none) => s.coreFault k Cause.bus a
      | (s, some v) =>
        let d := parseAction v
        let r :=
          if !s.gateOk d then (s, tqRefused Tq.invalid)
          else if d.kind = 1 then s.addTx k d
          else if d.kind = 2 then s.addEvent k d
          else (s, tqRefused Tq.invalid)
        r.1.finish k rd r.2

/-- Cancel what a handle names (R263). [DEDUCED, log 18] -/
def State.tqCancel (s : State) (i gen : Nat) : State × Nat :=
  if i < 126 ∨ (kget? s.mac.gens i) ≠ some gen then (s, 2)
  else match s.mac.ops.find? fun o => o.inQueue && o.index == i with
    | some o =>
      match o.stage, o.kind with
      | .queued, .core _ _ => (s.cancelOp o, 0)
      | .queued, _ => (s.dropOp o Drop.cancelled, 0)
      | _, _ => (s, 1)
    | none =>
      match s.mac.events.find? fun e => e.index == i with
      | some e =>
        let s := s.modMac fun m => { m with events := m.events.filter fun x => x.index != i }
        (match e.gate with | some id => s.freeRxid id | none => s, 0)
      | none => (s, 1)

/-- TQCAN (R263, R353). [DEDUCED, log 18] -/
def execTqcan (k : CoreId) (rd ra : GReg) (s : State) : Out :=
  s.issue k fun s =>
    let h := (s.g k ra).toNat
    let r := s.tqCancel (h % 256) (h / 256 % 256)
    r.1.finish k rd (BitVec.ofNat 32 r.2)

/-! ### Ledger fields -/

namespace Ls
def ok : Nat := 0
def notFound : Nat := 1
def held : Nat := 2
def limit : Nat := 3
def notLocked : Nat := 4
def badOffset : Nat := 5
end Ls

def State.setLsres (s : State) (k : CoreId) (v : Nat) : State := s.modCore k fun c => { c with lsres := BitVec.ofNat 32 v }

/-- What a core finds for an address: its stall, nothing, or no stall to page it into yet. -/
inductive Found where
  | stall (i : Nat)
  | absent
  | noRoom
deriving DecidableEq, Repr

/-- Find the stall of a core's instruction, paging its record in (R354, R355). [DEDUCED, log 15] -/
def State.coreStall (s : State) (a : Word) : State × Found :=
  if !s.on F.LGR_CTL_EN then (s, .absent)
  else match s.recordOf a with
    | (s, some (_, true)) =>
      match s.pageInNow a with
      | (s, some i) => (s, .stall i)
      | (s, none) => (s, if s.freeStall.isNone && s.victim.isNone then .noRoom else .absent)
    | (s, _) => (s, .absent)

/-- An LSLD or LSST offset is a multiple of 4 up to 124. -/
def offsetOk (imm : BitVec 16) : Bool := imm.toNat % 4 == 0 && decide (imm.toNat ≤ 124)

/-- LSLD (R357). [DEDUCED, log 15; DEDUCED, log 19] -/
def execLsld (k : CoreId) (rd ra : GReg) (imm : BitVec 16) (s : State) : Out :=
  s.issue k fun s =>
    if !offsetOk imm then (s.setLsres k Ls.badOffset).finish k rd 0
    else match s.coreStall (s.g k ra) with
      | (s, .stall i) => (s.setLsres k Ls.ok).finish k rd (BitVec.ofNat 32 (s.stallLe i imm.toNat 4))
      | (s, .absent) => (s.setLsres k Ls.notFound).finish k rd 0
      | (s, .noRoom) => s

/-- The firmware may write byte `o` of a stall (R273). -/
def stallWritable (o : Nat) : Bool := decide (24 ≤ o ∧ o < 83 ∨ 84 ≤ o ∧ o < 104)

/-- Write a word of a stall at an offset, its RO bytes kept (R274). -/
def State.stallStore (s : State) (i o : Nat) (v : Word) : State :=
  let keep := (List.range 4).filter fun j => !stallWritable (o + j)
  let old := s.stallBytes i o 4
  let new := (leBytes 4 v.toNat).zipIdx.map fun p => if stallWritable (o + p.2) then p.1 else old.getD p.2 0
  let s := if keep.length < 4 then s.setStall i o new else s
  if keep.isEmpty then s else s.flag F.LGR_FLAGS_RO_WRITE

/-- The lock core k holds on the stall of an address. -/
def State.lockOf (s : State) (k : CoreId) (a : Word) : Option StallLock := s.cores[k].locks.find? fun l => l.addr == a

/-- LSST (R356, R363). [DEDUCED, log 19] -/
def execLsst (k : CoreId) (rs ra : GReg) (imm : BitVec 16) (s : State) : Out :=
  s.issueOrdered k fun s =>
    if !offsetOk imm then (s.setLsres k Ls.badOffset).retire k
    else if !s.on F.LGR_CTL_EN then (s.setLsres k Ls.notFound).retire k
    else match s.lockOf k (s.g k ra) with
      | some l => (((s.stallStore l.stall.toNat imm.toNat (s.g k rs)).touch l.stall.toNat).setLsres k Ls.ok).retire k
      | none => (s.setLsres k Ls.notLocked).retire k

/-- An LSLOCK ends with a code that refuses it. -/
def State.lockRefused (s : State) (k : CoreId) (code : Nat) : State × Word :=
  (s.setLsres k code, BitVec.ofNat 32 (2 ^ 31 + code))

/-- LSLOCK on a stall found: the answer, or none while a reception holds its commit lock (R355). [DEDUCED, log 19] -/
def State.tryLock (s : State) (k : CoreId) (a : Word) (i : Nat) : Option (State × Word) :=
  let w := BitVec.ofNat 32 i
  if (s.lockOf k a).isSome then some (s.setLsres k Ls.ok, w)
  else if s.coreLocked i then some (s.lockRefused k Ls.held)
  else if 4 ≤ s.cores[k].locks.length then some (s.lockRefused k Ls.limit)
  else if s.commitLocked i || s.lockAsked i then none
  else
    let s := s.modCore k fun c => { c with locks := c.locks ++ [⟨BitVec.ofNat 12 i, a, s.time⟩] }
    some (s.setLsres k Ls.ok, w)

/-- LSLOCK (R355). [DEDUCED, log 15; DEDUCED, log 19] -/
def execLslock (k : CoreId) (rd ra : GReg) (s : State) : Out :=
  s.issue k fun s =>
    let a := s.g k ra
    match s.coreStall a with
    | (s, .stall i) =>
      match s.tryLock k a i with
      | some r => r.1.finish k rd r.2
      | none => s.modCore k fun c => { c with run := .waiting (.lock a rd) }
    | (s, .absent) => let r := s.lockRefused k Ls.notFound; r.1.finish k rd r.2
    | (s, .noRoom) => s

/-- A lower-numbered core waits for the same stall (R365). -/
def State.lowerWaits (s : State) (k : CoreId) (a : Word) : Bool :=
  allEight.any fun j => decide (j < k) && (match s.cores[j].run with | .waiting (.lock b _) => b == a | _ => false)

/-- LSLOCK_GRANT (R355, R365): the reception has released the commit lock and the waiting core goes on. [DEDUCED, log 19] -/
def execLslockGrant (k : CoreId) (s : State) : Out :=
  match s.cores[k].run with
  | .waiting (.lock a rd) =>
    if s.lowerWaits k a then .next s
    else
      let go := fun (s : State) => s.modCore k fun c => { c with run := .running }
      match s.coreStall a with
      | (s, .stall i) =>
        match s.tryLock k a i with
        | some r => .next ((go r.1).finish k rd r.2)
        | none => .next s
      | (s, .absent) => let r := s.lockRefused k Ls.notFound; .next ((go r.1).finish k rd r.2)
      | (s, .noRoom) => .next s
  | _ => .next s

/-- LSUNL (R356): a reception that waits for the lock takes it at once. [DEDUCED, log 19] -/
def execLsunl (k : CoreId) (ra : GReg) (s : State) : Out :=
  s.issue k fun s =>
    let a := s.g k ra
    if !s.on F.LGR_CTL_EN then (s.setLsres k Ls.notFound).retire k
    else match s.lockOf k a with
      | some l => (State.serveLock 256 ((s.modCore k fun c => { c with locks := c.locks.filter fun l => l.addr != a }).setLsres k Ls.ok) l.stall.toNat).retire k
      | none => (s.setLsres k Ls.notLocked).retire k

/-! ### Cipher jobs and check values -/

/-- Submit a job (R304, R359): the code CJOB returns. [DEDUCED, log 20] -/
def State.submitJob (s : State) (k : CoreId) (a : Nat) : State × Nat :=
  if !s.on F.CPH_CTL_CJOB_EN then (s, 2)
  else if !cjobRegion a 32 then (s, 3)
  else if 32 ≤ s.key.jobs.length then (s.flag F.CPH_FLAGS_CJOB_FULL, 1)
  else
    let r := s.unitRead a 32
    let s := r.1
    let bound := match r.2 with
      | some b => if (parseJob b).valid then s.bindJob (parseJob b) else none
      | none => none
    let j : CipherJob := ⟨k, BitVec.ofNat 32 a, r.2, bound, false⟩
    (s.modKeyStore fun q => { q with jobs := sput q.jobs q.nextJob j, nextJob := q.nextJob + 1 }, 0)

/-- CJOB (R359, R363). -/
def execCjob (k : CoreId) (rd ra : GReg) (s : State) : Out :=
  s.issueOrdered k fun s =>
    let a := s.g k ra
    if a.toNat % 4 ≠ 0 then s.coreFault k Cause.align a
    else let r := s.submitJob k (globalAddr k a.toNat); r.1.finish k rd (BitVec.ofNat 32 r.2)

/-- CRCB (R360): the context's VALUE after the byte. -/
def execCrcb (k : CoreId) (rd ra rb : GReg) (s : State) : Out :=
  s.issue k fun s =>
    let n : Fin 4 := Fin.ofNat 4 (s.g k rb).toNat
    let s := s.crcDirect n (leBytes 1 (s.g k ra).toNat)
    s.finish k rd (s.crcValue n)

end Sys2Proof.Machine
end

