-- ==== Sys2Proof/Machine/IsaMem.lean ====
section
/-! DEFINITION. Orrery loads, stores, atomics and fences (R346, R361-R364), and the illegal word (R345). -/

namespace Sys2Proof.Machine

/-- The address ra + sx(imm16). -/
def State.effAddr (s : State) (k : CoreId) (ra : GReg) (imm : BitVec 16) : Word := s.g k ra + imm.signExtend 32

/-- LW (R346). -/
def execLw (k : CoreId) (rd ra : GReg) (imm : BitVec 16) (s : State) : Out :=
  s.issue k fun s => s.load k ⟨s.effAddr k ra imm, 4, false, rd⟩
/-- LH (R346). -/
def execLh (k : CoreId) (rd ra : GReg) (imm : BitVec 16) (s : State) : Out :=
  s.issue k fun s => s.load k ⟨s.effAddr k ra imm, 2, true, rd⟩
/-- LHU (R346). -/
def execLhu (k : CoreId) (rd ra : GReg) (imm : BitVec 16) (s : State) : Out :=
  s.issue k fun s => s.load k ⟨s.effAddr k ra imm, 2, false, rd⟩
/-- LB (R346). -/
def execLb (k : CoreId) (rd ra : GReg) (imm : BitVec 16) (s : State) : Out :=
  s.issue k fun s => s.load k ⟨s.effAddr k ra imm, 1, true, rd⟩
/-- LBU (R346). -/
def execLbu (k : CoreId) (rd ra : GReg) (imm : BitVec 16) (s : State) : Out :=
  s.issue k fun s => s.load k ⟨s.effAddr k ra imm, 1, false, rd⟩

/-- SW (R346). -/
def execSw (k : CoreId) (rs ra : GReg) (imm : BitVec 16) (s : State) : Out :=
  s.issue k fun s => s.store k (s.effAddr k ra imm) 4 (s.g k rs)
/-- SH (R346): the low half of rs. -/
def execSh (k : CoreId) (rs ra : GReg) (imm : BitVec 16) (s : State) : Out :=
  s.issue k fun s => s.store k (s.effAddr k ra imm) 2 (s.g k rs &&& 0xFFFF)
/-- SB (R346): the low byte of rs. -/
def execSb (k : CoreId) (rs ra : GReg) (imm : BitVec 16) (s : State) : Out :=
  s.issue k fun s => s.store k (s.effAddr k ra imm) 1 (s.g k rs &&& 0xFF)

/-- LOAD_COMPLETE (R343, R344, R402): the core leaves its stall; of a load from MRAM the read may have found an error, and one that cannot be
corrected is a BUS fault. [DESIGN CHOICE, log 14; DEDUCED, log 28] -/
def execLoadComplete (k : CoreId) (mram : ScrubOutcome) (s : State) : Out :=
  match s.cores[k].load with
  | some l =>
    let a := globalAddr k l.addr.toNat
    if inMram a then
      match s.mramRead (a / 4 * 4) mram with
      | (s, true) => .next (s.endLoad k l)
      | (s, false) => .next (s.coreFault k Cause.bus l.addr)
    else .next (s.endLoad k l)
  | none => .next s

/-- STORE_BUFFER_DRAIN (R362). [DESIGN CHOICE, log 14] -/
def execStoreBufferDrain (k : CoreId) (s : State) : Out := .next (s.drainOne k)

/-- A read-modify-write of an aligned word of banks 20-35 or of a DTCM, after the core's earlier stores (R361, R363). -/
def State.amo (s : State) (k : CoreId) (rd ra rb : GReg) (f : Word → Word → Word) : Out :=
  s.issueOrdered k fun s =>
    let a := s.g k ra
    let g := globalAddr k a.toNat
    if a.toNat % 4 ≠ 0 then s.coreFault k Cause.align a
    else if !(inShared g || inDtcm g) then s.coreFault k Cause.access a
    else
      let old : Word := BitVec.ofNat 32 (leNat ((List.range 4).map fun i => s.sramByte (g + i)))
      let new := leBytes 4 (f old (s.g k rb)).toNat
      ((s.crcCoreStore k g new).setSramBytes g new).finish k rd old

/-- AMOADD (R361): mem32[ra] = rd + rb, where rd is the value read. -/
def execAmoadd (k : CoreId) (rd ra rb : GReg) (s : State) : Out := s.amo k rd ra rb fun old v => old + v
/-- AMOSWAP (R361). -/
def execAmoswap (k : CoreId) (rd ra rb : GReg) (s : State) : Out := s.amo k rd ra rb fun _ v => v

/-- FENCE m (R364): it completes once every earlier store has become visible; loads have been performed before it issues. -/
def execFenceM (k : CoreId) (s : State) : Out := s.issueOrdered k fun s => s.retire k
/-- FENCE io (R364): register writes have taken effect once their stores have left the buffer. -/
def execFenceIo (k : CoreId) (s : State) : Out := s.issueOrdered k fun s => s.retire k

/-- ILLEGAL_INSTRUCTION (R345): a word that is no instruction faults. -/
def execIllegalInstruction (k : CoreId) (w : Word) (s : State) : Out :=
  match decodeOrrery k w with
  | some _ => .next s
  | none => s.issue k fun s => s.coreFault k Cause.illegal 0

end Sys2Proof.Machine
end

