-- ==== Sys2Proof/Machine/IsaWait.lean ====
section
/-! DEFINITION. Orrery instructions on time, events and special registers: WAITT, WAITE, EVPOP, MFS, MTS (R349-R352). -/

namespace Sys2Proof.Machine

/-- Core k's queue holds an event its EVMASK permits (R349). -/
def State.permitted (s : State) (k : CoreId) : Bool :=
  s.evc.queues[k].any fun r => s.cores[k].evmask.getLsbD (natBits r.ev.code.toNat 11 8)

/-- Its queue held such an event before T (R350). -/
def State.permittedBy (s : State) (k : CoreId) (t : Time) : Bool :=
  s.evc.queues[k].any fun r => s.cores[k].evmask.getLsbD (natBits r.ev.code.toNat 11 8) && decide (r.at_ < t)

/-- Events in core k's queue. -/
def State.queued (s : State) (k : CoreId) : Word := BitVec.ofNat 32 s.evc.queues[k].length

/-- Core k waits. -/
def State.wait (s : State) (k : CoreId) (w : CoreWait) : State := s.modCore k fun c => { c with run := .waiting w }

/-- A wait ends with `v` in rd, and the instruction completes. -/
def State.resume (s : State) (k : CoreId) (rd : GReg) (v : Word) : State :=
  (s.modCore k fun c => { c with run := .running }).finish k rd v

/-- The 64-bit instant of WAITT: rb above ra (R350). -/
def instant (hi lo : Word) : Time := (hi.setWidth 64 <<< 32) ||| lo.setWidth 64

/-- WAITT (R350). -/
def execWaitt (k : CoreId) (e : Bool) (rd ra rb : GReg) (s : State) : Out :=
  s.issue k fun s =>
    let t := instant (s.g k rb) (s.g k ra)
    if t ≤ s.time then s.finish k rd 1
    else if e && s.permitted k then s.finish k rd 2
    else s.wait k (.time t e rd)

/-- WAITT_TIME_REACHED (R350): an event that was queued before T has already ended the wait. -/
def execWaittTimeReached (k : CoreId) (s : State) : Out :=
  match s.cores[k].run with
  | .waiting (.time t e rd) => .next (if t ≤ s.time then s.resume k rd (if e && s.permittedBy k t then 2 else 0) else s)
  | _ => .next s

/-- WAITE (R351). -/
def execWaite (k : CoreId) (rd : GReg) (s : State) : Out :=
  s.issue k fun s => if s.permitted k then s.finish k rd (s.queued k) else s.wait k (.event rd)

/-- WAIT_EVENT_RESUME: a permitted event is in the queue of a core in WAITE, or in WAITT with E = 1 (R350, R351). -/
def execWaitEventResume (k : CoreId) (s : State) : Out :=
  if !s.permitted k then .next s
  else match s.cores[k].run with
    | .waiting (.event rd) => .next (s.resume k rd (s.queued k))
    | .waiting (.time t true rd) => .next (if s.permittedBy k t then s.resume k rd 2 else s)
    | _ => .next s

/-- CORE cycles since CYCLE was last read, or since the core started: the clock runs at 400 MHz, or under the down-spread of R17 at up to 0.5 % less
(R15, R528), so that the count is a free value between those bounds. [DEDUCED, log 16] -/
def State.cyclesSince (s : State) (k : CoreId) : Nat :=
  let d := s.now - s.cores[k].cycleAt.toNat
  let hi := d * 3125 / 192 + 1
  let lo := if s.on F.SYS_CLK_CTL_CORE_SSC then d * 3125 * 995 / 192000 else d * 3125 / 192
  lo + (Config.freeValue 32 s.freeCtr).toNat % (hi - lo + 1)

/-- Read CYCLE. -/
def State.readCycle (s : State) (k : CoreId) : State × Word :=
  let n := s.cores[k].cycle + s.cyclesSince k
  ((s.drawn 1).modCore k fun c => { c with cycle := n, cycleAt := s.time }, BitVec.ofNat 32 n)

/-- MFS (R349): TIME_LO latches TIME_HI; a number not listed is illegal. [DEDUCED, log 16] -/
def execMfs (k : CoreId) (rd : GReg) (n : BitVec 8) (s : State) : Out :=
  s.issue k fun s =>
    match n.toNat with
    | 0 => (s.modCore k fun c => { c with timeHi := (s.time >>> 32).setWidth 32 }).finish k rd (s.time.setWidth 32)
    | 1 => s.finish k rd s.cores[k].timeHi
    | 2 => s.finish k rd (BitVec.ofNat 32 (k + 256 * s.sys.straps.cid.toNat))
    | 3 => s.finish k rd s.cores[k].evmask
    | 4 => let r := s.readCycle k; r.1.finish k rd r.2
    | 5 => s.finish k rd s.cores[k].instret
    | 6 => s.finish k rd 0
    | 7 => s.finish k rd s.cores[k].lsres
    | _ => s.coreFault k Cause.illegal 0

/-- MTS (R349): only EVMASK and WDOG can be written; any other number is illegal. -/
def execMts (k : CoreId) (n : BitVec 8) (ra : GReg) (s : State) : Out :=
  s.issue k fun s =>
    match n.toNat with
    | 3 => (s.modCore k fun c => { c with evmask := s.g k ra }).retire k
    | 6 => (s.modCore k fun c => { c with wdog := s.g k ra, wdogAt := s.time }).retire k
    | _ => s.coreFault k Cause.illegal 0

/-- EVPOP (R352); the record follows the core's earlier stores into its DTCM (R362). -/
def execEvpop (k : CoreId) (rd ra : GReg) (s : State) : Out :=
  s.issueOrdered k fun s =>
    let a := s.g k ra
    if a.toNat % 16 ≠ 0 then s.coreFault k Cause.align a
    else if !ownDtcm k a.toNat then s.coreFault k Cause.access a
    else match s.evc.queues[k] with
      | [] => s.finish k rd 0x80000000
      | r :: rest =>
        let s := ({ s with evc := { s.evc with queues := s.evc.queues.set k rest } } : State).recordTaken k r
        let g := globalAddr k a.toNat
        ((s.crcCoreStore k g r.bytes).setSramBytes g r.bytes).finish k rd (r.ev.code.setWidth 32)

end Sys2Proof.Machine
end

