-- ==== Sys2Proof/Machine/Dispatch.lean ====
section
/-! DEFINITION. The meaning of every command: one arm for each constructor of `Instr`, each a call of its meaning. -/

namespace Sys2Proof.Machine

def exec (i : Instr) (s : State) : Host.Outcome State Fault Refusal :=
  match i with
  | .powerOnReset straps => Sys2Proof.Machine.execPowerOnReset straps s
  | .systemReset agent v => Sys2Proof.Machine.execSystemReset agent v s
  | .hostReset => Sys2Proof.Machine.execHostReset s
  | .startUp inp => Sys2Proof.Machine.execStartUp inp s
  | .startUpEnd => Sys2Proof.Machine.execStartUpEnd s
  | .modeRequest agent v => Sys2Proof.Machine.execModeRequest agent v s
  | .modeTransition => Sys2Proof.Machine.execModeTransition s
  | .mainsLoss zc => Sys2Proof.Machine.execMainsLoss zc s
  | .mainsReturn => Sys2Proof.Machine.execMainsReturn s
  | .lastgaspFrameLaunch => Sys2Proof.Machine.execLastgaspFrameLaunch s
  | .lastgaspFlush => Sys2Proof.Machine.execLastgaspFlush s
  | .dormantEntry => Sys2Proof.Machine.execDormantEntry s
  | .wakeSource sources => Sys2Proof.Machine.execWakeSource sources s
  | .supplyMonitor supply => Sys2Proof.Machine.execSupplyMonitor supply s
  | .mramFreezeLift => Sys2Proof.Machine.execMramFreezeLift s
  | .refclkLost => Sys2Proof.Machine.execRefclkLost s
  | .refclkReturn => Sys2Proof.Machine.execRefclkReturn s
  | .pllUnlock domain => Sys2Proof.Machine.execPllUnlock domain s
  | .lpPortEnable n => Sys2Proof.Machine.execLpPortEnable n s
  | .lpPortDisable n => Sys2Proof.Machine.execLpPortDisable n s
  | .lpPresetChange n preset => Sys2Proof.Machine.execLpPresetChange n preset s
  | .lpSyncRst n => Sys2Proof.Machine.execLpSyncRst n s
  | .adcOverload n active => Sys2Proof.Machine.execAdcOverload n active s
  | .agcAttack n x => Sys2Proof.Machine.execAgcAttack n x s
  | .agcDecayWindow n => Sys2Proof.Machine.execAgcDecayWindow n s
  | .pgaCodeWrite n v => Sys2Proof.Machine.execPgaCodeWrite n v s
  | .notchCommit n j v => Sys2Proof.Machine.execNotchCommit n j v s
  | .notchEnable n mask => Sys2Proof.Machine.execNotchEnable n mask s
  | .firSwapRequest n v => Sys2Proof.Machine.execFirSwapRequest n v s
  | .firFadeEnd n => Sys2Proof.Machine.execFirFadeEnd n s
  | .firCoefWrite n bank t v => Sys2Proof.Machine.execFirCoefWrite n bank t v s
  | .peakRead n => Sys2Proof.Machine.execPeakRead n s
  | .rmsWindow n => Sys2Proof.Machine.execRmsWindow n s
  | .zcEdge n level since => Sys2Proof.Machine.execZcEdge n level since s
  | .zcTimeout n => Sys2Proof.Machine.execZcTimeout n s
  | .noiseMapUpdate n => Sys2Proof.Machine.execNoiseMapUpdate n s
  | .nmapClear n => Sys2Proof.Machine.execNmapClear n s
  | .fftHop n samples first => Sys2Proof.Machine.execFftHop n samples first s
  | .noTiming ctx => Sys2Proof.Machine.execNoTiming ctx s
  | .viterbiDecode rxid => Sys2Proof.Machine.execViterbiDecode rxid s
  | .tagResult rxid => Sys2Proof.Machine.execTagResult rxid s
  | .ackBooking rxid => Sys2Proof.Machine.execAckBooking rxid s
  | .ackDecision rxid => Sys2Proof.Machine.execAckDecision rxid s
  | .commit rxid => Sys2Proof.Machine.execCommit rxid s
  | .ackCommitHorizon rxid => Sys2Proof.Machine.execAckCommitHorizon rxid s
  | .gateHorizon index => Sys2Proof.Machine.execGateHorizon index s
  | .yokeChange v => Sys2Proof.Machine.execYokeChange v s
  | .dmdPortDisable n => Sys2Proof.Machine.execDmdPortDisable n s
  | .lotenWrite n v => Sys2Proof.Machine.execLotenWrite n v s
  | .directedWindowOpen id => Sys2Proof.Machine.execDirectedWindowOpen id s
  | .directedWindowEnd id => Sys2Proof.Machine.execDirectedWindowEnd id s
  | .pageIn addr => Sys2Proof.Machine.execPageIn addr s
  | .pageInComplete addr mram => Sys2Proof.Machine.execPageInComplete addr mram s
  | .writeBackComplete index => Sys2Proof.Machine.execWriteBackComplete index s
  | .txCcmStart id => Sys2Proof.Machine.execTxCcmStart id s
  | .txCcmComplete id => Sys2Proof.Machine.execTxCcmComplete id s
  | .streamTake id => Sys2Proof.Machine.execStreamTake id s
  | .txenAssert id => Sys2Proof.Machine.execTxenAssert id s
  | .txLaunch id => Sys2Proof.Machine.execTxLaunch id s
  | .txEnd id => Sys2Proof.Machine.execTxEnd id s
  | .txenRelease n => Sys2Proof.Machine.execTxenRelease n s
  | .txhEnd n => Sys2Proof.Machine.execTxhEnd n s
  | .guardSymbol n samples => Sys2Proof.Machine.execGuardSymbol n samples s
  | .unmute n => Sys2Proof.Machine.execUnmute n s
  | .txPortDisable n => Sys2Proof.Machine.execTxPortDisable n s
  | .txCalStart v => Sys2Proof.Machine.execTxCalStart v s
  | .txCalDone n symbols => Sys2Proof.Machine.execTxCalDone n symbols s
  | .shpCoefWrite n t v => Sys2Proof.Machine.execShpCoefWrite n t v s
  | .superframeStart => Sys2Proof.Machine.execSuperframeStart s
  | .sfOriginWrite agent lo => Sys2Proof.Machine.execSfOriginWrite agent lo s
  | .beaconBuild => Sys2Proof.Machine.execBeaconBuild s
  | .almanacWalk slot => Sys2Proof.Machine.execAlmanacWalk slot s
  | .windowClose id => Sys2Proof.Machine.execWindowClose id s
  | .wakeSettled id => Sys2Proof.Machine.execWakeSettled id s
  | .masterBeaconVerify rxid => Sys2Proof.Machine.execMasterBeaconVerify rxid s
  | .masterBeaconMiss => Sys2Proof.Machine.execMasterBeaconMiss s
  | .submissionFetch ring descOk payloadOk => Sys2Proof.Machine.execSubmissionFetch ring descOk payloadOk s
  | .tqExpired index => Sys2Proof.Machine.execTqExpired index s
  | .lgrLookup agent => Sys2Proof.Machine.execLgrLookup agent s
  | .lgrImport agent mram => Sys2Proof.Machine.execLgrImport agent mram s
  | .lgrExport agent => Sys2Proof.Machine.execLgrExport agent s
  | .lgrFree agent => Sys2Proof.Machine.execLgrFree agent s
  | .lgrPin agent => Sys2Proof.Machine.execLgrPin agent s
  | .lgrUnpin agent => Sys2Proof.Machine.execLgrUnpin agent s
  | .lgrCmdComplete => Sys2Proof.Machine.execLgrCmdComplete s
  | .lgrRebuild mram => Sys2Proof.Machine.execLgrRebuild mram s
  | .rebuildDone => Sys2Proof.Machine.execRebuildDone s
  | .lgrSweep => Sys2Proof.Machine.execLgrSweep s
  | .sweepComplete => Sys2Proof.Machine.execSweepComplete s
  | .ledgerDisable => Sys2Proof.Machine.execLedgerDisable s
  | .keyLoad slot mram => Sys2Proof.Machine.execKeyLoad slot mram s
  | .keyLoadStall mram => Sys2Proof.Machine.execKeyLoadStall mram s
  | .genmem slot alg => Sys2Proof.Machine.execGenmem slot alg s
  | .keyErase slot => Sys2Proof.Machine.execKeyErase slot s
  | .keyInfo slot => Sys2Proof.Machine.execKeyInfo slot s
  | .keyCmdComplete => Sys2Proof.Machine.execKeyCmdComplete s
  | .rngReseed => Sys2Proof.Machine.execRngReseed s
  | .rngHealthFail => Sys2Proof.Machine.execRngHealthFail s
  | .keyRandRead => Sys2Proof.Machine.execKeyRandRead s
  | .cjobDone id => Sys2Proof.Machine.execCjobDone id s
  | .crcInit n v => Sys2Proof.Machine.execCrcInit n v s
  | .crcDataWrite n v => Sys2Proof.Machine.execCrcDataWrite n v s
  | .add k rd ra rb => Sys2Proof.Machine.execAdd k rd ra rb s
  | .sub k rd ra rb => Sys2Proof.Machine.execSub k rd ra rb s
  | .and k rd ra rb => Sys2Proof.Machine.execAnd k rd ra rb s
  | .or k rd ra rb => Sys2Proof.Machine.execOr k rd ra rb s
  | .xor k rd ra rb => Sys2Proof.Machine.execXor k rd ra rb s
  | .sll k rd ra rb => Sys2Proof.Machine.execSll k rd ra rb s
  | .srl k rd ra rb => Sys2Proof.Machine.execSrl k rd ra rb s
  | .sra k rd ra rb => Sys2Proof.Machine.execSra k rd ra rb s
  | .mul k rd ra rb => Sys2Proof.Machine.execMul k rd ra rb s
  | .mulh k rd ra rb => Sys2Proof.Machine.execMulh k rd ra rb s
  | .min k rd ra rb => Sys2Proof.Machine.execMin k rd ra rb s
  | .max k rd ra rb => Sys2Proof.Machine.execMax k rd ra rb s
  | .clz k rd ra => Sys2Proof.Machine.execClz k rd ra s
  | .popc k rd ra => Sys2Proof.Machine.execPopc k rd ra s
  | .bfx k rd ra signed lsb width => Sys2Proof.Machine.execBfx k rd ra signed lsb width s
  | .bfi k rd ra lsb width => Sys2Proof.Machine.execBfi k rd ra lsb width s
  | .addi k rd ra imm => Sys2Proof.Machine.execAddi k rd ra imm s
  | .andi k rd ra imm => Sys2Proof.Machine.execAndi k rd ra imm s
  | .ori k rd ra imm => Sys2Proof.Machine.execOri k rd ra imm s
  | .xori k rd ra imm => Sys2Proof.Machine.execXori k rd ra imm s
  | .slli k rd ra sh => Sys2Proof.Machine.execSlli k rd ra sh s
  | .srli k rd ra sh => Sys2Proof.Machine.execSrli k rd ra sh s
  | .srai k rd ra sh => Sys2Proof.Machine.execSrai k rd ra sh s
  | .lui k rd imm => Sys2Proof.Machine.execLui k rd imm s
  | .lw k rd ra imm => Sys2Proof.Machine.execLw k rd ra imm s
  | .lh k rd ra imm => Sys2Proof.Machine.execLh k rd ra imm s
  | .lhu k rd ra imm => Sys2Proof.Machine.execLhu k rd ra imm s
  | .lb k rd ra imm => Sys2Proof.Machine.execLb k rd ra imm s
  | .lbu k rd ra imm => Sys2Proof.Machine.execLbu k rd ra imm s
  | .sw k rs ra imm => Sys2Proof.Machine.execSw k rs ra imm s
  | .sh k rs ra imm => Sys2Proof.Machine.execSh k rs ra imm s
  | .sb k rs ra imm => Sys2Proof.Machine.execSb k rs ra imm s
  | .beq k ra rb off => Sys2Proof.Machine.execBeq k ra rb off s
  | .bne k ra rb off => Sys2Proof.Machine.execBne k ra rb off s
  | .blt k ra rb off => Sys2Proof.Machine.execBlt k ra rb off s
  | .bge k ra rb off => Sys2Proof.Machine.execBge k ra rb off s
  | .bltu k ra rb off => Sys2Proof.Machine.execBltu k ra rb off s
  | .bgeu k ra rb off => Sys2Proof.Machine.execBgeu k ra rb off s
  | .jal k off => Sys2Proof.Machine.execJal k off s
  | .jalr k rd ra imm => Sys2Proof.Machine.execJalr k rd ra imm s
  | .amoadd k rd ra rb => Sys2Proof.Machine.execAmoadd k rd ra rb s
  | .amoswap k rd ra rb => Sys2Proof.Machine.execAmoswap k rd ra rb s
  | .fenceM k => Sys2Proof.Machine.execFenceM k s
  | .fenceIo k => Sys2Proof.Machine.execFenceIo k s
  | .waitt k e rd ra rb => Sys2Proof.Machine.execWaitt k e rd ra rb s
  | .waittTimeReached k => Sys2Proof.Machine.execWaittTimeReached k s
  | .waite k rd => Sys2Proof.Machine.execWaite k rd s
  | .waitEventResume k => Sys2Proof.Machine.execWaitEventResume k s
  | .mfs k rd n => Sys2Proof.Machine.execMfs k rd n s
  | .mts k n ra => Sys2Proof.Machine.execMts k n ra s
  | .evpop k rd ra => Sys2Proof.Machine.execEvpop k rd ra s
  | .tqadd k rd ra => Sys2Proof.Machine.execTqadd k rd ra s
  | .tqcan k rd ra => Sys2Proof.Machine.execTqcan k rd ra s
  | .lsld k rd ra imm => Sys2Proof.Machine.execLsld k rd ra imm s
  | .lsst k rs ra imm => Sys2Proof.Machine.execLsst k rs ra imm s
  | .lslock k rd ra => Sys2Proof.Machine.execLslock k rd ra s
  | .lslockGrant k => Sys2Proof.Machine.execLslockGrant k s
  | .lsunl k ra => Sys2Proof.Machine.execLsunl k ra s
  | .cjob k rd ra => Sys2Proof.Machine.execCjob k rd ra s
  | .crcb k rd ra rb => Sys2Proof.Machine.execCrcb k rd ra rb s
  | .loadComplete k mram => Sys2Proof.Machine.execLoadComplete k mram s
  | .storeBufferDrain k => Sys2Proof.Machine.execStoreBufferDrain k s
  | .lockOverrun k stall => Sys2Proof.Machine.execLockOverrun k stall s
  | .watchdogExpire k => Sys2Proof.Machine.execWatchdogExpire k s
  | .coreStart agent mask => Sys2Proof.Machine.execCoreStart agent mask s
  | .coreStop agent mask => Sys2Proof.Machine.execCoreStop agent mask s
  | .occCfgLock agent v => Sys2Proof.Machine.execOccCfgLock agent v s
  | .itcmWrite agent core off w => Sys2Proof.Machine.execItcmWrite agent core off w s
  | .eventRecordWrite dmaOk => Sys2Proof.Machine.execEventRecordWrite dmaOk s
  | .evcQclr mask => Sys2Proof.Machine.execEvcQclr mask s
  | .evcHrConsWrite v => Sys2Proof.Machine.execEvcHrConsWrite v s
  | .evcHrEnable v => Sys2Proof.Machine.execEvcHrEnable v s
  | .tallyClear => Sys2Proof.Machine.execTallyClear s
  | .marchRequest v => Sys2Proof.Machine.execMarchRequest v s
  | .marchDone faults => Sys2Proof.Machine.execMarchDone faults s
  | .mramWriteLimitRelease addr => Sys2Proof.Machine.execMramWriteLimitRelease addr s
  | .mramWriteComplete addr outcome => Sys2Proof.Machine.execMramWriteComplete addr outcome s
  | .mramScrub addr outcome => Sys2Proof.Machine.execMramScrub addr outcome s
  | .partitionWiped mram => Sys2Proof.Machine.execPartitionWiped mram s
  | .ddrTrain v => Sys2Proof.Machine.execDdrTrain v s
  | .ddrReady ok density => Sys2Proof.Machine.execDdrReady ok density s
  | .ddrRetrack => Sys2Proof.Machine.execDdrRetrack s
  | .ddrRefresh rate => Sys2Proof.Machine.execDdrRefresh rate s
  | .ddrRegionEnable r v => Sys2Proof.Machine.execDdrRegionEnable r v s
  | .ddrRegionReady r => Sys2Proof.Machine.execDdrRegionReady r s
  | .ddrRegionSweep r => Sys2Proof.Machine.execDdrRegionSweep r s
  | .ddrSweepComplete r => Sys2Proof.Machine.execDdrSweepComplete r s
  | .nonce agent => Sys2Proof.Machine.execNonce agent s
  | .stage agent => Sys2Proof.Machine.execStage agent s
  | .unstage agent => Sys2Proof.Machine.execUnstage agent s
  | .deploy agent => Sys2Proof.Machine.execDeploy agent s
  | .debug agent => Sys2Proof.Machine.execDebug agent s
  | .attest agent mram => Sys2Proof.Machine.execAttest agent mram s
  | .ident agent mram => Sys2Proof.Machine.execIdent agent mram s
  | .extend agent => Sys2Proof.Machine.execExtend agent s
  | .rollback agent => Sys2Proof.Machine.execRollback agent s
  | .revoke agent => Sys2Proof.Machine.execRevoke agent s
  | .endLocal agent => Sys2Proof.Machine.execEndLocal agent s
  | .secCmdComplete => Sys2Proof.Machine.execSecCmdComplete s
  | .presenceRelease holdMs => Sys2Proof.Machine.execPresenceRelease holdMs s
  | .presenceWindowExpire => Sys2Proof.Machine.execPresenceWindowExpire s
  | .sealPulse width observed => Sys2Proof.Machine.execSealPulse width observed s
  | .tamperFire sight => Sys2Proof.Machine.execTamperFire sight s
  | .testModeEntry => Sys2Proof.Machine.execTestModeEntry s
  | .ulirDisc seq list => Sys2Proof.Machine.execUlirDisc seq list s
  | .ulirCal r => Sys2Proof.Machine.execUlirCal r s
  | .ulirTime stamp payload => Sys2Proof.Machine.execUlirTime stamp payload s
  | .ulirFault src seq => Sys2Proof.Machine.execUlirFault src seq s
  | .ulirLookupReq src seq addr tag => Sys2Proof.Machine.execUlirLookupReq src seq addr tag s
  | .ulirLookupRsp returned src seq tag owner => Sys2Proof.Machine.execUlirLookupRsp returned src seq tag owner s
  | .ulirBcnReq src seq msg tag => Sys2Proof.Machine.execUlirBcnReq src seq msg tag s
  | .ulirBcnTag tag mac => Sys2Proof.Machine.execUlirBcnTag tag mac s
  | .ulirSeg src rxid seq bytes => Sys2Proof.Machine.execUlirSeg src rxid seq bytes s
  | .ulirCommit src rxid seq flags => Sys2Proof.Machine.execUlirCommit src rxid seq flags s
  | .ulirVoid src rxid seq reason => Sys2Proof.Machine.execUlirVoid src rxid seq reason s
  | .ulirBadPacket bytes => Sys2Proof.Machine.execUlirBadPacket bytes s
  | .discTimer => Sys2Proof.Machine.execDiscTimer s
  | .calTimer => Sys2Proof.Machine.execCalTimer s
  | .ulkCal => Sys2Proof.Machine.execUlkCal s
  | .timeSend => Sys2Proof.Machine.execTimeSend s
  | .laneFault comma violations => Sys2Proof.Machine.execLaneFault comma violations s
  | .timePacketTimeout => Sys2Proof.Machine.execTimePacketTimeout s
  | .alignmentStep => Sys2Proof.Machine.execAlignmentStep s
  | .lookupQuery addr => Sys2Proof.Machine.execLookupQuery addr s
  | .lookupTimeout tag => Sys2Proof.Machine.execLookupTimeout tag s
  | .bcnTagDeadline => Sys2Proof.Machine.execBcnTagDeadline s
  | .ageRun => Sys2Proof.Machine.execAgeRun s
  | .ageRunDue => Sys2Proof.Machine.execAgeRunDue s
  | .replan raw => Sys2Proof.Machine.execReplan raw s
  | .ppsEdge => Sys2Proof.Machine.execPpsEdge s
  | .ageVidWrite v => Sys2Proof.Machine.execAgeVidWrite v s
  | .vidStep => Sys2Proof.Machine.execVidStep s
  | .uartCharReceived n start levels => Sys2Proof.Machine.execUartCharReceived n start levels s
  | .uartBreak n start => Sys2Proof.Machine.execUartBreak n start s
  | .lineStuck n => Sys2Proof.Machine.execLineStuck n s
  | .stuckClear n => Sys2Proof.Machine.execStuckClear n s
  | .uartRxTimeout n => Sys2Proof.Machine.execUartRxTimeout n s
  | .uartRxRead n => Sys2Proof.Machine.execUartRxRead n s
  | .uartTxWrite n v => Sys2Proof.Machine.execUartTxWrite n v s
  | .uartCharSent n => Sys2Proof.Machine.execUartCharSent n s
  | .uartTxflush n => Sys2Proof.Machine.execUartTxflush n s
  | .uartRxflush n => Sys2Proof.Machine.execUartRxflush n s
  | .fifoCtlWrite n v => Sys2Proof.Machine.execFifoCtlWrite n v s
  | .ctsChange level => Sys2Proof.Machine.execCtsChange level s
  | .uartRearm n => Sys2Proof.Machine.execUartRearm n s
  | .spiWrite addr data => Sys2Proof.Machine.execSpiWrite addr data s
  | .spiRead addr waits len mram => Sys2Proof.Machine.execSpiRead addr waits len mram s
  | .spiStatus opcode => Sys2Proof.Machine.execSpiStatus opcode s
  | .ringTailWrite r v => Sys2Proof.Machine.execRingTailWrite r v s
  | .ringEnable r v => Sys2Proof.Machine.execRingEnable r v s
  | .ringDisable r => Sys2Proof.Machine.execRingDisable r s
  | .dmaError target => Sys2Proof.Machine.execDmaError target s
  | .irqModerationTimer c => Sys2Proof.Machine.execIrqModerationTimer c s
  | .hostBootGo v => Sys2Proof.Machine.execHostBootGo v s
  | .regLoRead addr mram => Sys2Proof.Machine.execRegLoRead addr mram s
  | .registerWrite agent addr v => Sys2Proof.Machine.execRegisterWrite agent addr v s
  | .illegalInstruction k w => Sys2Proof.Machine.execIllegalInstruction k w s
  | .bar2Write off data => Sys2Proof.Machine.execBar2Write off data s
  | .refLock => Sys2Proof.Machine.execRefLock s
  | .linkUp up speed width pci => Sys2Proof.Machine.execLinkUp up speed width pci s
  | .debugAccess kind => Sys2Proof.Machine.execDebugAccess kind s
  | .groupAWithinLimits => Sys2Proof.Machine.execGroupAWithinLimits s

end Sys2Proof.Machine
end

