-- ==== Sys2Proof/Machine/Tick.lean ====
section
/-! DEFINITION. The passing of time while no command waits (R3, R19, R451, R457). -/

namespace Sys2Proof.Machine

/-- A dtick of the reference in units of 1/24,576 of 0.1 ns. -/
def dtickSlew : Int := 10000000

/-- A tick of the reference while its phase is slewed (R457): 1 ns per ms is 10 units a tick; a phase that has moved by a whole dtick holds device
time or moves it by one more. [DEDUCED, log 51] -/
def Ulk.slewed (u : Ulk) : Ulk × Nat :=
  let d := max (-10) (min 10 u.slew)
  let p := u.phase + d
  if dtickSlew ≤ p then ({ u with slew := u.slew - d, phase := p - dtickSlew }, 0)
  else if p ≤ -dtickSlew then ({ u with slew := u.slew - d, phase := p + dtickSlew }, 2)
  else ({ u with slew := u.slew - d, phase := p }, 1)

/-- What waited for the transmit lane leaves as the lane falls idle (R451); a marker that has left frees its RXID (R199). -/
def State.laneTick (s : State) : State :=
  let ids := s.dmd.used.filter fun id => s.ulk.waiting.any (·.marks id)
  ids.foldl (fun (s : State) id => s.freeRxid id) s.laneRun

/-- One dtick passes; while the device counts on the AO clock (R19, R529) one AO tick of 750 dticks passes; in power-on reset device time stands
(R532). [DESIGN CHOICE, log 2] -/
def State.idle (s : State) : State :=
  let s := s.countDorm.newCycle
  if s.inPowerOn then s
  else if s.sys.onAo || s.sys.mode == .dormant then { s with time := s.time + 750 }.laneTick
  else
    let (u, n) := s.ulk.slewed
    { s with time := s.time + BitVec.ofNat 64 n, ulk := u }.laneTick

end Sys2Proof.Machine
end

