-- ==== Sys2Proof/Safety.lean ====
section
/-! DEFINITION. What the claims call a well-formed state and a safe step, and the words they are stated in. -/

namespace Sys2Proof.Machine

/-- The canonical form of memory: addresses strictly rising, no entry equal to what an unlisted address reads as. -/
def Memory.wf (fills : List Fill) (m : List Host.Cell) : Bool := swf (memDefault fills) m

/-- The same of host memory as the device has written it. -/
def Memory.hostWf (m : List Host.Cell) : Bool := swf (fun _ => (0 : Byte)) m

/-- The same of the registers. -/
def State.regsWf (s : State) : Bool := swf regReset s.regs

/-- The invariant of every state: memories and registers in canonical form, and g0 of every core zero (R339). -/
def State.Inv (s : State) : Prop :=
  Memory.wf s.fills s.mem = true ∧ Memory.hostWf s.hostMem = true ∧ s.regsWf = true ∧ ∀ k : CoreId, s.cores[k].g[0] = 0

/-- A core holds at most four stores (R343) and four stall locks (R355). -/
def Core.Bounded (c : Core) : Prop := c.storeBuf.length ≤ 4 ∧ c.locks.length ≤ 4

/-- Every queue keeps within its size: the collector's staging buffer (R379) and queues (R380), the UART FIFOs (R485, R490), the cipher jobs (R304) and
each core's buffer and locks, a core a START of this cycle may yet give back among them; and no RXID is out twice (R22). -/
def State.Bounded (s : State) : Prop :=
  s.dmd.used.Nodup ∧ s.evc.staged.length ≤ 16 ∧ (∀ k : Fin 8, s.evc.queues[k].length ≤ 64) ∧
  (∀ n : Fin 2, s.uart[n].rx.length ≤ 64 ∧ s.uart[n].tx.length ≤ 64) ∧ s.key.jobs.length ≤ 32 ∧
  (∀ k : CoreId, s.cores[k].Bounded) ∧ ∀ p ∈ s.cycle.started, p.2.1.Bounded

/-- OTP `p` is `o` with bits programmed: no thermometer counts back, no bit set is clear, and the fields written at manufacture are as they were
(R414). -/
def Otp.Grows (o p : Otp) : Prop :=
  o.lcSteps ≤ p.lcSteps ∧ o.rollback ≤ p.rollback ∧ (o.lcEnded = true → p.lcEnded = true) ∧
  (∀ i, o.revoke.getLsbD i = true → p.revoke.getLsbD i = true) ∧
  p = { o with lcSteps := p.lcSteps, rollback := p.rollback, lcEnded := p.lcEnded, revoke := p.revoke, weak := p.weak }

/-- A step is safe when it answers a next state: the device neither stops nor refuses. -/
def Safe (s : State) : Prop := ∃ t, step s = .next t

/-! ### What the claims say of a command -/

/-- Command `c` answers a next state, and `P` holds of it. -/
def Yields (c : Instr) (s : State) (P : State → Prop) : Prop := ∃ t, exec c s = .next t ∧ P t

/-- Every register but those at the listed addresses is unchanged. -/
def RegsBut (s t : State) (l : List Nat) : Prop := ∀ a, a ∉ l → t.reg a = s.reg a

/-- Core k executes the instruction at its PC: it is RUNNING (R368), no load of its is outstanding (R343), its PC lies in its own ITCM
or, for OC0, in the open boot ROM (R340), and no stop waits for the instruction to end (R369). -/
def CanIssue (s : State) (k : CoreId) : Prop :=
  s.cores[k].run = .running ∧ s.cores[k].load = none ∧ s.fetchable k s.cores[k].pc.toNat = true ∧ s.cores[k].stepping = false

/-- The instruction of core k completes: PC goes to `pc`, INSTRET counts it, and nothing else of the device changes. -/
def Moves (c : Instr) (s : State) (k : CoreId) (pc : Word) : Prop :=
  Yields c s fun t => t = s.modCore k fun x => { x with pc := pc, instret := x.instret + 1 }

/-- The instruction of core k completes: rd takes `v` (g0 takes nothing, R339), PC goes to `pc`, INSTRET counts it, and nothing else
of the device changes. -/
def Computes (c : Instr) (s : State) (k : CoreId) (rd : GReg) (v pc : Word) : Prop :=
  Yields c s fun t =>
    (∀ r, t.g k r = if r = rd ∧ r ≠ 0 then v else s.g k r) ∧
    t = s.modCore k fun x => { x with g := t.cores[k].g, pc := pc, instret := x.instret + 1 }

/-- The instruction of core k completes from state `u`, to which its other effects took `s`: rd takes `v`, PC goes to the next word, INSTRET
counts it, and nothing else of `u` changes. -/
def Finishes (c : Instr) (s u : State) (k : CoreId) (rd : GReg) (v : Word) : Prop :=
  Yields c s fun t =>
    (∀ r, t.g k r = if r = rd ∧ r ≠ 0 then v else u.g k r) ∧
    t = u.modCore k fun x => { x with g := t.cores[k].g, pc := x.pc + 4, instret := x.instret + 1 }

/-- The instruction of core k completes from state `u` with no result. -/
def Ends (c : Instr) (s u : State) (k : CoreId) : Prop :=
  exec c s = .next (u.modCore k fun x => { x with pc := x.pc + 4, instret := x.instret + 1 })

/-- The bytes core `k` reads at global address `a`: its own stores not yet visible first, else what stands there (R362). -/
def State.seenAt (s : State) (k : CoreId) (a n : Nat) : Nat :=
  leNat ((List.range n).map fun i => (s.ownByte k (a + i)).getD (s.sramByte (a + i)))

/-- The registers that raising an event of code `c` may change: its tally and the loss count and flag of a full source (R379, R385). -/
def eventRegs (c : BitVec 12) : List Nat := [R.TAL_EVCNTc c.toNat, R.EVC_LOSTd 9, F.EVC_FLAGS_SRC_OVF.addr]

/-- Core k faulted with `cause` at its current instruction (R366): it is HALTED with its registers, PC and buffered stores as they were
and its locks released; EPC, CAUSE and, for ALIGN, ACCESS and BUS, FADDR are written; OCC_FLAGS.FAULT is set and CORE_FAULT raised; the
other cores, memory and the other registers are unchanged. -/
def Faulted (s t : State) (k : CoreId) (cause : Nat) (addr : Word) : Prop :=
  t.cores = s.cores.set k { s.cores[k] with run := .halted, load := none, locks := [], stepping := false } ∧
  t.reg (R.OCC_EPCk k) = s.cores[k].pc ∧ t.reg (R.OCC_CAUSEk k) = BitVec.ofNat 32 cause ∧
  t.reg (R.OCC_FADDRk k) = (if cause = 3 ∨ cause = 4 ∨ cause = 5 then addr else s.reg (R.OCC_FADDRk k)) ∧
  t.fldBit F.OCC_FLAGS_FAULT k = true ∧
  RegsBut s t ([R.OCC_EPCk k, R.OCC_CAUSEk k, R.OCC_FADDRk k, F.OCC_FLAGS_FAULT.addr] ++ eventRegs 0xA00) ∧
  t = { s with cores := t.cores, regs := t.regs, cycle := t.cycle, evc := (s.raise 0xA00 (47 + k) (BitVec.ofNat 32 k) cause).evc }

end Sys2Proof.Machine
end

