-- ==== Sys2Proof/WellFormed.lean ====
section
/-! DEFINITION. Which commands are well formed: operands that the outside world can supply. A command that is not says something no
access, packet, measurement or instruction word can say. -/

namespace Sys2Proof

/-- A bit field of BFX or BFI lies in the word (R347). -/
def fieldOk (lsb width : Nat) : Bool := decide (1 ≤ width ∧ lsb + width ≤ 32)

/-- The address of an MRAM word (R399, R400). -/
def mramWord (a : Word) : Bool := decide (a.toNat % 4 = 0 ∧ 0x18000000 ≤ a.toNat ∧ a.toNat < 0x19000000)

/-- MRAM words that read with an error (R402). -/
def mramWords (l : List (Word × ScrubOutcome)) : Bool := l.all fun p => mramWord p.1

/-- A ring packet's payload has at most 256 bytes (R449). -/
def payloadOk (bs : List Byte) : Bool := decide (bs.length ≤ 256)

/-- Well-formedness of a command. -/
def Instr.wf : Instr → Bool
  | .powerOnReset .. | .systemReset .. | .hostReset .. => true
  | .startUp inp => (inp.puf.isEmpty || inp.puf.length == 32) && mramWords inp.mram
  | .startUpEnd .. | .modeRequest .. | .modeTransition .. | .mainsLoss .. | .mainsReturn .. | .lastgaspFrameLaunch .. | .lastgaspFlush ..
  | .dormantEntry .. | .wakeSource .. | .supplyMonitor .. | .mramFreezeLift .. | .refclkLost .. | .refclkReturn .. | .pllUnlock ..
  | .lpPortEnable .. | .lpPortDisable .. | .lpPresetChange .. | .lpSyncRst .. | .adcOverload .. | .agcAttack .. | .agcDecayWindow ..
  | .pgaCodeWrite .. | .notchCommit .. | .notchEnable .. | .firSwapRequest .. | .firFadeEnd .. | .firCoefWrite .. | .peakRead ..
  | .rmsWindow .. | .zcEdge .. | .zcTimeout .. | .noiseMapUpdate .. | .nmapClear .. => true
  | .fftHop _ samples first => decide (samples.length ≤ 64 ∧ first.length ≤ 256)
  | .noTiming .. | .viterbiDecode .. | .tagResult .. | .ackBooking .. | .ackDecision .. | .commit .. | .ackCommitHorizon ..
  | .gateHorizon .. | .yokeChange .. | .dmdPortDisable .. | .lotenWrite .. | .directedWindowOpen .. | .directedWindowEnd .. | .pageIn ..
  | .pageInComplete .. => true
  | .writeBackComplete index => decide (index < 262144)
  | .txCcmStart .. | .txCcmComplete .. | .streamTake .. | .txenAssert .. | .txLaunch .. | .txEnd .. | .txenRelease .. | .txhEnd .. => true
  | .guardSymbol _ samples => samples.length == 1024
  | .unmute .. | .txPortDisable .. | .txCalStart .. => true
  | .txCalDone _ symbols => symbols.all fun x => x.length == 1024
  | .shpCoefWrite .. | .superframeStart .. | .sfOriginWrite .. | .beaconBuild .. | .almanacWalk .. | .windowClose .. | .wakeSettled ..
  | .masterBeaconVerify .. | .masterBeaconMiss .. | .submissionFetch .. | .tqExpired .. | .lgrLookup .. | .lgrExport ..
  | .lgrFree .. | .lgrPin .. | .lgrUnpin .. | .lgrCmdComplete .. => true
  | .lgrRebuild mram | .lgrImport _ mram | .keyLoad _ mram | .keyLoadStall mram => mramWords mram
  | .rebuildDone .. | .lgrSweep .. | .sweepComplete .. | .ledgerDisable .. | .genmem .. | .keyErase ..
  | .keyInfo .. | .keyCmdComplete .. | .rngReseed .. | .rngHealthFail .. | .keyRandRead .. | .cjobDone .. | .crcInit .. | .crcDataWrite ..
  | .add .. | .sub .. | .and .. | .or .. | .xor .. | .sll .. | .srl .. | .sra .. | .mul .. | .mulh .. | .min .. | .max .. | .clz ..
  | .popc .. => true
  | .bfx _ _ _ _ lsb width => fieldOk lsb width
  | .bfi _ _ _ lsb width => fieldOk lsb width
  | .addi .. | .andi .. | .ori .. | .xori .. | .slli .. | .srli .. | .srai .. | .lui .. | .lw .. | .lh .. | .lhu .. | .lb .. | .lbu ..
  | .sw .. | .sh .. | .sb .. | .beq .. | .bne .. | .blt .. | .bge .. | .bltu .. | .bgeu .. | .jal .. | .jalr .. | .amoadd .. | .amoswap ..
  | .fenceM .. | .fenceIo .. | .waitt .. | .waittTimeReached .. | .waite .. | .waitEventResume .. | .mfs .. | .mts .. | .evpop ..
  | .tqadd .. | .tqcan .. | .lsld .. | .lsst .. | .lslock .. | .lslockGrant .. | .lsunl .. | .cjob .. | .crcb .. | .loadComplete ..
  | .storeBufferDrain .. | .lockOverrun .. | .watchdogExpire .. | .coreStart .. | .coreStop .. | .occCfgLock .. | .itcmWrite ..
  | .eventRecordWrite .. | .evcQclr .. | .evcHrConsWrite .. | .evcHrEnable .. | .tallyClear .. | .marchRequest .. | .marchDone .. => true
  | .mramWriteLimitRelease a => mramWord a
  | .mramWriteComplete a _ => mramWord a
  | .mramScrub a _ => mramWord a
  | .partitionWiped mram | .attest _ mram | .ident _ mram => mramWords mram
  | .ddrTrain .. | .ddrReady .. | .ddrRetrack .. | .ddrRefresh .. | .ddrRegionEnable .. | .ddrRegionReady ..
  | .ddrRegionSweep .. | .ddrSweepComplete .. | .nonce .. | .stage .. | .unstage .. | .deploy .. | .debug ..
  | .extend .. | .rollback .. | .revoke .. | .endLocal .. | .secCmdComplete .. | .presenceRelease .. | .presenceWindowExpire .. => true
  | .sealPulse width _ => decide (1 ≤ width ∧ width ≤ 8)
  | .tamperFire sight => match sight with | .supply _ _ ns => decide (0 ≤ ns) | .clock _ n => decide (0 ≤ n) | .seal | .junction _ | .mesh _ => true
  | .testModeEntry .. => true
  | .ulirDisc _ list => payloadOk list
  | .ulirCal .. => true
  | .ulirTime _ payload => payload.length == 32
  | .ulirFault .. | .ulirLookupReq .. | .ulirLookupRsp .. => true
  | .ulirBcnReq _ _ msg _ => payloadOk msg
  | .ulirBcnTag _ mac => match mac with | some t => t.length == 8 | none => true
  | .ulirSeg _ _ _ bytes => payloadOk bytes
  | .ulirCommit .. | .ulirVoid .. | .ulirBadPacket .. | .discTimer .. | .calTimer .. | .ulkCal .. | .timeSend .. => true
  | .laneFault comma violations => comma || decide (0 < violations)
  | .timePacketTimeout .. | .alignmentStep .. | .lookupQuery .. | .lookupTimeout .. | .bcnTagDeadline .. | .ageRun .. | .ageRunDue .. => true
  | .replan raw => decide (raw.ro.length = 8 ∧ raw.mramM ≤ 31) && mramWords raw.mram
  | .ppsEdge .. | .ageVidWrite .. | .vidStep .. => true
  | .uartCharReceived _ _ levels => !levels.isEmpty && (levels.all fun p => decide (0 < p.2)) && (levels.zip levels.tail).all fun p => p.1.1 != p.2.1
  | .uartBreak .. | .lineStuck .. | .stuckClear .. | .uartRxTimeout .. | .uartRxRead .. | .uartTxWrite .. | .uartCharSent ..
  | .uartTxflush .. | .uartRxflush .. | .fifoCtlWrite .. | .ctsChange .. | .uartRearm .. | .spiWrite .. => true
  | .spiRead _ _ _ mram | .regLoRead _ mram => mramWords mram
  | .spiStatus .. | .ringTailWrite .. | .ringEnable .. | .ringDisable .. | .dmaError .. | .irqModerationTimer .. | .hostBootGo ..
  | .registerWrite .. => true
  | .illegalInstruction k w => (decodeOrrery k w).isNone
  | .bar2Write .. | .refLock .. | .linkUp .. | .debugAccess .. | .groupAWithinLimits .. => true

end Sys2Proof
end

