-- ==== Sys2Proof/Certificates/Slice0/Obligations.lean ====
section
/-! DEFINITION. The statements for the provers. -/

open Sys2Proof Sys2Proof.Machine

/-! ### Steps and the invariant -/

/-- A step with command `c` in front is `exec c` on the state with the queue's rest; and every one of the commands completes: in every state, with
every operand, exec answers a next state, so that no command faults or is refused.
That a command waits in a queue and acts at once is log entries 1 and 3 (DESIGN CHOICE), that one for which nothing is stated changes nothing log entry 4 (DEDUCED). -/
def Obligations.StepRunsTheFrontCommand : Prop :=
  (∀ (c : Instr) (cs : List Instr) (s : State), step { s with pending := c :: cs } = exec c { s with pending := cs }) ∧
  (∀ (c : Instr) (s : State), ∃ t, exec c s = .next t)

/-- The state right after reset meets both invariants.
What the spec gives no reset value starts empty, idle or zero by log entries 7, 8 and 61 (DESIGN CHOICE). -/
def Obligations.ResetMeetsInvariants : Prop := State.reset.Inv ∧ State.reset.Bounded

/-- Every step keeps the invariant: both memories and the registers in canonical form, g0 of every core zero.
What an unlisted byte reads as is log entry 6 (DESIGN CHOICE). -/
def Obligations.StepKeepsInvariant : Prop :=
  ∀ s t : State, s.Inv → step s = .next t → t.Inv

/-- With no command waiting a step passes time (R3), and what waits for the transmit lane leaves once the lane is idle (R451): none while power-on reset holds the
device (R532), one
AO tick of 750 dticks while it counts on the AO clock (R19, R529), else a tick of the reference, which is one dtick where no error is slewed; while one is
(R457), the time, the phase and the error left together pass the one dtick, and the error shrinks by no more than 1 ns per ms. In DORMANT a tick spent there is
counted (R536), and nothing else changes but that a new
cycle begins. That an idle step passes one tick is log entry 2, how a phase is slewed log entry 51. -/
def Obligations.IdleStepPassesOneTick : Prop :=
  ∀ s : State, s.pending = [] →
    let held : Prop := s.sys.phase = .reset ∧ s.sys.kind = .powerOn
    let ao : Prop := s.sys.onAo = true ∨ s.sys.mode = .dormant
    let dorm : Prop := s.sys.mode = .dormant ∧ s.sys.phase = .running
    let passes := fun (n : Nat) => ∃ t, step s = .next t ∧ t = { s.newCycle with time := s.time + BitVec.ofNat 64 n, regs := t.regs } ∧
      t.reg R.TMR_DORM = (if dorm ∧ s.reg R.TMR_DORM ≠ 0xFFFFFFFF then s.reg R.TMR_DORM + 1 else s.reg R.TMR_DORM) ∧ RegsBut s t [R.TMR_DORM]
    (held → passes 0) ∧
    (¬ held → ao → s.ulk.waiting = [] → passes 750) ∧
    (¬ held → ¬ ao → s.ulk.slew = 0 → s.ulk.phase.natAbs < 10000000 →
      (s.ulk.waiting = [] → passes 1) ∧
      (∀ w, s.ulk.waiting = [w] → s.now + 1 < 2 ^ 64 → ∃ t, step s = .next t ∧ t.now = s.now + 1 ∧
        (s.ulk.laneEnd ≤ 15625 * (s.now + 1) → t.ulk.waiting = [] ∧
          t.ulk.sent = s.ulk.sent ++ [⟨w.type, w.dst, s.sys.straps.cid, s.ulk.seq, w.tag, w.payload⟩] ∧ t.ulk.seq = s.ulk.seq + 1) ∧
        (15625 * (s.now + 1) < s.ulk.laneEnd → t.ulk = s.ulk))) ∧
    (¬ held → ¬ ao → s.ulk.waiting = [] → ∃ t, ∃ n : Nat, n ≤ 2 ∧ step s = .next t ∧ t.ulk.phase + t.ulk.slew = s.ulk.phase + s.ulk.slew + 10000000 * ((n : Int) - 1) ∧
      (s.ulk.slew - t.ulk.slew).natAbs ≤ 10 ∧ t.ulk.slew.natAbs ≤ s.ulk.slew.natAbs ∧
      t = { s.newCycle with time := s.time + BitVec.ofNat 64 n, ulk := { s.ulk with slew := t.ulk.slew, phase := t.ulk.phase } })

/-! ### Orrery words -/

/-- Every instruction that has a word decodes from it, for every core; and every word that decodes is the word of the instruction it decodes to, so no two
words spell one instruction and none spells two, and the instruction is well formed. -/
def Obligations.OrreryWordsRoundTrip : Prop :=
  (∀ (i : Instr) (w : Word), encodeOrrery i = some w → ∃ k, decodeOrrery k w = some i) ∧
  ∀ (k : CoreId) (w : Word) (i : Instr), decodeOrrery k w = some i → encodeOrrery i = some w ∧ i.wf = true

/-! ### Bounds -/

/-- Every step keeps every queue, FIFO, store buffer, job list and set of locks within its size, and no RXID is ever allocated twice (R22, R304, R343, R355, R379,
R380, R485, R490).
What a cycle is, whose starts a STOP gives back, is log entry 5 (DEDUCED). -/
def Obligations.StepKeepsBounds : Prop :=
  ∀ s t : State, s.Bounded → step s = .next t → t.Bounded

/-! ### Orrery instructions on registers -/

/-- Register arithmetic (R346): rd takes the operation of ra and rb, as integers or bits; PC moves to the next word. Immediates (R346): rd takes the operation of ra
and the immediate, extended as the table says. Counts and bit fields (R346, R347): CLZ the leading zeros, POPC the ones; BFX a field of ra, zero- or sign-extended;
BFI the low bits of ra put
into a field of rd, whose other bits stay.
An instruction acts at once, whatever its cycles: log entry 14 (DESIGN CHOICE). -/
def Obligations.ArithmeticInstructions : Prop :=
  ((∀ (s : State) (k : CoreId) (rd ra rb : GReg), CanIssue s k →
      let x := s.g k ra
      let y := s.g k rb
      let pc := s.cores[k].pc + 4
      let n := y.toNat % 32
      Computes (.add k rd ra rb) s k rd (x + y) pc ∧
      Computes (.sub k rd ra rb) s k rd (x - y) pc ∧
      Computes (.and k rd ra rb) s k rd (x &&& y) pc ∧
      Computes (.or k rd ra rb) s k rd (x ||| y) pc ∧
      Computes (.xor k rd ra rb) s k rd (x ^^^ y) pc ∧
      Computes (.sll k rd ra rb) s k rd (BitVec.ofNat 32 (x.toNat * 2 ^ n)) pc ∧
      Computes (.srl k rd ra rb) s k rd (BitVec.ofNat 32 (x.toNat / 2 ^ n)) pc ∧
      Computes (.sra k rd ra rb) s k rd (BitVec.ofInt 32 (x.toInt / 2 ^ n)) pc ∧
      Computes (.mul k rd ra rb) s k rd (BitVec.ofNat 32 (x.toNat * y.toNat)) pc ∧
      Computes (.mulh k rd ra rb) s k rd (BitVec.ofInt 32 (x.toInt * y.toInt / 2 ^ 32)) pc ∧
      Computes (.min k rd ra rb) s k rd (BitVec.ofInt 32 (Min.min x.toInt y.toInt)) pc ∧
      Computes (.max k rd ra rb) s k rd (BitVec.ofInt 32 (Max.max x.toInt y.toInt)) pc) ∧
   (∀ (s : State) (k : CoreId) (rd ra : GReg) (imm : BitVec 16) (sh : BitVec 5), CanIssue s k →
      let x := s.g k ra
      let pc := s.cores[k].pc + 4
      Computes (.addi k rd ra imm) s k rd (BitVec.ofInt 32 (x.toInt + imm.toInt)) pc ∧
      Computes (.andi k rd ra imm) s k rd (x &&& imm.setWidth 32) pc ∧
      Computes (.ori k rd ra imm) s k rd (x ||| imm.setWidth 32) pc ∧
      Computes (.xori k rd ra imm) s k rd (x ^^^ imm.setWidth 32) pc ∧
      Computes (.slli k rd ra sh) s k rd (BitVec.ofNat 32 (x.toNat * 2 ^ sh.toNat)) pc ∧
      Computes (.srli k rd ra sh) s k rd (BitVec.ofNat 32 (x.toNat / 2 ^ sh.toNat)) pc ∧
      Computes (.srai k rd ra sh) s k rd (BitVec.ofInt 32 (x.toInt / 2 ^ sh.toNat)) pc ∧
      Computes (.lui k rd imm) s k rd (BitVec.ofNat 32 (imm.toNat * 65536)) pc)) ∧
  (∀ (s : State) (k : CoreId) (rd ra : GReg) (sgn : Bool) (lsb w : Nat), CanIssue s k →
     let x := s.g k ra
     let pc := s.cores[k].pc + 4
     (∃ n ≤ 32, (∀ i < n, x.getLsbD (31 - i) = false) ∧ (n < 32 → x.getLsbD (31 - n) = true) ∧
       Computes (.clz k rd ra) s k rd (BitVec.ofNat 32 n) pc) ∧
     Computes (.popc k rd ra) s k rd (BitVec.ofNat 32 ((List.range 32).countP fun i => x.getLsbD i)) pc ∧
     (1 ≤ w → lsb + w ≤ 32 →
       (∃ v : Word, (∀ i < 32, v.getLsbD i = if i < w then x.getLsbD (lsb + i) else sgn && x.getLsbD (lsb + w - 1)) ∧
         Computes (.bfx k rd ra sgn lsb w) s k rd v pc) ∧
       (∃ v : Word, (∀ i < 32, v.getLsbD i = if lsb ≤ i ∧ i < lsb + w then x.getLsbD (i - lsb) else (s.g k rd).getLsbD i) ∧
         Computes (.bfi k rd ra lsb w) s k rd v pc)))

/-- Control transfer (R346, R348): a branch goes to its own address plus four times its signed offset when its comparison holds and to the next
word when not; JAL leaves the return address in g30, JALR in rd, its target taken from ra before rd is written.
An instruction acts at once, whatever its cycles: log entry 14 (DESIGN CHOICE). -/
def Obligations.ControlTransfer : Prop :=
  ∀ (s : State) (k : CoreId) (rd ra rb : GReg) (off imm : BitVec 16) (far : BitVec 26), CanIssue s k →
    let x := s.g k ra
    let y := s.g k rb
    let pc := s.cores[k].pc
    let go := fun (b : Prop) [Decidable b] => if b then BitVec.ofInt 32 (pc.toInt + 4 * off.toInt) else pc + 4
    Moves (.beq k ra rb off) s k (go (x = y)) ∧
    Moves (.bne k ra rb off) s k (go (x ≠ y)) ∧
    Moves (.blt k ra rb off) s k (go (x.toInt < y.toInt)) ∧
    Moves (.bge k ra rb off) s k (go (y.toInt ≤ x.toInt)) ∧
    Moves (.bltu k ra rb off) s k (go (x.toNat < y.toNat)) ∧
    Moves (.bgeu k ra rb off) s k (go (y.toNat ≤ x.toNat)) ∧
    Computes (.jal k far) s k 30 (pc + 4) (BitVec.ofInt 32 (pc.toInt + 4 * far.toInt)) ∧
    Computes (.jalr k rd ra imm) s k rd (pc + 4) (BitVec.ofInt 32 ((x.toInt + imm.toInt) / 4 * 4))

/-! ### Orrery loads, stores, atomics and fences -/

/-- Loads from the core's own DTCM, through either window, complete at once (R344): rd takes the word, halfword or byte, sign- or zero-extended. A load from any
other target the core may load stalls it in MEM until the data returns (R343): nothing but the load outstanding is new.
When the data of another target comes is log entry 14 (DESIGN CHOICE). -/
def Obligations.LoadsFromDtcmAndElsewhere : Prop :=
  (∀ (s : State) (k : CoreId) (rd ra : GReg) (imm : BitVec 16), CanIssue s k →
     let a := s.g k ra + imm.signExtend 32
     let g := globalAddr k a.toNat
     let pc := s.cores[k].pc + 4
     ownDtcm k a.toNat = true →
     (a.toNat % 4 = 0 → Computes (.lw k rd ra imm) s k rd (BitVec.ofNat 32 (s.seenAt k g 4)) pc) ∧
     (a.toNat % 2 = 0 → Computes (.lh k rd ra imm) s k rd ((BitVec.ofNat 16 (s.seenAt k g 2)).signExtend 32) pc ∧
       Computes (.lhu k rd ra imm) s k rd (BitVec.ofNat 32 (s.seenAt k g 2)) pc) ∧
     Computes (.lb k rd ra imm) s k rd ((BitVec.ofNat 8 (s.seenAt k g 1)).signExtend 32) pc ∧
     Computes (.lbu k rd ra imm) s k rd (BitVec.ofNat 32 (s.seenAt k g 1)) pc) ∧
  (∀ (s : State) (k : CoreId) (rd ra : GReg) (imm : BitVec 16), CanIssue s k →
     let a := s.g k ra + imm.signExtend 32
     let stalls := fun (c : Instr) (size : Nat) (sgn : Bool) => a.toNat % size = 0 → s.loadable k (globalAddr k a.toNat) size = true →
       exec c s = .next (s.modCore k fun x => { x with load := some ⟨a, size, sgn, rd⟩ })
     ownDtcm k a.toNat = false →
     stalls (.lw k rd ra imm) 4 false ∧ stalls (.lh k rd ra imm) 2 true ∧ stalls (.lhu k rd ra imm) 2 false ∧
     stalls (.lb k rd ra imm) 1 true ∧ stalls (.lbu k rd ra imm) 1 false)

/-- LOAD_COMPLETE (R343, R344, R362, R366, R389, R402): the data outstanding goes to rd and the instruction completes. From SRAM, TCM, MRAM or ROM it
is the bytes there under the core's own stores, in a shared bank those before a write of the other port of the word in the same cycle, and from external
memory what the controller reads under them; from the event queues' banks, whose layout the spec does not give, some value; from a register, read once
every earlier store has taken effect, what the register reads; an error response is a BUS fault, as is an error in MRAM that cannot be corrected, and
one that is corrected is counted and its word rewritten.
When data comes is log entry 14, which banks are the device's own log entry 12, which accesses fall in one cycle log entry 59 (all DESIGN CHOICE), how MRAM reads log
entry 28 (DEDUCED). -/
def Obligations.LoadCompleteDelivers : Prop :=
  ∀ (s : State) (k : CoreId) (l : PendLoad), s.cores[k].load = some l → s.cores[k].stepping = false →
    let a := globalAddr k l.addr.toNat
    let lands := fun (o : ScrubOutcome) (u : State) (v : Word) => Yields (.loadComplete k o) s fun t =>
      (∀ r, t.g k r = if r = l.rd ∧ r ≠ 0 then v else u.g k r) ∧
      t = u.modCore k fun x => { x with g := t.cores[k].g, pc := x.pc + 4, instret := x.instret + 1, load := none }
    let value := fun (byte : Nat → Byte) => l.value (leNat ((List.range l.size).map fun i => (s.ownByte k (a + i)).getD (byte i)))
    let here := value fun i => s.coreByte (a + i) i
    let other := s.dualNow.find? fun d => d.word == a / 4 && !d.portA
    (∀ o, inRegs a = false → inExt a = false → inQueues a = false → inMram a = false → inShared a = false ∨ other = none → lands o s here) ∧
    (∀ o d, inShared a = true → other = some d →
      ∃ same : Bool, lands o (s.drawn 1) (if same = true then value fun i => d.old.getD (a % 4 + i) 0 else value fun i => s.sramByte (a + i))) ∧
    (∀ o, inQueues a = true → ∃ v, lands o (s.drawn 1) v) ∧
    (∀ o, inRegs a = true →
      ((s.drainAll k).storesVisible k = false → exec (.loadComplete k o) s = .next (s.drainAll k)) ∧
      (∀ u, s.drainAll k = u → u.storesVisible k = true → u.cores[k].stepping = false → lands o (u.regRead a).1 (u.regRead a).2)) ∧
    (∀ o, inExt a = true →
      (∀ u bs, s.extRead a l.size = (u, some bs) → lands o u (l.value (leNat (bs.zipIdx.map fun p => (u.ownByte k (a + p.2)).getD p.1)))) ∧
      (∀ u, s.extRead a l.size = (u, none) → Yields (.loadComplete k o) s fun t => Faulted u t k 5 l.addr)) ∧
    (inMram a = true → lands .good s here ∧ lands .weak s here ∧
      lands .corrected (((s.setFld F.MEM_MRAM_STAT_CORR (min 65535 (s.fld F.MEM_MRAM_STAT_CORR + 1))).flag F.MEM_FLAGS_MRAM_CORR).mramIssue
        (a / 4 * 4) [] .scrub) here ∧
      Yields (.loadComplete k .uncorrectable) s fun t =>
        Faulted (((s.flag F.MEM_FLAGS_MRAM_ERR).setReg R.MEM_MRAM_ERR_ADDR (BitVec.ofNat 32 (a / 4 * 4))).raise 0x402 57
          (BitVec.ofNat 32 (a / 4 * 4)) 0) t k 5 l.addr)

/-- A store enters the four-entry buffer and completes (R346, R362), with the buffer full once the oldest has left; memory is as it was until the
entry drains. STORE_BUFFER_DRAIN (R362, R332, R342, R401): the oldest buffered store leaves the buffer, unless an earlier one of the core is on its way into
MRAM, and is seen by contexts that snoop the core's stores. Into a DTCM or a shared bank in use, with no write of the other port at this instant, it
writes its bytes at its global address and no others; into MRAM it becomes a word write on its way and no byte changes yet; into a register, external
memory and another core's ITCM it is the write of each. An empty buffer drains nothing.
When an entry drains is log entry 14, which accesses fall in one cycle log entry 59 (both DESIGN CHOICE). -/
def Obligations.StoresEnterAndLeaveTheBuffer : Prop :=
  (∀ (s u : State) (k : CoreId) (rs ra : GReg) (imm : BitVec 16), CanIssue s k →
     (s.cores[k].storeBuf.length < 4 ∧ u = s) ∨ (4 ≤ s.cores[k].storeBuf.length ∧ exec (.storeBufferDrain k) s = .next u ∧ u.cores[k].run = .running ∧
       u.cores[k].load = none ∧ u.cores[k].stepping = false ∧ u.cores[k].storeBuf.length < 4) →
     let a := s.g k ra + imm.signExtend 32
     let v := (s.g k rs).toNat
     let enters := fun (c : Instr) (size : Nat) => a.toNat % size = 0 → storable k (globalAddr k a.toNat) size = true →
       exec c s = .next (u.modCore k fun x => { x with storeBuf := x.storeBuf ++ [⟨a, size, BitVec.ofNat 32 (v % 2 ^ (8 * size))⟩],
                                                       pc := x.pc + 4, instret := x.instret + 1 })
     enters (.sw k rs ra imm) 4 ∧ enters (.sh k rs ra imm) 2 ∧ enters (.sb k rs ra imm) 1) ∧
  (∀ (s : State) (k : CoreId),
     (s.cores[k].storeBuf = [] ∨ s.mramBusy k = true → exec (.storeBufferDrain k) s = .next s) ∧
     (∀ b rest, s.cores[k].storeBuf = b :: rest → s.mramBusy k = false →
       let a := globalAddr k b.addr.toNat
       let bs := leBytes b.size b.data.toNat
       let u := (s.modCore k fun x => { x with storeBuf := rest }).crcCoreStore k a bs
       (a % b.size = 0 → b.size = 1 ∨ b.size = 2 ∨ b.size = 4 →
         inDtcm a = true ∨ inShared a = true → s.bankDown (bankOf a) = false → (∀ d ∈ s.dualNow, d.portA = true) →
         Yields (.storeBufferDrain k) s fun t =>
           (∀ i (h : i < bs.length), t.byte (a + i) = bs[i]) ∧ (∀ x, x < a ∨ a + bs.length ≤ x → t.byte x = s.byte x) ∧
           t = { u with mem := t.mem, memu := { s.memu with dualAt := t.memu.dualAt, dual := t.memu.dual } }) ∧
       (inMram a = true →
         Yields (.storeBufferDrain k) s fun t => (∀ x, t.byte x = s.byte x) ∧
           (∃ go, t.memu.mramPend = s.memu.mramPend ++ [⟨BitVec.ofNat 32 (a / 4 * 4), bs.zipIdx.map fun p => (a + p.2, p.1), .core k, go⟩]) ∧
           t = { u with memu := t.memu }) ∧
       (inRegs a = true → exec (.storeBufferDrain k) s = .next (u.regWrite (.core k) a b.data)) ∧
       (inExt a = true → exec (.storeBufferDrain k) s = .next (u.extWrite a bs).1) ∧
       (∀ j, itcmCore a = some j → exec (.storeBufferDrain k) s = .next (u.writeItcm (.core k) j a bs))))

/-- AMOADD and AMOSWAP (R361): with every earlier store visible, rd takes the aligned word of a DTCM or of a shared bank in use, and the word
takes the sum with rb, or rb; no other byte changes. FENCE m and FENCE io (R364): with every earlier store visible they complete and do nothing else; with stores
buffered these drain first, and
until they are visible the core stays at the instruction.
That an instruction which must wait for the buffer stays is log entry 15 (DEDUCED). -/
def Obligations.AtomicsAndFences : Prop :=
  (∀ (s : State) (k : CoreId) (rd ra rb : GReg), CanIssue s k → s.storesVisible k = true →
     let a := s.g k ra
     let g := globalAddr k a.toNat
     let old : Word := BitVec.ofNat 32 (leNat (s.bytes g 4))
     let does := fun (c : Instr) (new : Word) => Yields c s fun t =>
       let u := s.crcCoreStore k g (leBytes 4 new.toNat)
       (∀ r, t.g k r = if r = rd ∧ r ≠ 0 then old else s.g k r) ∧
       t.bytes g 4 = leBytes 4 new.toNat ∧ (∀ x, x < g ∨ g + 4 ≤ x → t.byte x = s.byte x) ∧
       t = { u.modCore k fun x => { x with g := t.cores[k].g, pc := x.pc + 4, instret := x.instret + 1 } with mem := t.mem }
     a.toNat % 4 = 0 → inDtcm g = true ∨ inShared g = true → s.bankDown (bankOf g) = false →
     does (.amoadd k rd ra rb) (old + s.g k rb) ∧ does (.amoswap k rd ra rb) (s.g k rb)) ∧
  (∀ (s : State) (k : CoreId), CanIssue s k →
     let pc := s.cores[k].pc + 4
     (s.storesVisible k = true → Moves (.fenceM k) s k pc ∧ Moves (.fenceIo k) s k pc) ∧
     (∀ u, s.drainAll k = u → u.storesVisible k = true → u.cores[k].run = .running → u.cores[k].load = none → u.cores[k].stepping = false →
       Ends (.fenceM k) s u k ∧ Ends (.fenceIo k) s u k) ∧
     ((s.drainAll k).storesVisible k = false →
       exec (.fenceM k) s = .next (s.drainAll k) ∧ exec (.fenceIo k) s = .next (s.drainAll k)))

/-- Misaligned and forbidden accesses fault (R340, R348, R361, R366): word and halfword accesses off their alignment with ALIGN, aligned loads
and stores where the core may not load or store, and atomics outside banks 20-35 and the DTCMs, with ACCESS. A word that is no instruction (R345), a bit field
outside the word (R347) and a special register not listed or not writable (R349) fault
with ILLEGAL. A core whose PC lies outside its own ITCM and, for OC0, outside the open boot ROM faults with FETCH whatever the instruction (R340, R348).
That an access both misaligned and forbidden reports ALIGN, and that a fault leaves the buffered stores in place, is log entry 17 (DEDUCED). -/
def Obligations.BadAccessesAndInstructionsFault : Prop :=
  ((∀ (s : State) (k : CoreId) (rd ra rb : GReg) (imm : BitVec 16), CanIssue s k →
      let a := s.g k ra + imm.signExtend 32
      let faults := fun (c : Instr) (x : Word) (size : Nat) (ok : Bool) =>
        (x.toNat % size ≠ 0 → Yields c s fun t => Faulted s t k 3 x) ∧
        (x.toNat % size = 0 → ok = false → Yields c s fun t => Faulted s t k 4 x)
      let ld := s.loadable k (globalAddr k a.toNat)
      let st := storable k (globalAddr k a.toNat)
      faults (.lw k rd ra imm) a 4 (ld 4) ∧ faults (.lh k rd ra imm) a 2 (ld 2) ∧ faults (.lhu k rd ra imm) a 2 (ld 2) ∧
      faults (.lb k rd ra imm) a 1 (ld 1) ∧ faults (.lbu k rd ra imm) a 1 (ld 1) ∧
      faults (.sw k rd ra imm) a 4 (st 4) ∧ faults (.sh k rd ra imm) a 2 (st 2) ∧ faults (.sb k rd ra imm) a 1 (st 1) ∧
      (s.storesVisible k = true →
        let g := globalAddr k (s.g k ra).toNat
        faults (.amoadd k rd ra rb) (s.g k ra) 4 (inShared g || inDtcm g) ∧
        faults (.amoswap k rd ra rb) (s.g k ra) 4 (inShared g || inDtcm g))) ∧
   (∀ (s : State) (k : CoreId) (rd ra : GReg) (sgn : Bool) (lsb w : Nat) (n : BitVec 8) (word : Word), CanIssue s k →
      let illegal := fun (c : Instr) => Yields c s fun t => Faulted s t k 1 0
      (decodeOrrery k word = none → illegal (.illegalInstruction k word)) ∧
      (w = 0 ∨ 32 < lsb + w → illegal (.bfx k rd ra sgn lsb w) ∧ illegal (.bfi k rd ra lsb w)) ∧
      (7 < n.toNat → illegal (.mfs k rd n)) ∧ (n ≠ 3 → n ≠ 6 → illegal (.mts k n ra)))) ∧
  (∀ (s : State) (k : CoreId) (word : Word) (i : Instr), decodeOrrery k word = some i →
     s.cores[k].run = .running → s.cores[k].load = none → s.fetchable k s.cores[k].pc.toNat = false →
     Yields i s fun t => Faulted s t k 2 0)

/-! ### Orrery time, events and special registers -/

/-- WAITT and WAITE (R350, R351): a time already reached gives 1, a permitted event with E = 1 gives 2, and otherwise the core waits; WAITE gives
the number of events queued when one is permitted. The end of a wait (R350, R351): device time reached gives 0, a permitted event queued before it gives 2
in WAITT with E = 1, and in WAITE a permitted event the number of events; the core runs on.
When a wait ends is log entry 14 (DESIGN CHOICE). -/
def Obligations.WaitsBeginAndEnd : Prop :=
  (∀ (s : State) (k : CoreId) (e : Bool) (rd ra rb : GReg), CanIssue s k →
     let T : Nat := (s.g k ra).toNat + 2 ^ 32 * (s.g k rb).toNat
     let pc := s.cores[k].pc + 4
     let permitted : Prop := ∃ r ∈ s.evc.queues[k], s.cores[k].evmask.getLsbD (r.ev.code.toNat / 256) = true
     let waits := fun (w : CoreWait) => s.modCore k fun x => { x with run := .waiting w }
     (T ≤ s.now → Computes (.waitt k e rd ra rb) s k rd 1 pc) ∧
     (s.now < T → e = true → permitted → Computes (.waitt k e rd ra rb) s k rd 2 pc) ∧
     (s.now < T → e = false ∨ ¬ permitted → exec (.waitt k e rd ra rb) s = .next (waits (.time (BitVec.ofNat 64 T) e rd))) ∧
     (permitted → Computes (.waite k rd) s k rd (BitVec.ofNat 32 s.evc.queues[k].length) pc) ∧
     (¬ permitted → exec (.waite k rd) s = .next (waits (.event rd)))) ∧
  (∀ (s : State) (k : CoreId) (rd : GReg), s.cores[k].stepping = false →
     let permitted : Prop := ∃ r ∈ s.evc.queues[k], s.cores[k].evmask.getLsbD (r.ev.code.toNat / 256) = true
     let ends := fun (c : Instr) (v : Word) => Yields c s fun t => (∀ r, t.g k r = if r = rd ∧ r ≠ 0 then v else s.g k r) ∧
       t = s.modCore k fun x => { x with run := .running, g := t.cores[k].g, pc := x.pc + 4, instret := x.instret + 1 }
     (∀ T e, s.cores[k].run = .waiting (.time T e rd) →
       let early : Prop := ∃ r ∈ s.evc.queues[k], s.cores[k].evmask.getLsbD (r.ev.code.toNat / 256) = true ∧ r.at_ < T
       (T.toNat ≤ s.now → (e = true ∧ early → ends (.waittTimeReached k) 2) ∧ (e = false ∨ ¬ early → ends (.waittTimeReached k) 0)) ∧
       (s.now < T.toNat → exec (.waittTimeReached k) s = .next s) ∧
       (e = true → (early → ends (.waitEventResume k) 2) ∧ (¬ early → exec (.waitEventResume k) s = .next s)) ∧
       (e = false → exec (.waitEventResume k) s = .next s)) ∧
     (s.cores[k].run = .waiting (.event rd) → ¬ permitted → exec (.waitEventResume k) s = .next s) ∧
     (s.cores[k].run = .waiting (.event rd) → permitted → ends (.waitEventResume k) (BitVec.ofNat 32 s.evc.queues[k].length)))

/-- MFS and MTS (R349): TIME_LO is bits 31:0 of device time and latches bits 63:32 for TIME_HI; CORE_ID, EVMASK, INSTRET and LSRES read as held; CYCLE is
the core's count, which goes up by the CORE cycles of the time passed: at the clock's 400 MHz or, under down-spread, at up to 0.5 % less; MTS writes EVMASK and WDOG.
WDOG, which is write-only, reads zero as its access type WO says (DEDUCED, log entry 16). -/
def Obligations.SpecialRegisters : Prop :=
  ∀ (s : State) (k : CoreId) (rd ra : GReg), CanIssue s k →
    let pc := s.cores[k].pc + 4
    let x := s.cores[k]
    (Yields (.mfs k rd 0) s fun t => (∀ r, t.g k r = if r = rd ∧ r ≠ 0 then BitVec.ofNat 32 s.now else s.g k r) ∧
      t = s.modCore k fun y => { y with g := t.cores[k].g, pc := pc, instret := x.instret + 1, timeHi := BitVec.ofNat 32 (s.now / 2 ^ 32) }) ∧
    Computes (.mfs k rd 1) s k rd x.timeHi pc ∧
    Computes (.mfs k rd 2) s k rd (BitVec.ofNat 32 (k + 256 * s.sys.straps.cid.toNat)) pc ∧
    Computes (.mfs k rd 3) s k rd x.evmask pc ∧
    (let d := s.now - x.cycleAt.toNat;
      ∃ n : Nat, (s.on F.SYS_CLK_CTL_CORE_SSC = false → x.cycle + d * 3125 / 192 ≤ n) ∧ x.cycle + d * 3125 * 995 / 192000 ≤ n ∧
        n ≤ x.cycle + d * 3125 / 192 + 1 ∧
        Yields (.mfs k rd 4) s fun t => (∀ r, t.g k r = if r = rd ∧ r ≠ 0 then BitVec.ofNat 32 n else s.g k r) ∧
          t = (s.drawn 1).modCore k fun y => { y with g := t.cores[k].g, pc := pc, instret := x.instret + 1, cycle := n, cycleAt := s.time }) ∧
    Computes (.mfs k rd 5) s k rd x.instret pc ∧
    Computes (.mfs k rd 6) s k rd 0 pc ∧
    Computes (.mfs k rd 7) s k rd x.lsres pc ∧
    (exec (.mts k 3 ra) s = .next (s.modCore k fun y => { y with evmask := s.g k ra, pc := pc, instret := x.instret + 1 })) ∧
    (exec (.mts k 6 ra) s = .next (s.modCore k fun y => { y with wdog := s.g k ra, wdogAt := s.time, pc := pc, instret := x.instret + 1 }))

/-- EVPOP (R332, R352, R374): with every earlier store visible, the oldest record of the core's queue, masked or not, is stored at the aligned
address in its own DTCM, code first, where contexts that snoop the core's stores see it, and rd takes the code; an empty queue gives 0x8000_0000 and changes no
memory; a misaligned address
faults with ALIGN, one outside the own DTCM with ACCESS.
That ALIGN is reported of an address both misaligned and outside the DTCM is log entry 17, the wait for earlier stores log entry 15 (both DEDUCED). -/
def Obligations.EvpopTakesTheOldestEvent : Prop :=
  ∀ (s : State) (k : CoreId) (rd ra : GReg), CanIssue s k → s.storesVisible k = true →
    let a := s.g k ra
    let g := globalAddr k a.toNat
    (a.toNat % 16 ≠ 0 → Yields (.evpop k rd ra) s fun t => Faulted s t k 3 a) ∧
    (a.toNat % 16 = 0 → ownDtcm k a.toNat = false → Yields (.evpop k rd ra) s fun t => Faulted s t k 4 a) ∧
    (a.toNat % 16 = 0 → ownDtcm k a.toNat = true → s.bankDown (bankOf g) = false →
      (s.evc.queues[k] = [] → Computes (.evpop k rd ra) s k rd 0x80000000 (s.cores[k].pc + 4)) ∧
      (∀ r rest, s.evc.queues[k] = r :: rest → Yields (.evpop k rd ra) s fun t =>
        (∀ q, t.g k q = if q = rd ∧ q ≠ 0 then r.ev.code.setWidth 32 else s.g k q) ∧
        t.bytes g 16 = leBytes 2 r.ev.code.toNat ++ [r.ev.src, r.ev.aux] ++ leBytes 4 r.ev.ctx.toNat ++ leBytes 6 r.ev.stamp.toNat ++
          leBytes 2 r.seq.toNat ∧
        (∀ x, x < g ∨ g + 16 ≤ x → t.byte x = s.byte x) ∧
        t = { s.crcCoreStore k g r.bytes with mem := t.mem, evc := { s.evc with queues := s.evc.queues.set k rest }, cycle := t.cycle
                                              cores := s.cores.set k { s.cores[k] with g := t.cores[k].g, pc := s.cores[k].pc + 4
                                                                                       instret := s.cores[k].instret + 1 } }))

/-! ### Orrery instructions on other units -/

/-- TQADD (R260, R261, R353): a valid EVENT action takes a free queue entry, whose index and new generation make the handle returned; with no entry
free it returns 0x8000_0001 and sets TQ_FULL; a gate naming no reception in flight, or a kind that is neither 1 nor 2, returns
0x8000_0003 and adds nothing. A TX action that is accepted stands in the queue under the descriptor's instant and gate; one whose descriptor, port and payload are
good but whose
instant is less than 250 us away (R33) is answered 0x8000_0002, counted and reported by TX_LATE, before the room is looked at. TQCAN (R263, R353): a handle whose
generation is not the entry's returns 2; one whose action has gone, 1; one that names a queued EVENT action
takes it out of the queue and returns 0, as one of a queued transmission of a core's does; of a host's or a deferred one it returns 0 and the entry completes
CANCELLED; of a transmission whose stream is taken or on the air nothing changes and it returns 1. The order of the refusals, that a past
EVENT is accepted, and what TQCAN answers below index 126 and of a core's own action are log entry 18 (DEDUCED). -/
def Obligations.TransmitQueueInstructions : Prop :=
  (∀ (s u : State) (k : CoreId) (rd ra : GReg) (v : Nat), CanIssue s k → s.storesVisible k = true →
     let a := s.g k ra
     let g := globalAddr k a.toNat
     let d := parseAction v
     let c : Instr := .tqadd k rd ra
     let gate : Option Rxid := if d.gated then some d.rxid else none
     a.toNat % 4 = 0 → s.descLoadable k g 16 = true → s.coreLoad k g 16 = (u, some v) →
     (d.gated = true ∧ d.rxid ∉ u.dmd.used ∨ (d.kind ≠ 1 ∧ d.kind ≠ 2) → Finishes c s u k rd 0x80000003) ∧
     ((d.gated = true → d.rxid ∈ u.dmd.used) →
       (∀ i, d.kind = 2 → u.freeEntry 126 130 = some i →
         let gen := (u.genOf i + 1) % 256
         Finishes c s { u with mac := { u.mac with gens := sput u.mac.gens i gen, events := u.mac.events ++ [⟨i, d.time, k, d.mask, d.arg, gate⟩] } }
           k rd (BitVec.ofNat 32 (i + 256 * gen))) ∧
       (d.kind = 2 → u.freeEntry 126 130 = none → Yields c s fun t => (rd ≠ 0 → t.g k rd = 0x80000001) ∧
         t.on F.MAC_FLAGS_TQ_FULL = true ∧ t.mac = u.mac) ∧
       (d.kind = 1 → Yields c s fun t => (rd ≠ 0 → (t.g k rd).getLsbD 31 = false →
         ∃ o ∈ t.mac.ops, o.kind = .core k (BitVec.ofNat 32 d.ptr) ∧ o.time = d.time ∧ o.gate = gate ∧ o.inQueue = true ∧ o.stage = .queued)) ∧
       (∀ (b bs : List Byte) (h : d.port < 6) (lots : List Nat) (mask : Option (List Byte)),
         let x : SubDesc := { parseSub b with port := d.port }
         let p := u.txPort ⟨d.port, h⟩
         d.kind = 1 → u.unitRead d.ptr 64 = (u, some b) → u.descBad x false = false →
         u.toward (netAddr u.domain x.dst) (u.plan p) (lotsOf x.lots) d.time = (u, lots, mask) → lots ≠ [] → u.fldBit F.TXP_CTL_PORT_EN p = true →
         u.readPlain x = (u, .ok bs) →
         (d.time < u.now + 6144 → Finishes c s ((u.tally 6).raise 0x103 34 (BitVec.ofNat 32 d.ptr) 0) k rd 0x80000002) ∧
         (u.now + 6144 ≤ d.time → u.freeEntry 126 130 = none → Yields c s fun t => (rd ≠ 0 → t.g k rd = 0x80000001) ∧
           t.on F.MAC_FLAGS_TQ_FULL = true ∧ t.mac = u.mac) ∧
         (∀ i, u.now + 6144 ≤ d.time → u.freeEntry 126 130 = some i → Yields c s fun t => ∃ o,
           (rd ≠ 0 → t.g k rd = BitVec.ofNat 32 (i + 256 * ((u.genOf i + 1) % 256))) ∧
           t.mac.ops = u.mac.ops ++ [o] ∧ o.index = i ∧ o.kind = .core k (BitVec.ofNat 32 d.ptr) ∧ o.time = d.time ∧ o.gate = gate ∧ o.port = p ∧ o.lots = lots)))) ∧
  (∀ (s : State) (k : CoreId) (rd ra : GReg), CanIssue s k →
     let i := (s.g k ra).toNat % 256
     let gen := (s.g k ra).toNat / 256 % 256
     let c : Instr := .tqcan k rd ra
     (i < 126 ∨ kget? s.mac.gens i ≠ some gen → Finishes c s s k rd 2) ∧
     (126 ≤ i → kget? s.mac.gens i = some gen →
       ((∀ o ∈ s.mac.ops, ¬ (o.inQueue = true ∧ o.index = i)) →
         ((∀ e ∈ s.mac.events, e.index ≠ i) → Finishes c s s k rd 1) ∧
         (∀ e ∈ s.mac.events, e.index = i → e.gate = none → (∀ e' ∈ s.mac.events, e'.index = i → e' = e) →
           Finishes c s { s with mac := { s.mac with events := s.mac.events.filter fun x => x.index != i } } k rd 0)) ∧
       (∀ o, (s.mac.ops.find? fun o => o.inQueue && o.index == i) = some o →
         (o.stage ≠ .queued → Finishes c s s k rd 1) ∧
         (∀ j d, o.stage = .queued → o.kind = .core j d → Yields c s fun t => (rd ≠ 0 → t.g k rd = 0) ∧ (∀ o' ∈ t.mac.ops, o'.id ≠ o.id) ∧
           t.reg (R.TAL_CNTi 6) = s.reg (R.TAL_CNTi 6) + 1) ∧
         (∀ r n, o.stage = .queued → o.kind = .host r n → Finishes c s (s.dropOp o 8) k rd 0) ∧
         (∀ no, o.stage = .queued → o.kind = .deferred no → Finishes c s (s.dropOp o 8) k rd 0))))

/-- LSLD and LSUNL (R354, R356, R357): LSLD of a stall found gives the word at the offset and LSRES 0; no stall gives 0 and LSRES 1, an offset off its
grid 0 and LSRES 5; LSUNL of an own lock releases it, LSRES 0, and a reception that waits for it takes it at once, as an unsecured one whose check passed
is then decided NEW; of any other LSUNL gives LSRES 4. That an offset off its grid is answered before a stall not found, and that a stall without a record is not
locked, is log entry 19 (DEDUCED). LSST (R273, R274, R356): under the core's own lock the bytes of the word that firmware may write take rs's, the others keep their
value and set
RO_WRITE, and LSRES is 0; without the lock nothing is written and LSRES is 4.
How the instructions wait is log entry 15, and that a reception keeps the commit lock while its words wait log entry 28 (both DEDUCED). -/
def Obligations.LedgerWordsThroughTheCores : Prop :=
  (∀ (s u : State) (k : CoreId) (rd ra : GReg) (imm : BitVec 16), CanIssue s k →
     let a := s.g k ra
     let res := fun (w : State) (n : Word) => w.modCore k fun x => { x with lsres := n }
     (¬ (imm.toNat % 4 = 0 ∧ imm.toNat ≤ 124) → Finishes (.lsld k rd ra imm) s (res s 5) k rd 0) ∧
     (imm.toNat % 4 = 0 → imm.toNat ≤ 124 → u.cores = s.cores →
       (∀ i, s.coreStall a = (u, .stall i) →
         Finishes (.lsld k rd ra imm) s (res u 0) k rd (BitVec.ofNat 32 (u.stallLe i imm.toNat 4))) ∧
       (s.coreStall a = (u, .absent) → Finishes (.lsld k rd ra imm) s (res u 1) k rd 0)) ∧
     (s.on F.LGR_CTL_EN = true →
       (∀ l, s.lockOf k a = some l →
         let free := s.modCore k fun x => { x with locks := x.locks.filter fun l => l.addr != a, lsres := 0 }
         let i := l.stall.toNat
         (free.commitLocked i = true ∨ free.coreLocked i = true ∨ free.lockAsked i = false → Ends (.lsunl k ra) s free k) ∧
         (∀ r h, free.commitLocked i = false → free.coreLocked i = false → free.nextAsked i = some r → r.hdr = some h → h.sec = false → r.fcsOk = true →
           Yields (.lsunl k ra) s fun t => ∃ x ∈ t.dmd.rx, x.rxid = r.rxid ∧ x.decision = some .new)) ∧
       ((∀ l ∈ s.cores[k].locks, l.addr ≠ a) → Ends (.lsunl k ra) s (res s 4) k))) ∧
  (∀ (s : State) (k : CoreId) (rs ra : GReg) (imm : BitVec 16), CanIssue s k → s.storesVisible k = true →
     let a := s.g k ra
     let o := imm.toNat
     s.on F.LGR_CTL_EN = true → o % 4 = 0 → o ≤ 124 →
     ((∀ l ∈ s.cores[k].locks, l.addr ≠ a) → Ends (.lsst k rs ra imm) s (s.modCore k fun x => { x with lsres := 4 }) k) ∧
     (∀ l, s.lockOf k a = some l → s.bankDown (l.stall.toNat / 512) = false →
       let base := 0x10000000 + 128 * l.stall.toNat + o
       let may := fun j => 24 ≤ o + j ∧ o + j < 83 ∨ 84 ≤ o + j ∧ o + j < 104
       Yields (.lsst k rs ra imm) s fun t =>
         (∀ j < 4, t.byte (base + j) = if may j then BitVec.ofNat 8 ((s.g k rs).toNat / 2 ^ (8 * j)) else s.byte (base + j)) ∧
         (∀ x, x < base ∨ base + 4 ≤ x → t.byte x = s.byte x) ∧
         ((∃ j < 4, ¬ may j) → t.on F.LGR_FLAGS_RO_WRITE = true) ∧
         RegsBut s t [F.LGR_FLAGS_RO_WRITE.addr] ∧ t.cores[k].lsres = 0 ∧ t.cores[k].g = s.cores[k].g ∧
         t.cores[k].pc = s.cores[k].pc + 4 ∧ (∀ j, j ≠ k → t.cores[j] = s.cores[j])))

/-- LSLOCK and LSLOCK_GRANT (R355, R365): a lock the core already holds is answered with its stall; the lock of a stall found is taken and rd is its
index; a lock another core holds gives HELD at once, a fifth lock LIMIT, an address without a record NOT_FOUND; while a reception has the commit lock, or
waits for the stall's lock itself, the core waits, as it does at the instruction while every stall is held, and goes on with the lock once it is free.
That HELD is answered before LIMIT, and that a core with no stall to page into stays at the instruction, is log entry 19 (DEDUCED).
How an instruction waits is log entry 15, and that a reception keeps the commit lock while its words wait log entry 28 (both DEDUCED). -/
def Obligations.StallLocks : Prop :=
  ∀ (s u : State) (k : CoreId) (rd ra : GReg) (a : Word), s.cores[k].stepping = false → u.cores = s.cores →
    let issues : Prop := CanIssue s k ∧ s.g k ra = a
    let granted : Prop := s.cores[k].run = .waiting (.lock a rd) ∧ s.lowerWaits k a = false
    let ended := fun (n : Word) => u.modCore k fun x => { x with run := .running, lsres := n }
    (∀ i, s.coreStall a = (u, .stall i) →
      let taken := u.modCore k fun x => { x with run := .running, locks := x.locks ++ [⟨BitVec.ofNat 12 i, a, u.time⟩], lsres := 0 }
      let answers := fun (c : Instr) =>
        ((∃ l ∈ s.cores[k].locks, l.addr = a) → Finishes c s (ended 0) k rd (BitVec.ofNat 32 i)) ∧
        ((∀ l ∈ s.cores[k].locks, l.addr ≠ a) →
          (u.coreLocked i = true → Finishes c s (ended 2) k rd 0x80000002) ∧
          (u.coreLocked i = false → 4 ≤ s.cores[k].locks.length → Finishes c s (ended 3) k rd 0x80000003) ∧
          (u.coreLocked i = false → s.cores[k].locks.length < 4 → u.commitLocked i = false → u.lockAsked i = false →
            Finishes c s taken k rd (BitVec.ofNat 32 i)))
      let mustWait : Prop := (∀ l ∈ s.cores[k].locks, l.addr ≠ a) ∧ u.coreLocked i = false ∧ s.cores[k].locks.length < 4 ∧
        (u.commitLocked i = true ∨ u.lockAsked i = true)
      (issues → answers (.lslock k rd ra) ∧
        (mustWait → exec (.lslock k rd ra) s = .next (u.modCore k fun x => { x with run := .waiting (.lock a rd) }))) ∧
      (granted → answers (.lslockGrant k) ∧ (mustWait → exec (.lslockGrant k) s = .next u))) ∧
    (s.coreStall a = (u, .absent) → (issues → Finishes (.lslock k rd ra) s (ended 1) k rd 0x80000001) ∧
      (granted → Finishes (.lslockGrant k) s (ended 1) k rd 0x80000001)) ∧
    (s.coreStall a = (u, .noRoom) → (issues → exec (.lslock k rd ra) s = .next u) ∧ (granted → exec (.lslockGrant k) s = .next u)) ∧
    (∀ b r, s.cores[k].run = .waiting (.lock b r) → s.lowerWaits k b = true → exec (.lslockGrant k) s = .next s)

/-- CJOB and CRCB (R304, R334, R359, R360): with CJOB_EN = 0 CJOB returns 2, off the regions allowed 3, with 32 jobs queued 1 and CJOB_FULL set; else it queues the
job of its core and returns 0. CRCB feeds the byte to a context whose source is DIRECT and returns its VALUE; to any other the byte is
lost with FEED_ERR.
That a job takes its descriptor and key when it is submitted, and the order of the refusals, is log entry 20 (DEDUCED). -/
def Obligations.CipherJobsAndCheckValues : Prop :=
  ∀ (s : State) (k : CoreId) (rd ra rb : GReg), CanIssue s k →
    let a := s.g k ra
    let g := globalAddr k a.toNat
    let c : Instr := .cjob k rd ra
    (s.storesVisible k = true → a.toNat % 4 = 0 →
      (s.on F.CPH_CTL_CJOB_EN = false → Finishes c s s k rd 2) ∧
      (s.on F.CPH_CTL_CJOB_EN = true → cjobRegion g 32 = false → Finishes c s s k rd 3) ∧
      (s.on F.CPH_CTL_CJOB_EN = true → cjobRegion g 32 = true →
        (32 ≤ s.key.jobs.length → Finishes c s (s.flag F.CPH_FLAGS_CJOB_FULL) k rd 1) ∧
        (s.key.jobs.length < 32 → ∀ u desc, s.unitRead g 32 = (u, desc) →
          let b := desc.bind fun x => if (parseJob x).valid = true then u.bindJob (parseJob x) else none
          Finishes c s { u with key := { u.key with jobs := sput u.key.jobs u.key.nextJob ⟨k, BitVec.ofNat 32 g, desc, b, false⟩
                                                    nextJob := u.key.nextJob + 1 } } k rd 0))) ∧
    (let n : Fin 4 := Fin.ofNat 4 (s.g k rb).toNat
      let v := crcBytes (s.crcPoly n) (s.crcValue n) [BitVec.ofNat 8 a.toNat]
      (s.fld (F.CRC_CTXn_CTL_SRC n) = 0 → Yields (.crcb k rd ra rb) s fun t => (rd ≠ 0 → t.g k rd = t.crcValue n) ∧ t.reg (R.CRC_CTXn_VALUE n) = v ∧
        t.fld (F.CRC_CTXn_STAT_BYTES n) = min 0xFFFFFF (s.fld (F.CRC_CTXn_STAT_BYTES n) + 1) ∧
        RegsBut s t [R.CRC_CTXn_VALUE n, R.CRC_CTXn_STAT n] ∧ t = { s with cores := t.cores, regs := t.regs } ∧
        t.cores[k].pc = s.cores[k].pc + 4) ∧
      (s.fld (F.CRC_CTXn_CTL_SRC n) ≠ 0 →
        Finishes (.crcb k rd ra rb) s (s.flagBit F.CRC_FLAGS_FEED_ERR n) k rd (s.crcValue n)))

/-! ### Core control -/

/-- CORE_START (R339, R368, R371): from a core, or from the host while HOST_CTL = 1, each STOPPED or HALTED core of the mask that no STOP of this cycle
names starts at its OCC_BOOTk with g1 to g31 zero and its special registers at their start values; the others go on as they were. A host's write while
HOST_CTL = 0 is discarded with HOST_REFUSED. CORE_STOP (R369, R371, R373): each core of the mask that runs stops after its instruction, at once unless a load is
outstanding; a wait is
abandoned with PC at the waiting instruction; its locks are released and OCC_EPCk keeps its PC. A STOP and a START of one core in one cycle leave it
stopped as it was, whichever comes first and from whichever agents (R365); what one cycle is in the model is log entry 5 (DEDUCED). That STOP leaves the buffered stores to drain later is log entry 17 (DEDUCED). -/
def Obligations.CoresStartAndStop : Prop :=
  (∀ (s : State) (agent : Agent) (mask : BitVec 8),
     (agent = .host → s.on F.OCC_CFG_HOST_CTL = false → exec (.coreStart agent mask) s = .next (s.flag F.OCC_FLAGS_HOST_REFUSED) ∧
       exec (.coreStop agent mask) s = .next (s.flag F.OCC_FLAGS_HOST_REFUSED)) ∧
     (agent = .host → s.on F.OCC_CFG_HOST_CTL = true) →
       let starts := fun (k : CoreId) => mask.getLsbD k = true ∧ s.cycle.stopped.getLsbD k = false ∧ (s.cores[k].run = .stopped ∨ s.cores[k].run = .halted)
       Yields (.coreStart agent mask) s fun t =>
         (∀ k : CoreId, starts k →
           t.cores[k] = { s.cores[k] with run := .running, g := Vector.replicate 32 0, pc := s.reg (R.OCC_BOOTk k) &&& 0xFFFFFFFC, timeHi := 0
                                          evmask := 0xFFFF, cycle := 0, cycleAt := s.time, instret := 0, wdog := 0, lsres := 0, load := none
                                          locks := [], stepping := false } ∧
           t.reg (R.OCC_CAUSEk k) = 0) ∧
         (∀ k : CoreId, ¬ starts k → t.cores[k] = s.cores[k] ∧ t.reg (R.OCC_CAUSEk k) = s.reg (R.OCC_CAUSEk k)) ∧
         RegsBut s t ((List.range 8).map fun k => R.OCC_CAUSEk k) ∧ t = { s with cores := t.cores, regs := t.regs, cycle := t.cycle }) ∧
  (∀ (s : State) (agent : Agent) (mask : BitVec 8), (agent = .host → s.on F.OCC_CFG_HOST_CTL = true) → s.cycle.started = [] →
     Yields (.coreStop agent mask) s fun t =>
       (∀ k : CoreId, mask.getLsbD k = true → (s.cores[k].run = .running ∧ s.cores[k].load = none) ∨ (∃ w, s.cores[k].run = .waiting w) →
         t.cores[k] = { s.cores[k] with run := .stopped, locks := [], stepping := false } ∧ t.reg (R.OCC_EPCk k) = s.cores[k].pc) ∧
       (∀ k : CoreId, mask.getLsbD k = true → s.cores[k].run = .running → s.cores[k].load ≠ none →
         t.cores[k] = { s.cores[k] with stepping := true }) ∧
       (∀ k : CoreId, mask.getLsbD k = false ∨ s.cores[k].run = .stopped ∨ s.cores[k].run = .halted → t.cores[k] = s.cores[k]) ∧
       RegsBut s t ((List.range 8).map fun k => R.OCC_EPCk k) ∧
       t = { s with cores := t.cores, regs := t.regs, cycle := { s.cycle with stopped := s.cycle.stopped ||| mask } }) ∧
  (∀ (s u t : State) (a b : Agent) (m : BitVec 8) (k : CoreId), m.getLsbD k = true → s.cores[k].run = .stopped ∨ s.cores[k].run = .halted →
     s.cycle.started = [] → (a = .host ∨ b = .host → s.on F.OCC_CFG_HOST_CTL = true) →
     (exec (.coreStart a m) s = .next u ∧ exec (.coreStop b m) u = .next t ∨ exec (.coreStop a m) s = .next u ∧ exec (.coreStart b m) u = .next t) →
     t.cores[k] = s.cores[k] ∧ t.reg (R.OCC_CAUSEk k) = s.reg (R.OCC_CAUSEk k))

/-- ITCM_WRITE and OCC_CFG_LOCK (R332, R342, R371): a word is written into the ITCM of a STOPPED or HALTED core and nowhere else; of a core that is not, it
is discarded with ITCM_WP; contexts that snoop a core's stores see its word; a core's own ITCM refuses it with an ACCESS fault; OCC_CFG takes HOST_CTL and LOCK until
LOCK is set, and then nothing. LOCK_OVERRUN and WATCHDOG_EXPIRE (R358, R367): a stall lock held too long sets LOCK_LONG and raises LOCK_OVERRUN, the lock staying; a
core that runs
or waits with a non-zero WDOG faults with WATCHDOG once that many us have passed since it was written, its count stopped, and not before.
Where an address is reported is log entry 17 (DEDUCED). -/
def Obligations.ItcmLockAndOverruns : Prop :=
  (∀ (s : State) (agent : Agent) (core : CoreId) (off : BitVec 14) (w v : Word),
     let a := 0x20000000 + 0x20000 * core.val + 4 * off.toNat
     let c : Instr := .itcmWrite agent core off w
     (∀ k, agent = .core k → k = core → Yields c s fun t => Faulted s t k 4 (BitVec.ofNat 32 a)) ∧
     let seen := match agent with | .core k => s.crcCoreStore k a (leBytes 4 w.toNat) | .host => s
     (agent ≠ .core core → (agent = .host → s.on F.OCC_CFG_HOST_CTL = true) →
       (s.cores[core].run = .stopped ∨ s.cores[core].run = .halted → s.bankDown (8 + core.val) = false →
         Yields c s fun t => t.bytes a 4 = leBytes 4 w.toNat ∧ (∀ x, x < a ∨ a + 4 ≤ x → t.byte x = s.byte x) ∧ t = { seen with mem := t.mem }) ∧
       (s.cores[core].run ≠ .stopped → s.cores[core].run ≠ .halted → exec c s = .next (seen.flag F.OCC_FLAGS_ITCM_WP))) ∧
     (agent = .host → s.on F.OCC_CFG_HOST_CTL = false → exec c s = .next (s.flag F.OCC_FLAGS_HOST_REFUSED)) ∧
     (s.on F.OCC_CFG_LOCK = true → exec (.occCfgLock agent v) s = .next s) ∧
     (s.on F.OCC_CFG_LOCK = false → Yields (.occCfgLock agent v) s fun t =>
       t.on F.OCC_CFG_HOST_CTL = v.getLsbD 0 ∧ t.on F.OCC_CFG_LOCK = v.getLsbD 1 ∧ RegsBut s t [R.OCC_CFG] ∧ t = { s with regs := t.regs })) ∧
  (∀ (s : State) (k : CoreId) (stall : BitVec 12),
     ((∃ l ∈ s.cores[k].locks, l.stall = stall ∧ l.since.toNat + 492 ≤ s.now) →
       exec (.lockOverrun k stall) s = .next ((s.flagBit F.OCC_FLAGS_LOCK_LONG k).raise 0x20B (47 + k) (stall.setWidth 32) k)) ∧
     (s.cores[k].wdog = 0 ∨ s.now < s.cores[k].wdogAt.toNat + usDticks s.cores[k].wdog.toNat → exec (.watchdogExpire k) s = .next s) ∧
     (s.cores[k].wdog ≠ 0 → s.cores[k].wdogAt.toNat + usDticks s.cores[k].wdog.toNat ≤ s.now →
       s.cores[k].run = .running ∨ (∃ w, s.cores[k].run = .waiting w) →
       Yields (.watchdogExpire k) s fun t => Faulted (s.modCore k fun x => { x with wdog := 0 }) t k 6 0))

/-! ### Resets, start-up, modes and power -/

/-- POWER_ON_RESET, and the group A supply's fall, which is one (R370, R526, R530, R531): both complete in every state. Every register is at its reset
value but those that show the straps, the grade, OTP and spare words; OC0 runs the boot ROM from address 0 and the others are STOPPED; OTP keeps its
bits but for a burn cut short, MRAM, with the writes under way completed, keeps its contents, and every other byte reads zero.
That a byte without contents reads zero is log entry 6, that structured state starts empty, idle or zero log entry 8, OTP's and the straps' first values log entries
7 and 61 (all DESIGN CHOICE); the writes under way and a burn cut short are log entries 45 and 49 (DEDUCED). -/
def Obligations.PowerOnResetClears : Prop :=
  ∀ (s : State) (straps : Straps),
    let isReset := fun (p : Straps) (t : State) =>
      RegsBut State.reset t [R.SYS_STAT, R.SEC_TAMP_CFG, R.SEC_TEMP_LIM, R.MEM_MRAM_STAT, R.SEC_BOOT] ∧
      t.fld F.SYS_STAT_CID = p.cid.toNat ∧ t.fld F.SYS_STAT_BOOT_SRC = p.bootSrc.toNat ∧ t.on F.SYS_STAT_HOSTSEL = p.hostSel ∧
      t.fld F.SEC_TEMP_LIM_HI = (if s.grade = .e then 140 else 125) ∧
      t.cores[(0 : CoreId)].run = .running ∧ t.cores[(0 : CoreId)].pc = 0 ∧ (∀ k : CoreId, k ≠ 0 → t.cores[k].run = .stopped) ∧
      (s.Inv → (∀ f ∈ s.fills, ∀ a, inMram a = true → f.byteAt a = none) → ∀ a, t.byte a = if inMram a = true then s.mramSettle.byte a else 0) ∧
      t.otp = s.settled.otp ∧ t.time = 0 ∧ t.pending = s.pending ∧ t.mac = State.reset.mac ∧ t.dmd = State.reset.dmd ∧ t.key = State.reset.key ∧
      t.evc = State.reset.evc ∧ t.sys.phase = .reset ∧ t.sys.straps = p
    Yields (.powerOnReset straps) s (isReset straps) ∧
    Yields (.supplyMonitor .groupA) s fun t => isReset s.sys.straps t ∧ t.sys.railEn = false

/-- SYSTEM_RESET and TEST_MODE_ENTRY (R371, R412, R440, R442, R495, R530): a write with code 0xD1 and bit 0 outside LASTGASP and DORMANT completes in every
state: it resets the blocks but keeps time, straps, the registers of R530, those that a lock freezes, those that configure the UARTs, the count of corrected
reads, the configuration space, OTP but for a burn cut short, and every byte of memory under the word writes it completes; any other write does nothing; test mode,
in MAKER or RETURNED, is such a reset with the secure partition zeroed, and
in other states nothing.
What a reset keeps that R530 does not list is log entry 45, a burn cut short log entry 49 (both DEDUCED). -/
def Obligations.SystemResetKeeps : Prop :=
  ∀ (s : State) (agent : Agent) (v : Word),
    let kept := fun (t : State) => t.time = s.time ∧ t.otp = s.settled.otp ∧ t.sys.straps = s.sys.straps ∧ t.sys.phase = .reset ∧ t.sys.kind = .system ∧
      t.cores = State.reset.cores ∧ t.mac = State.reset.mac ∧ t.dmd = State.reset.dmd ∧ t.key = State.reset.key ∧ t.evc = State.reset.evc ∧
      t.pending = s.pending ∧ t.hif.pci = s.hif.pci ∧ t.fld F.MEM_MRAM_STAT_CORR = s.fld F.MEM_MRAM_STAT_CORR ∧
      RegsBut State.reset t (s.keptRegs ++ uartConfig ++ [R.SYS_STAT, R.SEC_TAMP_CFG, R.SEC_TEMP_LIM, R.MEM_MRAM_STAT, R.SEC_BOOT, R.HIF_STAT]) ∧
      ∀ a ∈ s.keptRegs ++ uartConfig, t.reg a = s.reg a
    let asked : Prop := v.toNat / 256 % 256 = 0xD1 ∧ v.getLsbD 0 = true
    let open' : Prop := s.sys.mode ≠ .lastgasp ∧ s.sys.mode ≠ .dormant
    (asked → open' → Yields (.systemReset agent v) s fun t => kept t ∧ ∀ a, t.byte a = s.mramSettle.byte a) ∧
    (¬ (asked ∧ open') → exec (.systemReset agent v) s = .next s) ∧
    (s.otp.lc = .maker ∨ s.otp.lc = .returned → Yields .testModeEntry s fun t => kept t ∧ t.sec.testMode = true ∧
      ∀ a, t.byte a = if bankBase 52 ≤ a ∧ a < bankBase 64 then memDefault s.fills a else s.mramSettle.byte a) ∧
    (s.otp.lc ≠ .maker → s.otp.lc ≠ .returned → exec .testModeEntry s = .next s)

/-- START_UP and START_UP_END (R37, R146, R415, R419, R422, R532, R537, R551): from a reset, and from a wake once RAIL x 100 us have passed, start-up
completes whatever it reads: it enters SURVEY, completes weak OTP bits and, outside test mode, leaves no staged transition, derives the keys from a PUF
response outside the ended life-cycle, and waits for the host's image where BOOT_SRC says so, else sets the QSPI pads and sends the flash its reset and the
read of image A (R553). With an image started its end completes: it shows what began it, raises MODE_CHANGE after any but a power-on reset and WAKE after a
wake, enters SURVEY, and acts on every mains edge held, in order: a loss takes it to LASTGASP (R534).
The order of the start-up is log entry 46, its seal check log entry 50 (both DEDUCED), MARCH_POLICY 3 log entry 13 (DESIGN CHOICE). -/
def Obligations.StartUpRuns : Prop :=
  ∀ (s : State) (inp : BootInputs),
    let settled : Prop := s.sys.railAt.toNat + usDticks (100 * s.fld F.SYS_DORM_CTL_RAIL) ≤ s.now
    (s.sys.phase = .reset ∨ s.sys.phase = .railSettle ∧ settled → Yields (.startUp inp) s fun t =>
      t.sys.phase = .starting ∧ t.sys.mode = .survey ∧ t.otp.weak = [] ∧
      (s.sec.testMode = false → t.sec.staged = none ∧ (inp.puf.length = 32 → t.otp.lc ≠ .ended → t.key.keks.isSome = true) ∧
        (s.sys.straps.bootSrc = 1 → t.hif.bootWait = true ∧ t.on F.HIF_BOOT_READY = true) ∧
        (s.sys.straps.bootSrc ≠ 1 → (t.reg R.SYS_PAD_CTL).toNat / 16 % 8 = 6 ∧
          ∃ more, t.sys.qspi = s.sys.qspi ++ [[0x66], [0x99], [0xEB, 0, 0, 0, 0]] ++ more))) ∧
    (s.sys.phase = .railSettle → ¬ settled → exec (.startUp inp) s = .next s) ∧
    (s.sys.phase = .starting ∨ s.sys.phase = .running → exec (.startUp inp) s = .next s) ∧
    (s.sys.phase = .starting → s.sys.booted = true → Yields .startUpEnd s fun t =>
      t.sys.phase = .running ∧ t.sys.heldEdges = [] ∧
      t.fld F.SYS_START_KIND = startCode s.sys.kind ∧ t.fld F.SYS_START_WAKE = s.sys.wake.toNat ∧
      t.on F.SYS_START_MAINS_HELD = s.sys.heldEdges.any (fun e => e.isSome) ∧
      t.reg (R.TAL_EVCNTc 0x803) = s.reg (R.TAL_EVCNTc 0x803) + BitVec.ofNat 32 (s.sys.heldEdges.countP fun e => e.isSome) ∧
      t.reg (R.TAL_EVCNTc 0x804) = s.reg (R.TAL_EVCNTc 0x804) + BitVec.ofNat 32 (s.sys.heldEdges.countP fun e => e.isNone) ∧
      ((∀ e ∈ s.sys.heldEdges, e = none) → t.sys.mode = .survey ∧ t.fld F.SYS_MODE_STAT_MODE = 4 ∧
        t.reg (R.TAL_EVCNTc 0x800) = s.reg (R.TAL_EVCNTc 0x800) + (if s.sys.kind = .powerOn then 0 else 1) ∧
        t.reg (R.TAL_EVCNTc 0x806) = s.reg (R.TAL_EVCNTc 0x806) + (if s.sys.kind = .wake then 1 else 0) ∧
        t.age = s.wakeAge.age ∧
        t = { s with regs := t.regs, cycle := t.cycle, evc := t.evc, sys := t.sys, age := t.age }) ∧
      ((∃ zc, some zc ∈ s.sys.heldEdges) → t.sys.mode = .lastgasp)) ∧
    (s.sys.phase ≠ .starting ∨ s.sys.booted = false → exec .startUpEnd s = .next s)

/-- MODE_REQUEST (R38, R39, R572): each row of the table either books its transition, makes it at once (SERVICE), or refuses it with MODE_REFUSED and
leaves the mode, as every request without a row is refused; a request during start-up is ignored; a request of FOLLOW that gives the next superframe another
grid takes back the one built (R267). MODE_TRANSITION (R38, R43, R203): at its boundary the pending transition is made: the mode and its register change and
MODE_CHANGE is raised. A superframe starts for HEAD, FOLLOW and SUBORDINATE, and for SURVEY a slot starts with no transmission or driven calibration in
flight and no ACK booked; before its boundary nothing happens. Back in SURVEY the grid is ORIGIN's again (R231). What of R39 a boundary is, and what a
transition does to the superframe built, are log entries 47 and 41 (DEDUCED). -/
def Obligations.ModeRequestsAndTransitions : Prop :=
  (∀ (s : State) (agent : Agent) (v : Word),
     let c := v.toNat % 16
     let m := s.sys.mode
     let req : Instr := .modeRequest agent v
     let books := fun (x : Mode) => exec req s = .next (s.setPend (some x))
     let refused : Prop := exec req s = .next (s.raise 0x801 91 (BitVec.ofNat 32 c) 0)
     let row : Prop := (m = .survey ∧ (c ≤ 1 ∨ c = 3 ∨ c = 6 ∨ c = 7)) ∨ (m = .head ∧ (c = 1 ∨ c = 4)) ∨
       ((m = .follow ∨ m = .holdover) ∧ (c = 0 ∨ c = 4)) ∨ ((m = .subordinate ∨ m = .service) ∧ c = 4)
     (s.sys.phase ≠ .running → exec req s = .next s) ∧
     (m = .dormant → exec req s = .next s) ∧
     (s.sys.phase = .running → m ≠ .dormant → s.sys.dormReq = true → refused) ∧
     (s.sys.phase = .running → m ≠ .dormant → s.sys.dormReq = false →
       (m = .survey → c = 0 →
         (s.sys.straps.cid = 0 → (s.beaconBound (s.fld F.MAC_BCN_CTL_KEYSLOT)).isSome = true → books .head) ∧
         (s.sys.straps.cid ≠ 0 ∨ s.beaconBound (s.fld F.MAC_BCN_CTL_KEYSLOT) = none → refused)) ∧
       (m = .follow ∨ m = .holdover → c = 0 → books .head) ∧
       (m = .survey ∨ m = .head → c = 1 → (s.mayFollow = true → Yields req s fun t => t.sys.pend = some .follow ∧ t.sys.mode = m ∧
           t = { s.setPend (some .follow) with
             mac := { (s.setPend (some .follow)).mac with follow := { s.mac.follow with seen := false, entered := false } } } ∧
           (s.gridMode ≠ .follow → t.mac.built = none ∧ ∀ o ∈ t.mac.ops, ¬ (o.kind = .beacon ∧ o.launch = none))) ∧
         (s.mayFollow = false → refused)) ∧
       (m = .survey → c = 3 → (s.sys.straps.cid ≠ 0 → s.on F.ULK_STAT_ALIGNED = true → books .subordinate) ∧
         (s.sys.straps.cid = 0 ∨ s.on F.ULK_STAT_ALIGNED = false → refused)) ∧
       (m = .head ∨ m = .follow ∨ m = .holdover ∨ m = .subordinate → c = 4 → books .survey) ∧
       (m = .survey → c = 6 → Yields req s fun t => t.sys.pend = some .dormant ∧ t.sys.dormReq = true ∧ t.sys.mode = .survey ∧
         t.mac.events = [] ∧ ∀ o ∈ t.mac.ops, o.stage ≠ .queued) ∧
       (m = .survey → c = 7 → (s.present = true → Yields req s fun t => t.sys = { s.sys with mode := .service, pend := none } ∧
           t.fld F.SYS_MODE_STAT_MODE = 7 ∧ t.reg (R.TAL_EVCNTc 0x800) = s.reg (R.TAL_EVCNTc 0x800) + 1) ∧
         (s.present = false → refused)) ∧
       (m = .service → c = 4 → Yields req s fun t => t.sys = { s.sys with mode := .survey, pend := none } ∧
         t.fld F.SYS_MODE_STAT_MODE = 4 ∧ t.reg (R.TAL_EVCNTc 0x800) = s.reg (R.TAL_EVCNTc 0x800) + 1) ∧
       (¬ row → refused))) ∧
  (∀ (s : State) (m : Mode), s.sys.pend = some m →
     let slot := s.mac.cur.slotlen * 18432
     let superframe : Prop := s.now = s.mac.cur.start ∨ s.nextStart ≤ s.now
     let flying : Prop := (∃ o ∈ s.mac.ops, o.stage ≠ .queued ∨ ∃ r, o.kind = .ack r) ∨ ∃ c ∈ s.mac.cal, c.drv = true
     let now : Prop := (m = .head ∨ m = .follow ∨ m = .subordinate) ∧ superframe ∨
       m = .survey ∧ ¬ flying ∧ (superframe ∨ s.mac.cur.start ≤ s.now ∧ (s.now - s.mac.cur.start) % slot = 0)
     (now → Yields .modeTransition s fun t => t.sys = { s.sys with mode := m, pend := none } ∧ t.fld F.SYS_MODE_STAT_MODE = modeCode m ∧
       t.fld F.SYS_MODE_STAT_PENDING = 0 ∧ t.reg (R.TAL_EVCNTc 0x800) = s.reg (R.TAL_EVCNTc 0x800) + 1 ∧ t.mem = s.mem ∧ t.cores = s.cores ∧
       t.lgr = s.lgr ∧ t.key = s.key ∧ (s.mac.offGrid = false → t.dmd = s.dmd ∧ t.mac.ops = s.mac.ops ∧ t.mac.next = s.mac.next) ∧
       (s.mac.offGrid = true → m = .survey → t.mac.offGrid = false ∧ t.mac.built = none ∧ t.mac.next = s.gridFrom (s.now + 1))) ∧
     (¬ now → exec .modeTransition s = .next s)) ∧
  (∀ s : State, s.sys.pend = none → exec .modeTransition s = .next s)

/-- MAINS_LOSS and MAINS_RETURN (R40, R41, R534): a loss takes a running device outside LASTGASP and DORMANT to LASTGASP with the outage noted, its
EVENT actions gone and its queue empty; in LASTGASP it is shown and raised; during start-up each edge is held, in DORMANT it only stops the timing of a return.
A return shows in SYS_STAT and raises MAINS_RETURN, is held during start-up, and in DORMANT only starts that timing. LASTGASP_FRAME_LAUNCH and
LASTGASP_FLUSH (R41, R98, R101, R210, R535): the frame made ready, whether it has taken its stream or takes it now, goes on the line with its body and its
tag, or is dropped where its path refuses it; with no frame left the outage record is given to MRAM once, its mark cleared first and written last, and no byte
changes before its word's
write ends.
The order of the steps of LASTGASP is log entry 48, the frame's stream log entry 40, the record's words log entry 28 (all DEDUCED). -/
def Obligations.MainsEdgesAndOutage : Prop :=
  (∀ (s : State) (zc : Bool),
     let seen : Prop := zc = true → s.on F.SYS_MAINS_CTL_ZC_LASTGASP = true ∧ s.zcAllLost = true
     let edge := if zc = true then s else { s with sys := { s.sys with returnAt := none } }
     let shown := if zc = true then s else edge.setFld F.SYS_STAT_MAINS_OK 0
     let back := { s with sys := { s.sys with returnAt := some (s.sys.returnAt.getD s.time) } }
     let lossHeld : Prop := exec (.mainsLoss zc) s = .next { shown with sys := { shown.sys with heldEdges := s.sys.heldEdges ++ [some zc] } }
     let returnHeld : Prop := exec .mainsReturn s = .next { back.setFld F.SYS_STAT_MAINS_OK 1 with sys := { back.sys with heldEdges := s.sys.heldEdges ++ [none] } }
     (¬ seen → exec (.mainsLoss zc) s = .next s) ∧
     (s.sys.mode = .dormant → (seen → exec (.mainsLoss zc) s = .next edge) ∧ exec .mainsReturn s = .next back) ∧
     (s.sys.mode ≠ .dormant →
       (s.sys.phase = .running →
         (seen → s.sys.mode ≠ .lastgasp → Yields (.mainsLoss zc) s fun t => t.sys.mode = .lastgasp ∧ t.fld F.SYS_MODE_STAT_MODE = 5 ∧
           (∃ g, t.sys.outage = some g ∧ g.zcCause = zc ∧ g.oldMode = s.sys.mode ∧ g.entry = s.time ∧ g.flushed = false) ∧ t.mac.events = [] ∧
           (∀ o ∈ t.mac.ops, o.stage = .queued → o.kind = .lastgasp) ∧ t.on F.SYS_FLAGS_MAINS = true ∧
           t.reg (R.TAL_EVCNTc 0x803) = s.reg (R.TAL_EVCNTc 0x803) + 1) ∧
         (seen → s.sys.mode = .lastgasp → exec (.mainsLoss zc) s = .next ((shown.flag F.SYS_FLAGS_MAINS).raise 0x803 92 0 0)) ∧
         exec .mainsReturn s = .next ((back.setFld F.SYS_STAT_MAINS_OK 1).raise 0x804 92 0 0)) ∧
       (s.sys.phase = .starting ∨ s.sys.phase = .reset ∧ s.sys.kind ≠ .powerOn → (seen → lossHeld) ∧ returnHeld) ∧
       (s.sys.phase = .railSettle ∨ s.sys.phase = .reset ∧ s.sys.kind = .powerOn →
         (seen → exec (.mainsLoss zc) s = .next shown) ∧ exec .mainsReturn s = .next (back.setFld F.SYS_STAT_MAINS_OK 1)))) ∧
  (∀ s : State,
     (s.sys.mode ≠ .lastgasp → exec .lastgaspFrameLaunch s = .next s ∧ exec .lastgaspFlush s = .next s) ∧
     (s.sys.mode = .lastgasp →
       (∀ q, (s.mac.ops.find? fun o => o.kind == .lastgasp) = some q →
         let plays := fun (o : TxOp) => ∀ b, q.bound = some b → q.gate = none →
           Yields .lastgaspFrameLaunch s fun t => ∃ f ∈ t.mac.line, f.launch = o.launchAt ∧ f.id = q.id ∧
             f.symbols = { o with payload := o.plain ++ (cmac b.key (o.hdr.bytes.take 11 ++ o.plain)).take 8 }.symbols
         (q.stage = .queued → s.streamRefusal (s.refreshed q) false = none → plays (s.refreshed q)) ∧
         (∀ r, q.stage = .queued → s.streamRefusal (s.refreshed q) false = some r → exec .lastgaspFrameLaunch s = .next (s.failStream (s.refreshed q) r)) ∧
         (∀ st, q.stage = .taken st → s.maySend q = true → plays q) ∧
         (∀ st, q.stage = .onAir st → exec .lastgaspFrameLaunch s = .next s)) ∧
       ((∀ o ∈ s.mac.ops, o.kind ≠ .lastgasp) → exec .lastgaspFrameLaunch s = .next s) ∧
       (∀ g, s.sys.outage = some g → g.flushed = false → (∀ o ∈ s.mac.ops, o.kind ≠ .lastgasp) →
         Yields .lastgaspFlush s fun t => (∀ x, t.byte x = s.byte x) ∧
           (∃ ws, t.memu.mramPend = s.memu.mramPend ++ ws ∧ (∀ w ∈ ws, w.writer = .record .outage) ∧
             let put := fun (a : Nat) (bs : List Byte) => bs.zipIdx.map fun (p : Byte × Nat) => (a + p.2, p.1)
             ws.flatMap (fun w => w.bytes) = put 0x18320000 [0, 0, 0, 0] ++
               put 0x18320004 (leBytes 6 g.tLoss.toNat ++ [if g.zcCause = true then 1 else 0, BitVec.ofNat 8 (modeCode g.oldMode)] ++
                 leBytes 2 g.bsn.toNat ++ leBytes 8 g.sfStart.toNat ++ leBytes 2 g.squashed ++ [g.result] ++ List.replicate 7 0) ++
               put 0x18320000 [0x4F, 0x55, 0x54, 0x31]) ∧
           t = { s with memu := t.memu, sys := { s.sys with outage := some { g with flushed := true } } })))

/-- DORMANT_ENTRY and WAKE_SOURCE (R530, R536, R537): the device enters DORMANT once no reception with its decision is open and the flush, or the
request's commits, have ended; RAIL_EN falls, the cores stop, TMR_DORM restarts and MRAM, with the writes under way completed, keeps its contents. An
enabled wake source raises RAIL_EN again and resets the blocks. Supplies and clocks (R525, R529, R544): a fall of a group B supply freezes MRAM writes
outside DORMANT and the lift ends it, with the tamper entries held given to MRAM; RAIL_EN rises with group A within limits; the reference's loss clears
REF_OK, raises CLOCK_FAIL for LINE, powers the ports down and puts the device on the AO clock, its return takes it back; a PLL's unlock sets its flag,
raises CLOCK_FAIL and clears its LOCK bit.
What DORMANT and a wake keep is log entry 45, when an entry is made log entry 48, the entries held log entry 28 (all DEDUCED). -/
def Obligations.DormantWakeSuppliesAndClocks : Prop :=
  (∀ (s : State) (src : BitVec 6),
     let plain : Prop := s.Inv ∧ ∀ f ∈ s.fills, ∀ a, inMram a = true → f.byteAt a = none
     let keeps := fun (t : State) => plain → ∀ a, t.byte a = if inMram a = true then s.mramSettle.byte a else 0
     (s.sys.phase = .running → s.mayDorm = true →
       Yields .dormantEntry s fun t => t.sys.mode = .dormant ∧ t.sys.railEn = false ∧ t.fld F.SYS_MODE_STAT_MODE = 6 ∧ t.reg R.TMR_DORM = 0 ∧
         t.time = s.time ∧ keeps t ∧ t.mac = State.reset.mac ∧ t.key = State.reset.key ∧ ∀ j : CoreId, t.cores[j].run = .stopped) ∧
     (s.sys.phase ≠ .running ∨ s.mayDorm = false → exec .dormantEntry s = .next s) ∧
     (s.sys.mode = .dormant → s.sys.phase = .running → src &&& s.wakeEnabled ≠ 0 →
       Yields (.wakeSource src) s fun t => t.sys.phase = .railSettle ∧ t.sys.railEn = true ∧ t.sys.kind = .wake ∧ t.sys.mode = .dormant ∧
         t.sys.wake = src &&& s.wakeEnabled ∧ t.sys.railAt = s.time ∧ t.time = s.time ∧ keeps t ∧
         t.mac = State.reset.mac ∧ t.cores = State.reset.cores ∧ t.reg R.TMR_DORM = s.reg R.TMR_DORM) ∧
     (s.sys.mode ≠ .dormant ∨ s.sys.phase ≠ .running ∨ src &&& s.wakeEnabled = 0 → exec (.wakeSource src) s = .next s)) ∧
  (∀ (s : State) (d : Domain),
     (let fallen := if s.sys.mode = .dormant then s else { s with sys := { s.sys with mramFrozen := true } };
       exec (.supplyMonitor .vddCore) s = .next fallen ∧ exec (.supplyMonitor .vddNv) s = .next fallen) ∧
     (s.sys.mramFrozen = true → s.sys.mode ≠ .dormant → Yields .mramFreezeLift s fun t => (∀ x, t.byte x = s.byte x) ∧
       (∃ ws, t.memu.mramPend.map (fun w => (w.addr, w.bytes, w.writer)) = (s.memu.mramPend ++ ws).map (fun w => (w.addr, w.bytes, w.writer)) ∧
         (s.sec.heldLog = [] → ws = []) ∧ ∀ w ∈ ws, w.writer = .record .tamper) ∧
       t = { s with sys := { s.sys with mramFrozen := false }, memu := t.memu
                    sec := { s.sec with heldLog := [], logCount := s.sec.logCount + s.sec.heldLog.length } }) ∧
     (s.sys.mramFrozen = false ∨ s.sys.mode = .dormant → exec .mramFreezeLift s = .next s) ∧
     (s.sys.phase = .reset → s.sys.kind = .powerOn → exec .groupAWithinLimits s = .next { s with sys := { s.sys with railEn := true } }) ∧
     (s.sys.phase ≠ .reset ∨ s.sys.kind ≠ .powerOn → exec .groupAWithinLimits s = .next s) ∧
     (s.sys.onAo = false → s.sys.mode ≠ .dormant → Yields .refclkLost s fun t => t.sys.onAo = true ∧ t.on F.SYS_FLAGS_REF_LOST = true ∧
       t.on F.SYS_STAT_REF_OK = false ∧ t.fld F.DMD_CTL_PORT_EN = 0 ∧ t.fld F.TXP_CTL_PORT_EN = 0 ∧
       t.reg (R.TAL_EVCNTc 0x805) = s.reg (R.TAL_EVCNTc 0x805) + 1) ∧
     (s.sys.onAo = true ∨ s.sys.mode = .dormant → exec .refclkLost s = .next s) ∧
     (s.sys.onAo = true → exec .refclkReturn s = .next { s.flag F.SYS_STAT_REF_OK with
       sys := { s.sys with onAo := false }, sec := { s.sec with away := s.sec.away.filter fun p => p != .refclk } }) ∧
     (s.sys.onAo = false → exec .refclkReturn s = .next s) ∧
     (d = .ao ∨ d = .wake → exec (.pllUnlock d) s = .next s) ∧
     (d ≠ .ao → d ≠ .wake → Yields (.pllUnlock d) s fun t => t.on F.SYS_FLAGS_PLL_UNLOCK = true ∧
       t.evc = (s.raise 0x805 93 0 (domainCode d)).evc ∧
       t.fld F.SYS_STAT_LOCK = s.fld F.SYS_STAT_LOCK &&& (7 - domainLock d) ∧ t = { s with regs := t.regs, cycle := t.cycle, evc := t.evc }))

/-! ### Transmission -/

/-- TX_CCM_START and TX_CCM_COMPLETE (R34, R103, R277, R290, R303, R317): under a named key that may encrypt, with its counter below its ceiling, a
waiting transmission takes the counter's value, unless it has one, and the counter goes up by one; a stall's transmission begins likewise once its record
is hot and a hold is free; without such a key it is dropped KEY_POLICY, with its counter used up FC_EXHAUSTED, and at its ceiling it waits for the
ceiling's write. The completion seals the payload under the key and counter bound.
When a key is bound is log entry 35, how a record comes in log entry 31 (both DEDUCED). -/
def Obligations.TransmissionsAreSealed : Prop :=
  ∀ (s : State) (id : Nat) (o : TxOp), s.findOp id = some o →
    (o.hdr.sec = false ∨ o.encr ≠ .waiting → exec (.txCcmStart id) s = .next s) ∧
    (o.hdr.sec = true → o.encr = .waiting →
      (o.ksel ≠ 0 →
        (∀ k, s.namedKey o.ksel = some k →
          (k.policy ≠ 1 ∨ k.enc = false → exec (.txCcmStart id) s = .next (s.dropOp o 5)) ∧
          (k.policy = 1 → k.enc = true →
            (∀ fc, o.fc = some fc → Yields (.txCcmStart id) s fun t =>
              t.findOp id = some { o with encr := .running, bound := some ⟨o.ksel, k.gen, k.key⟩, fc := some fc } ∧ t.namedKey o.ksel = some k) ∧
            (o.fc = none →
              (k.txfc < k.ceil → k.txfc < 0xFFFFFFFF → Yields (.txCcmStart id) s fun t =>
                t.findOp id = some { o with encr := .running, bound := some ⟨o.ksel, k.gen, k.key⟩, fc := some k.txfc } ∧
                t.namedKey o.ksel = some { k with txfc := k.txfc + 1 }) ∧
              (0xFFFFFFFF ≤ k.txfc → exec (.txCcmStart id) s = .next ((s.raise 0x20A 40 (BitVec.ofNat 32 o.ksel) 1).dropOp o 7)) ∧
              (k.ceil ≤ k.txfc → k.txfc < 0xFFFFFFFF →
                let w := 0x18300000 + 8 * o.ksel + 4
                let up := min 0xFFFFFFFF (k.ceil + max 1 (s.fld F.LGR_TXFC_STEP))
                (∀ p ∈ s.memu.mramPend, p.addr.toNat ≠ w) → Yields (.txCcmStart id) s fun t =>
                  t.findOp id = some { o with encr := .running, bound := none } ∧ t.key = s.key ∧
                  ∃ go, t.memu.mramPend = s.memu.mramPend ++
                    [⟨BitVec.ofNat 32 w, (leBytes 4 up).zipIdx.map fun p => (w + p.2, p.1), .ceil o.id, go⟩])))) ∧
        (s.namedKey o.ksel = none → exec (.txCcmStart id) s = .next (s.dropOp o 5))) ∧
      (o.ksel = 0 →
        (∀ u c v i, s.recordOf o.addr = (u, some (c, true)) → u.txHolds < 32 → u.pageInNow o.addr = (v, some i) →
          exec (.txCcmStart id) s = .next ((v.modOp id fun _ => { o with stall := some i }).ccmBegin { o with stall := some i })) ∧
        (∀ u c, s.recordOf o.addr = (u, some (c, true)) → 32 ≤ u.txHolds → exec (.txCcmStart id) s = .next u) ∧
        (∀ u, s.recordOf o.addr = (u, none) → exec (.txCcmStart id) s = .next (u.dropOp o 5)))) ∧
    (∀ b fc, o.encr = .running → o.bound = some b → o.fc = some fc →
      Yields (.txCcmComplete id) s fun t =>
        t.findOp id = some { o with payload := sealPayload b.key o.hdr.bytes o.ksel 0 s.domain fc o.hdr.ft o.plain, encr := .done } ∧
        (o.stage = .queued → t = { s with mac := t.mac })) ∧
    (o.encr ≠ .running ∨ o.bound = none ∨ o.fc = none → exec (.txCcmComplete id) s = .next s)

/-- STREAM_TAKE, TXEN_ASSERT and TX_LAUNCH (R210, R212, R218, R219): a queued transmission that passes the stream check takes the stream it wants with the
port's plan, level and taper of the moment, and is dropped for the check's reason otherwise; TXEN_N is asserted on its powered output ports, for an ACK
once its gate is open; one that has its stream and payload, in a mode that lets it leave, launches at the grid instant nearest its time and is put on the
line, and one without its payload is TX_LATE. A DAC code is within its range, and 0 on a port that is off (R217). TX_END, TXEN_RELEASE and TXH_END (R217,
R219, R221): the last sample frees the stream, counts the samples clipped and sets TXEN_N's release due LAG_US after frame end; TXEN_N rises at the
release due unless something still keeps it, and in LASTGASP a port but that of the outage report then loses its transmit path (R41, as log entry 48,
DEDUCED, times it); TXH clears once no span covers the moment. When the stream check is made and what it holds a frame against is log entry 40 (DEDUCED).
What an ACK reports is log entry 39 (DEDUCED), the samples log entry 60 (DESIGN CHOICE). -/
def Obligations.TransmissionsLaunchAndEnd : Prop :=
  (∀ (s : State) (id : Nat) (q : TxOp), s.findOp id = some q →
     let o := s.refreshed q
     (q.stage ≠ .queued → exec (.streamTake id) s = .next s) ∧
     (q.stage = .queued →
       (s.streamRefusal o true = none → Yields (.streamTake id) s fun t => ∃ o', t.findOp id = some o' ∧
         o'.stage = .taken ((s.wantStream o).getD 0) ∧ o'.inQueue = false ∧ o'.port = s.txPort q.port ∧ o'.plan = s.plan (s.txPort q.port) ∧
         o'.level = s.fld (F.TXP_PnLVL_TONE_DB (s.txPort q.port)) ∧ o'.taper = s.fld (F.TXP_PnLVL_TAPER (s.txPort q.port)) ∧
         o'.tones = payloadTones (s.plan (s.txPort q.port)) q.mask q.lots ∧ o'.payload = q.payload ∧ o'.time = q.time) ∧
       (∀ r, s.streamRefusal o true = some r → exec (.streamTake id) s = .next (s.failStream o r))) ∧
     (let gated : Prop := q.gate ≠ none ∧ ∃ r, q.kind = .ack r
      (gated ∨ q.launch ≠ none ∨ q.txen ≠ [] → exec (.txenAssert id) s = .next s) ∧
      (¬ gated → q.launch = none → q.txen = [] →
       Yields (.txenAssert id) s fun t => ∀ n : Port, n.val ∈ s.outPorts q.port → s.fldBit F.TXP_CTL_PORT_EN n = true →
         t.txenOn n = true ∧ t.on (F.TXP_PnSTAT_TXH n) = true)) ∧
     (∀ st, q.stage = .taken st → q.gate = none → q.kind ≠ .lastgasp →
       (s.maySend q = true → q.encr = .done →
         Yields (.txLaunch id) s fun t => (∃ o', t.findOp id = some o' ∧ o'.stage = .onAir st ∧ o'.launch = some (4 * ((q.time + 1) / 4))) ∧
           t.reg (R.TAL_CNTi 5) = s.reg (R.TAL_CNTi 5) + 1 ∧
           ∃ f ∈ t.mac.line, f.id = id ∧ f.launch = 4 * ((q.time + 1) / 4) ∧ f.symbols = q.symbols ∧ f.level = q.level ∧ f.taper = q.taper) ∧
       (s.maySend q = true → q.encr ≠ .done → exec (.txLaunch id) s = .next (s.txLate q)) ∧
       (s.maySend q = false → exec (.txLaunch id) s = .next (s.dropOp q 2)))) ∧
  (∀ (s : State) (n : Port) (at' : Int),
     ((s.dacAt n at').natAbs ≤ 8191 ∧ (s.fldBit F.TXP_CTL_PORT_EN n = false → s.dacAt n at' = 0)) ∧
     (∀ id o st, s.findOp id = some o → o.stage = .onAir st →
       (o.cut = none → Yields (.txEnd id) s fun t => (∀ o' ∈ t.mac.ops, o'.id ≠ id) ∧
         (∀ m : Port, t.reg (R.TAL_CNTi (34 + 4 * m)) = s.reg (R.TAL_CNTi (34 + 4 * m)) +
           BitVec.ofNat 32 (if (∃ e ∈ s.mac.line, e.port = m) then s.clips m (s.mac.counted.getD m 0) s.now else 0)) ∧
         (s.mac.lag.length = 6 → ∀ m : Port, m.val ∈ o.txen →
           t.mac.lag.getD m none = some (max (s.frameEnd o m + usDticks (max 10 (s.fld (F.TXP_PnTXEN_LAG_US m)))) ((s.mac.lag.getD m none).getD 0))) ∧
         RegsBut s t (allPorts.map (fun m : Port => R.TAL_CNTi (34 + 4 * m)) ++ [F.TXP_FLAGS_TX_CLIP.addr] ++ allContexts.map fun c : Fin 4 => R.CRC_CTXn_STAT c) ∧
         t.mem = s.mem ∧ t.evc = s.evc) ∧
       (∀ r, o.cut = some r → exec (.txEnd id) s = .next ((s.endAir o).reportCut o r))) ∧
     (∀ x, s.mac.lag.getD n none = some x →
       (x ≤ s.now → (∀ o ∈ s.mac.ops, n.val ∉ o.txen) → (∀ c ∈ s.mac.cal, ¬ (c.port = n ∧ c.drv = true)) →
         Yields (.txenRelease n) s fun t => t.txenOn n = false ∧ t.mac.lag.getD n none = none ∧
           (s.sys.mode ≠ .lastgasp → RegsBut s t [R.TAL_CNTi (34 + 4 * n), F.TXP_FLAGS_TX_CLIP.addr] ∧
             t = { s with mac := t.mac, lp := t.lp, regs := t.regs, cycle := t.cycle }) ∧
           (s.sys.mode = .lastgasp → s.yokedPort n = false → n ≠ s.lgPort → t.fldBit F.TXP_CTL_PORT_EN n = false)) ∧
       (s.now < x → exec (.txenRelease n) s = .next s)) ∧
     (s.mac.lag.getD n none = none → exec (.txenRelease n) s = .next s) ∧
     (s.txhAt n s.now = false →
       (s.partner n = none → exec (.txhEnd n) s = .next (s.setFld (F.TXP_PnSTAT_TXH n) 0)) ∧
       (∀ m, s.partner n = some m → exec (.txhEnd n) s = .next ((s.setFld (F.TXP_PnSTAT_TXH n) 0).setFld (F.TXP_PnSTAT_TXH m) 0))) ∧
     (s.txhAt n s.now = true → exec (.txhEnd n) s = .next s))

/-- GUARD_SYMBOL and UNMUTE (R225, R226): with the guard on and the port sending, a symbol whose monitored spectrum has no bin above the limit restarts
the count, one with such a bin counts, and the VIOL_N-th raises MASK_VIOL and, with MASK_ACT, mutes the port; UNMUTE lifts the mute. The transmit path's
settings and its level calibration (R216, R217, R227): a disabled port loses its PORT_EN bit and no other; a shaping coefficient is taken while
TXEN_N is high and refused with SHP_BUSY while it is low; a calibration starts on an idle enabled port, where it plays CAL_SYM symbols, and is refused
with CAL_REFUSED otherwise; once they are played its end keeps each lot's mean monitor power relative to expected, clears BUSY, sets DONE and raises
TX_CAL_DONE; one that was cut only ends. What the monitor shows and what the expected power is are log entries 36 and 40 (DEDUCED). -/
def Obligations.MaskGuardSettingsAndCalibration : Prop :=
  (∀ (s : State) (n : Port) (samples : List Rat),
     let gain := (kget? s.mac.calMon (2 * n.val + s.fld (F.TXP_PnCTL_MON_SRC n))).getD 0
     let limit := s.fld (F.TXP_PnLVL_TONE_DB (s.txPort n)) + s.fld (F.TXP_PnGUARD_GUARD_DB n)
     let high := (checkedBins (s.plan (s.txPort n))).filter fun b => overGuard (monitorPower samples b) gain limit
     let v := s.mac.viol.getD n 0 + 1
     let need := max 1 (s.fld (F.TXP_PnGUARD_VIOL_N n))
     let counted := fun (x : Nat) => exec (.guardSymbol n samples) s = .next { s with mac := { s.mac with viol := lmod s.mac.viol n fun _ => x } }
     let sending : Prop := ∃ o ∈ s.mac.ops, o.stage ≠ .queued ∧ n.val ∈ s.outPorts o.port
     (s.on (F.TXP_PnGUARD_EN n) = false ∨ ¬ sending → exec (.guardSymbol n samples) s = .next s) ∧
     (s.on (F.TXP_PnGUARD_EN n) = true → sending →
       (high = [] → counted 0) ∧ (high ≠ [] → v < need → counted v) ∧
       (high ≠ [] → need ≤ v → Yields (.guardSymbol n samples) s fun t => t.on F.TXP_FLAGS_MASK_VIOL = true ∧
         (s.on (F.TXP_PnCTL_MASK_ACT n) = true → t.on (F.TXP_PnSTAT_MUTED n) = true) ∧
         (s.on (F.TXP_PnCTL_MASK_ACT n) = false → t.fld (F.TXP_PnSTAT_VIOL_BIN n) = worstBin (monitorPower samples) high ∧
           t.evc = (s.raise 0x010 (20 + 2 * n) (BitVec.ofNat 32 (worstBin (monitorPower samples) high + 0x10000 * n.val)) 0).evc))) ∧
     Yields (.unmute n) s fun t => t.on (F.TXP_PnSTAT_MUTED n) = false ∧ RegsBut s t [R.TXP_PnCTL n, R.TXP_PnSTAT n] ∧ t = { s with regs := t.regs }) ∧
  (∀ (s : State) (n : Port) (tap : Fin 48) (v : Word) (symbols : List (List Rat)),
     (Yields (.txPortDisable n) s fun t => ∀ m : Port, t.fldBit F.TXP_CTL_PORT_EN m = (s.fldBit F.TXP_CTL_PORT_EN m && m != n)) ∧
     (s.txenOn n = false → exec (.shpCoefWrite n tap v) s = .next (s.setReg (R.TXP_PnSHPt n tap) (v &&& 0x3FFFF))) ∧
     (s.txenOn n = true → exec (.shpCoefWrite n tap v) s = .next (s.flag F.TXP_FLAGS_SHP_BUSY)) ∧
     (v.toNat % 8 = n.val →
       let busy : Prop := ∃ o ∈ s.mac.ops, o.stage ≠ .queued ∧ n.val ∈ s.outPorts o.port
       let ok : Prop := s.fldBit F.TXP_CTL_PORT_EN n = true ∧ ¬ busy ∧ (∀ c ∈ s.mac.cal, c.port ≠ n) ∧ (v.getLsbD 8 = true → s.txMode = true)
       (ok → Yields (.txCalStart v) s fun t => t.on F.TXP_CAL_STAT_BUSY = true ∧ t.on F.TXP_CAL_STAT_DONE = false ∧
         (v.getLsbD 8 = true → t.txenOn n = true) ∧
         (∃ f ∈ t.mac.line, t.mac.cal = s.mac.cal ++ [⟨n, v.getLsbD 8, false, f⟩] ∧ f.id = s.mac.nextId ∧ f.port = n ∧
           f.symbols.length = max 1 (v.toNat / 4096 % 16)) ∧
         t.mac.ops = s.mac.ops ∧ t.mem = s.mem) ∧
       (¬ ok → exec (.txCalStart v) s = .next (s.flag F.TXP_FLAGS_CAL_REFUSED))) ∧
     (6 ≤ v.toNat % 8 → exec (.txCalStart v) s = .next (s.flag F.TXP_FLAGS_CAL_REFUSED)) ∧
     ((∀ c ∈ s.mac.cal, ¬ (c.port = n ∧ c.frame.ends ≤ s.now)) → exec (.txCalDone n symbols) s = .next s) ∧
     (∀ c, (s.mac.cal.find? fun c => c.port == n && decide (c.frame.ends ≤ s.now)) = some c → s.sys.mode ≠ .lastgasp →
       let gone := fun (t : State) => t.mac.cal = s.mac.cal.filter (fun x => x.frame.id != c.frame.id) ∧
         t.on F.TXP_CAL_STAT_BUSY = !t.mac.cal.isEmpty ∧ t.mem = s.mem ∧ t.mac.ops = s.mac.ops
       let plan := s.plan (s.txPort n)
       (c.cut = true → Yields (.txCalDone n symbols) s fun t => gone t ∧ t.evc = s.evc ∧
         RegsBut s t [R.TXP_CAL_STAT, R.TAL_CNTi (34 + 4 * n), F.TXP_FLAGS_TX_CLIP.addr]) ∧
       (c.cut = false → Yields (.txCalDone n symbols) s fun t => gone t ∧ t.on F.TXP_CAL_STAT_DONE = true ∧
         t.evc = (s.raise 0x011 31 (BitVec.ofNat 32 n) 0).evc ∧
         ∀ j < 20,
           let seen := meanRat (symbols.map fun x => sumRat ((lotTones plan j).map (monitorPower x)))
           let sent := sumRat ((lotTones plan j).map fun k => c.frame.amplitude k / 8191 * (c.frame.amplitude k / 8191))
           (planLot plan j = false → t.fld (F.TXP_CALRESj_GAIN j) = 0) ∧
           (planLot plan j = true → -32768 < ratioDb (seen / sent) → ratioDb (seen / sent) < 32767 →
             t.fld (F.TXP_CALRESj_GAIN j) = toTwos 16 (ratioDb (seen / sent))))))

/-! ### Line ports -/

/-- Line port and demodulator control (R122, R123, R146-R148, R153, R178, R183, R194): enabling a port makes a synchronising reset, which also restarts
the gain control's decay window; disabling it ends an overload, HOLDS its contexts and raises PORT_RESET; a new PRESET, and SYNC_RST, reset the chain of an
enabled port and raise PORT_RESET. YOKE joins a pair whose ports are enabled with one PRESET and refuses another with YOKE_ERR; a cleared PORT_EN bit stays
alone cleared; DMD_LOTENn takes its 20 bits. A reset of a port with receptions in flight squashes every one of the port and its yoke partner, counted under
PORT_RESET, and leaves no context with their RXIDs. -/
def Obligations.LinePortControl : Prop :=
  (∀ (s : State) (n : Port) (preset : BitVec 2) (yoke : BitVec 3) (v : Word), s.dmd.used = [] →
     let synced := fun (t : State) => t.lp[n].taps = s.tapsHeld n ∧ t.lp[n].ref = s.fld (F.LPn_PGA_REF n) ∧ t.lp[n].hist = [] ∧
       t.lp[n].fade = none ∧ t.lp[n].queued = none ∧ t.lp[n].settle = t.settleN n ∧ t.lp[n].resetAt = some s.time ∧
       t.lp[n].decayAt = s.time ∧ t.lp[n].decCnt = 0 ∧ t.lp[n].samples = [] ∧ (∀ m : Port, m ≠ n → t.lp[m] = s.lp[m])
     let told := fun (t : State) => RegsBut s t (R.LPn_CTL n :: eventRegs 0x004) ∧ t.evc = (s.raise 0x004 (12 + n) (BitVec.ofNat 32 n) 0).evc
     (s.lpOn n = false → Yields (.lpPortEnable n) s fun t => t.lpOn n = true ∧ t.preset n = s.preset n ∧ synced t ∧
       RegsBut s t [R.LPn_CTL n] ∧ t = { s with regs := t.regs, lp := t.lp, dmd := t.dmd }) ∧
     (s.lpOn n = true → Yields (.lpPortDisable n) s fun t => t.lpOn n = false ∧ t.preset n = s.preset n ∧ told t ∧
       (∀ a r, s.lp[n].overs = (a, none) :: r → t.lp = s.lp.set n { s.lp[n] with
         overs := (a, some (s.time + BitVec.ofNat 64 (s.settleN n * samplePeriod (s.preset n)))) :: r }) ∧
       ((∀ a r, s.lp[n].overs ≠ (a, none) :: r) → t.lp = s.lp) ∧
       (s.dmd.ctx.length = 240 → ∀ i < 40, (t.ctx (40 * n + i)).state = .held) ∧
       t = { s with regs := t.regs, cycle := t.cycle, lp := t.lp, dmd := t.dmd, evc := t.evc }) ∧
     (s.lpOn n = true → preset.toNat ≠ s.preset n → Yields (.lpPresetChange n preset) s fun t => t.lpOn n = true ∧ t.preset n = preset.toNat ∧
       synced t ∧ told t ∧ t = { s with regs := t.regs, cycle := t.cycle, lp := t.lp, evc := t.evc }) ∧
     (s.lpOn n = false → Yields (.lpPresetChange n preset) s fun t => t.lpOn n = false ∧ t.preset n = preset.toNat ∧
       RegsBut s t [R.LPn_CTL n] ∧ t = { s with regs := t.regs }) ∧
     (s.lpOn n = true → Yields (.lpSyncRst n) s fun t => t.lpOn n = true ∧ t.preset n = s.preset n ∧ synced t ∧ told t ∧
       t = { s with regs := t.regs, cycle := t.cycle, lp := t.lp, evc := t.evc }) ∧
     (Yields (.yokeChange yoke) s fun t =>
       (∀ p : Fin 3, t.dmd.yoked.getLsbD p = (yoke.getLsbD p && s.mayYoke (s.fld F.DMD_CTL_PORT_EN) p)) ∧
       ((∃ p : Fin 3, yoke.getLsbD p = true ∧ s.mayYoke (s.fld F.DMD_CTL_PORT_EN) p = false) → t.on F.DMD_FLAGS_YOKE_ERR = true) ∧
       t = { s with regs := t.regs, cycle := t.cycle, dmd := t.dmd, evc := t.evc }) ∧
     (Yields (.dmdPortDisable n) s fun t => (∀ m : Port, t.fldBit F.DMD_CTL_PORT_EN m = (s.fldBit F.DMD_CTL_PORT_EN m && m != n)) ∧
       t = { s with regs := t.regs, cycle := t.cycle, dmd := t.dmd, evc := t.evc }) ∧
     exec (.lotenWrite n v) s = .next (s.setReg (R.DMD_LOTENn n) (v &&& 0xFFFFF))) ∧
  (∀ (s : State) (n : Port) (preset : BitVec 2) (c : Instr), s.lpOn n = true →
     c = .lpPortDisable n ∨ c = .lpSyncRst n ∨ c = .lpPresetChange n preset ∧ preset.toNat ≠ s.preset n →
     let mine := fun (id : Rxid) => ∃ p ∈ s.pairOf n, s.usesPort id p = true
     (∀ r ∈ s.dmd.rx, r.rxid ∈ s.dmd.used) → Yields c s fun t =>
       (∀ r ∈ t.dmd.rx, ¬ mine r.rxid ∧ ∃ r' ∈ s.dmd.rx, r'.rxid = r.rxid) ∧ (∀ r ∈ s.dmd.rx, ¬ mine r.rxid → ∃ r' ∈ t.dmd.rx, r'.rxid = r.rxid) ∧
       (∀ id ∈ s.dmd.used, mine id → ∀ x < 240, (t.ctx x).rxid ≠ some id) ∧
       (∀ id, s.dmd.used = [id] → mine id → t.reg (R.TAL_SQn 14) = s.reg (R.TAL_SQn 14) + 1))

/-- Gain control, notches and FIR of a receive chain (R120, R123, R126-R129, R132, R133): an overload unsettles the samples from its start until
SETTLE_N after its end; a sample at -PK_HI or above is an attack, which takes STEP_DN codes off, holds and restarts the decay window; the end of a
decay window of DECAY_US steps by at most one code within the limits; CODE sets the gain at once; A2 commits the five
coefficients with the history kept, and enabling a notch zeroes it; a swap fades, or switches at FADE_LEN = 0, or is queued during a fade, which ends once
its samples have all come.
The corners of the PGA and the AGC are log entry 57 (DESIGN CHOICE); that a running fade keeps its length and a queued one takes the FADE_LEN of its start
is log entry 36 (DEDUCED). -/
def Obligations.GainNotchesAndFilter : Prop :=
  ∀ (s : State) (n : Port) (x : Rat) (i : Fin 4) (mask : BitVec 4) (v : Word),
    let l := s.lp[n]
    let cur : Int := s.fld (F.LPn_PGA_CUR n)
    let lo : Int := s.fld (F.LPn_AGC_LIM_MIN_CODE n)
    let hi : Int := s.fld (F.LPn_AGC_LIM_MAX_CODE n)
    let target : Int := s.fld (F.LPn_AGC_CTL_TARGET n)
    let pkHi : Int := s.fld (F.LPn_AGC_LIM_PK_HI n)
    let codes := ((s.time, s.fld (F.LPn_PGA_CUR n)) :: l.codes).take 32
    let again := fun (c : LpChain) => { c with decayAt := s.time, decSum := 0, decCnt := 0, decPk := 0 }
    let steps := fun (t : State) (want got : Int) => (t.fld (F.LPn_PGA_CUR n) : Int) = got ∧
      (got ≠ want → t.on (F.LPn_FLAGS_AGC_LIMIT n) = true) ∧ (got = want → t.reg (R.LPn_FLAGS n) = s.reg (R.LPn_FLAGS n)) ∧
      RegsBut s t [R.LPn_PGA n, R.LPn_FLAGS n]
    let due : Prop := l.decayAt.toNat + usDticks (max 1 (s.fld (F.LPn_AGC_TIME_DECAY_US n))) ≤ s.now
    (s.lpOn n = true →
      ((∀ a r, l.overs ≠ (a, none) :: r) →
        (Yields (.adcOverload n true) s fun t => t.on (F.LPn_FLAGS_ADC_OVL n) = true ∧
          t.lp = s.lp.set n { l with overs := ((s.time, none) :: l.overs).take 16 } ∧ t.reg (R.TAL_EVCNTc 1) = s.reg (R.TAL_EVCNTc 1) + 1 ∧
          t = { s with regs := t.regs, cycle := t.cycle, lp := t.lp, evc := t.evc, limits := t.limits }) ∧
        exec (.adcOverload n false) s = .next s) ∧
      (∀ a r, l.overs = (a, none) :: r → exec (.adcOverload n true) s = .next s ∧
        exec (.adcOverload n false) s = .next { s with
          lp := s.lp.set n { l with overs := (a, some (s.time + BitVec.ofNat 64 (s.settleN n * samplePeriod (s.preset n)))) :: r } })) ∧
    (s.lpOn n = false → exec (.adcOverload n true) s = .next s ∧ exec (.adcOverload n false) s = .next s) ∧
    (s.agcActive n = true → dbGe (x * x) 1 (-(4 * pkHi)) = true → Yields (.agcAttack n x) s fun t =>
      let want := cur - s.fld (F.LPn_AGC_LIM_STEP_DN n)
      let hold := s.time + BitVec.ofNat 64 (usDticks (s.fld (F.LPn_AGC_TIME_HOLD_US n)))
      steps t want (min 32 (max lo want)) ∧
      t = { s with regs := t.regs, cycle := t.cycle, lp := s.lp.set n (again { l with codes := codes, holdUntil := hold }) }) ∧
    (s.agcActive n = false ∨ dbGe (x * x) 1 (-(4 * pkHi)) = false → exec (.agcAttack n x) s = .next s) ∧
    (due → s.agcActive n = true → l.holdUntil.toNat ≤ s.now → l.decCnt ≠ 0 → Yields (.agcDecayWindow n) s fun t =>
      let rms : Rat := 2 * l.decSum / (l.decCnt : Nat)
      let want := if dbGe 1 rms (4 * (target - 3)) = false then cur - 1
        else if dbGe rms 1 (-(4 * (target + 3))) = false ∧ dbGe 1 (l.decPk * l.decPk) (4 * (pkHi + 3)) = true then cur + 1 else cur
      steps t want (min 32 (max lo (min want hi))) ∧
      t = { s with regs := t.regs, cycle := t.cycle, lp := s.lp.set n (again { l with codes := codes }) }) ∧
    (due → s.agcActive n = false ∨ s.now < l.holdUntil.toNat ∨ l.decCnt = 0 →
      exec (.agcDecayWindow n) s = .next { s with lp := s.lp.set n (again l) }) ∧
    (¬ due → exec (.agcDecayWindow n) s = .next s) ∧
    (Yields (.pgaCodeWrite n v) s fun t => t.fld (F.LPn_PGA_CODE n) = v.toNat % 64 ∧ t.fld (F.LPn_PGA_CUR n) = min 32 (v.toNat % 64) ∧
      t.fld (F.LPn_PGA_REF n) = v.toNat / 2 ^ 16 % 64 ∧ RegsBut s t [R.LPn_PGA n] ∧
      t = { s with regs := t.regs, lp := s.lp.set n { l with codes := codes } }) ∧
    (Yields (.notchCommit n i v) s fun t => t.fld (F.LPn_NOTCHi_COEF n i 4) = v.toNat % 2 ^ 24 ∧ RegsBut s t [R.LPn_NOTCHi n i 4] ∧
      t = { s with regs := t.regs
                   lp := s.lp.set n { l with notch := l.notch.set i (Notch.mk ((List.range 5).map fun c => signedOf 24 (t.fld (F.LPn_NOTCHi_COEF n i c)))
                     l.notch[i].x1 l.notch[i].x2 l.notch[i].y1 l.notch[i].y2) } }) ∧
    (Yields (.notchEnable n mask) s fun t => t.fld (F.LPn_NOTCH_CTL_EN n) = mask.toNat ∧ RegsBut s t [R.LPn_NOTCH_CTL n] ∧
      (∀ j : Fin 4, t.lp[n].notch[j] = if mask.getLsbD j = true ∧ (s.fld (F.LPn_NOTCH_CTL_EN n)).testBit j = false
        then { l.notch[j] with x1 := 0, x2 := 0, y1 := 0, y2 := 0 } else l.notch[j]) ∧
      t = { s with regs := t.regs, lp := s.lp.set n { l with notch := t.lp[n].notch } }) ∧
    (v.getLsbD 25 = true →
      let b := v.getLsbD 24
      let len := v.toNat / 2 ^ 16 % 256
      let goes := fun (x : LpChain) => exec (.firSwapRequest n v) s =
        .next { s.setReg (R.LPn_FIR_CTL n) (v &&& 0x00FF7F7F) with lp := s.lp.set n x }
      (l.fade = none → b = l.bank → goes l) ∧
      (l.fade = none → b ≠ l.bank → len = 0 → goes { l with bank := b }) ∧
      (l.fade = none → b ≠ l.bank → len ≠ 0 → goes { l with fade := some ⟨b, 0, len⟩ }) ∧
      (l.fade ≠ none → goes { l with queued := some b })) ∧
    (∀ f, l.fade = some f →
      let len := s.fld (F.LPn_FIR_CTL_FADE_LEN n)
      let ends := fun (x : LpChain) => f.len ≤ f.pos → exec (.firFadeEnd n) s = .next { s with lp := s.lp.set n x }
      (f.pos < f.len → exec (.firFadeEnd n) s = .next s) ∧
      (l.queued = none ∨ l.queued = some f.bank → ends { l with bank := f.bank, fade := none, queued := none }) ∧
      (∀ q, l.queued = some q → q ≠ f.bank →
        (len = 0 → ends { l with bank := q, fade := none, queued := none }) ∧
        (len ≠ 0 → ends { l with bank := f.bank, fade := some ⟨q, 0, len⟩, queued := none })))

/-- A coefficient write to either FIR bank during a cross-fade, and one to the active bank at any time, is refused: no coefficient changes and BANK_BUSY is
set; any other is taken, and a read of either bank returns what is stored (R134). -/
def Obligations.FirCoefficientWrites : Prop :=
  ∀ (s : State) (n : Port) (v : Word) (bank : Bool) (tap : Fin 96),
    let l := s.lp[n]
    let at' := if bank = true then R.LPn_FIRB1_Tt n tap else R.LPn_FIRB0_Tt n tap
    (l.fade ≠ none ∨ l.bank = bank → Yields (.firCoefWrite n bank tap v) s fun t =>
      (∀ i : Fin 96, t.reg (R.LPn_FIRB0_Tt n i) = s.reg (R.LPn_FIRB0_Tt n i) ∧ t.reg (R.LPn_FIRB1_Tt n i) = s.reg (R.LPn_FIRB1_Tt n i)) ∧
      t.on (F.LPn_FLAGS_BANK_BUSY n) = true ∧ RegsBut s t [R.LPn_FLAGS n] ∧ t = { s with regs := t.regs, cycle := t.cycle }) ∧
    (l.fade = none → l.bank ≠ bank → exec (.firCoefWrite n bank tap v) s = .next (s.setReg at' (v &&& 0x3FFFF))) ∧
    (∀ mram, kget? s.mac.latches at' = none → s.sys.mode ≠ .dormant → exec (.regLoRead (BitVec.ofNat 32 at') mram) s =
      .next { s with busOut := ((s.reg at').setWidth 18).signExtend 32 })

/-- Level detectors, mains tracker and noise map (R135, R136, R138-R140, R142, R144, R145): a read of LPn_PEAK answers the peak and, in mode 0,
restarts it; an RMS window's end answers its mean square and peak, or leaves both where no sample was settled (R148); a level of ZCn counts once it has held for
GLITCH x 16 dticks, inverted by POL, and its
rise is stamped with its first instant; an edge within limits moves T by its share of the interval's error and the fourth such
edge locks, another sets ZC_JUMP; four silent periods unlock; the means of a half-cycle whose samples have all come move the map and CLEAR empties it. How
far T moves for an edge several periods on, and what a window or a half-cycle is measured over, are log entries 36 (DEDUCED), 10 and 57 (DESIGN CHOICE). -/
def Obligations.DetectorsAndMains : Prop :=
  ∀ (s : State) (n : Port) (level : Bool) (since : Time),
    let l := s.lp[n]
    (Yields (.peakRead n) s fun t =>
      (s.on (F.LPn_DET_CTL_PEAK_MODE n) = false → t = { s with busOut := BitVec.ofNat 32 (logp (l.peak * l.peak)), lp := s.lp.set n { l with peak := 0 } }) ∧
      (s.on (F.LPn_DET_CTL_PEAK_MODE n) = true → t = { s with busOut := BitVec.ofNat 32 (logp (l.lastPeak * l.lastPeak)) })) ∧
    (∀ sum cnt peak, l.rmsDone = some (sum, cnt, peak) → Yields (.rmsWindow n) s fun t =>
      t.reg (R.LPn_RMS n) = (if cnt = 0 then s.reg (R.LPn_RMS n) else BitVec.ofNat 32 (logp (2 * sum / (cnt : Nat)))) ∧
      RegsBut s t [R.LPn_RMS n] ∧
      t = { s with regs := t.regs, lp := s.lp.set n { l with rmsDone := none, lastPeak := if cnt = 0 then l.lastPeak else peak } }) ∧
    (l.rmsDone = none → exec (.rmsWindow n) s = .next s) ∧
    (let seen := level ^^ s.on (F.LPn_ZC_CTL_POL n)
      let held : Prop := since.toNat + 16 * s.fld (F.LPn_ZC_CTL_GLITCH n) ≤ s.now
      let I : Int := (since.toNat : Int) - ((l.zcLast.getD 0).toNat : Int)
      let T : Int := s.fld (F.LPn_ZC_PERIOD_T n)
      let tc := s.fld (F.LPn_ZC_CTL_TC n)
      let fits := fun (m : Int) => (l.zcLock = false ∧ m = 1 ∧ 378092 ≤ I ∧ I ≤ 546133) ∨
        (l.zcLock = true ∧ 1 ≤ m ∧ m ≤ 3 ∧ 16 * (256 * I - m * T) ≤ T ∧ 16 * (m * T - 256 * I) ≤ T ∧ 0 < T)
      (seen = l.zcLevel ∨ ¬ held → exec (.zcEdge n level since) s = .next s) ∧
      (seen ≠ l.zcLevel → held → seen = false ∨ s.on (F.LPn_ZC_CTL_EN n) = false →
        exec (.zcEdge n level since) s = .next { s with lp := s.lp.set n { l with zcLevel := seen } }) ∧
      (seen ≠ l.zcLevel → held → seen = true → s.on (F.LPn_ZC_CTL_EN n) = true →
        (∀ m : Int, fits m → Yields (.zcEdge n level since) s fun t =>
          t.fld (F.LPn_ZC_PERIOD_T n) = ((T + (256 * I - m * T) / (m * 2 ^ tc)) % 2 ^ 28).toNat ∧
          t.reg (R.LPn_ZC_EDGE n) = since.setWidth 32 ∧
          t.lp = s.lp.set n { l with zcLevel := true, zcLast := some since, zcOk := l.zcOk + 1, zcLock := l.zcLock || decide (4 ≤ l.zcOk + 1) } ∧
          (l.zcLock = false → 4 ≤ l.zcOk + 1 → t.evc = (s.raise 0x002 (2 * n + 1) (BitVec.ofNat 32 n) 0).evc) ∧
          (l.zcLock = true ∨ l.zcOk + 1 < 4 → t.evc = s.evc) ∧
          RegsBut s t ([R.LPn_ZC_PERIOD n, R.LPn_ZC_EDGE n] ++ eventRegs 0x002) ∧
          t = { s with regs := t.regs, cycle := t.cycle, evc := t.evc, lp := t.lp }) ∧
        ((∀ m : Int, ¬ fits m) → Yields (.zcEdge n level since) s fun t => t.on (F.LPn_FLAGS_ZC_JUMP n) = true ∧
          t.reg (R.TAL_CNTi (33 + 4 * n)) = s.reg (R.TAL_CNTi (33 + 4 * n)) + 1 ∧ RegsBut s t [R.LPn_FLAGS n, R.TAL_CNTi (33 + 4 * n)] ∧
          (l.zcLock = true → t.lp = s.lp.set n { l with zcLevel := true }) ∧
          (l.zcLock = false → t.lp = s.lp.set n { l with zcLevel := true, zcLast := some since, zcOk := 0 }) ∧
          t = { s with regs := t.regs, cycle := t.cycle, lp := t.lp }))) ∧
    (s.on (F.LPn_ZC_CTL_EN n) = true → Yields (.zcTimeout n) s fun t => t.on (F.LPn_FLAGS_ZC_LOST n) = true ∧
      t.evc = (s.raise 0x003 (2 * n + 1) (BitVec.ofNat 32 n) 0).evc ∧ RegsBut s t (R.LPn_FLAGS n :: eventRegs 0x003) ∧
      t = { s with regs := t.regs, cycle := t.cycle, evc := t.evc, lp := s.lp.set n { l with zcLock := false, zcOk := 0 } }) ∧
    (s.on (F.LPn_ZC_CTL_EN n) = false → exec (.zcTimeout n) s = .next s) ∧
    (s.lpOn n = true → s.on (F.LPn_NMAP_CTL_EN n) = true → s.on (F.LPn_NMAP_CTL_FREEZE n) = false → l.zcLock = true →
      Yields (.noiseMapUpdate n) s fun t =>
        (∀ sums, l.halfDone = [sums] → ∀ (b : Nat) (h : b < 64), t.lp[n].nmap[b] = if sums[b].2 = 0 then l.nmap[b]
          else l.nmap[b] + (sums[b].1 / (sums[b].2 : Nat) - l.nmap[b]) * mkRat 1 (2 ^ s.fld (F.LPn_NMAP_CTL_TC n))) ∧
        (l.halfDone = [] → t = s) ∧
        t = { s with lp := s.lp.set n { l with nmap := t.lp[n].nmap, halfDone := [], halves := l.halves + l.halfDone.length } }) ∧
    (s.lpOn n = false ∨ s.on (F.LPn_NMAP_CTL_EN n) = false ∨ s.on (F.LPn_NMAP_CTL_FREEZE n) = true ∨ l.zcLock = false →
      exec (.noiseMapUpdate n) s = .next { s with lp := s.lp.set n { l with nsum := Vector.replicate 64 (0, 0), halfDone := [] } }) ∧
    exec (.nmapClear n) s =
      .next { s with lp := s.lp.set n { l with nmap := Vector.replicate 64 0, nsum := Vector.replicate 64 (0, 0), halfDone := [], halves := 0 } }

/-! ### Receptions -/

/-- FFT_HOP, NO_TIMING and directed windows (R22, R23, R118, R150, R158, R160, R179, R180, R258): a hop of an enabled port whose demodulator is off runs its
chain and yields the hop's one transform of 320 tones, the other ports untouched; a lot whose trigger condition holds with its active context idle claims
that context for QUALIFY with the lowest free RXID above the one last allocated, wrapping, or, with none free, is counted and claims nothing; an untimed
context that has waited B_WAIT symbols is squashed with NO_TIMING; a
directed window claims the context of its lot, keeping the thresholds of then, or with none to claim is lost and counted; its end frees the
context and gives the MAC its answer, matched only when the body decoded carries the token. Which context a window claims is log entry 37, and where a hop's
condition is judged log entry 36 (both DEDUCED). -/
def Obligations.HopsAndDirectedWindows : Prop :=
  (∀ (s : State) (n : Port) (h j : Nat), j < 20 → s.dmd.ctx.length = 240 →
    let ps := s.rxPorts n
    let a := s.activeCtx n j
    (∀ p ∈ ps, 2 ^ Thr.ntc s.thrNow ≤ s.lp[p].idleCnt.getD j 0) → (s.ctx a).state = .idle → s.trigMet a ps (lotTones (s.plan n) j) h = true →
      (∀ i < 256, (∀ m < i, s.dmd.last + 1 + BitVec.ofNat 8 m ∈ s.dmd.used) → s.dmd.last + 1 + BitVec.ofNat 8 i ∉ s.dmd.used →
        let x : Rxid := s.dmd.last + 1 + BitVec.ofNat 8 i
        let t := s.huntLot n ps h j
        (t.ctx a).state = .qualify ∧ (t.ctx a).rxid = some x ∧ t.dmd.used = s.dmd.used ++ [x] ∧ t.dmd.last = x ∧
        (∀ c, c ≠ a → t.ctx c = s.ctx c) ∧ t.dmd.rx = s.dmd.rx) ∧
      ((∀ x : Rxid, x ∈ s.dmd.used) → (s.huntLot n ps h j).dmd = s.dmd ∧ (s.huntLot n ps h j).on F.DMD_FLAGS_RXID_EXH = true)) ∧
  ∀ (s : State) (n : Port) (xs first : List Rat) (c : Fin 240) (id : Nat),
    (s.lpOn n = false → exec (.fftHop n xs first) s = .next s) ∧
    (s.lpOn n = true → s.detecting = false ∨ s.dmdOn (s.txPort n) = false → Yields (.fftHop n xs first) s fun t =>
      (∀ m : Port, m ≠ n → t.lp[m] = s.lp[m]) ∧ t = { s with lp := t.lp } ∧
      (15 ≤ s.hopIndex n → s.transAt n (s.hopIndex n - 15) = none →
        ∃ tr, t.lp[n].trans = (tr :: s.lp[n].trans).take 440 ∧ tr.h = s.hopIndex n - 15 ∧ tr.x.length = 320) ∧
      (s.hopIndex n < 15 ∨ s.transAt n (s.hopIndex n - 15) ≠ none → t.lp[n].trans = s.lp[n].trans)) ∧
    (∀ x q, (s.ctx c).rxid = some x → (s.ctx c).qual = some q → s.findRx x = none → q.tB = none →
      (Thr.bWait q.thr ≤ q.cnt → exec (.noTiming c) s = .next (s.squash x 2)) ∧ (q.cnt < Thr.bWait q.thr → exec (.noTiming c) s = .next s)) ∧
    ((s.ctx c).rxid = none ∨ (s.ctx c).qual = none → exec (.noTiming c) s = .next s) ∧
    ((s.mac.dirs.find? fun w => w.id == id) = none → exec (.directedWindowOpen id) s = .next s ∧ exec (.directedWindowEnd id) s = .next s) ∧
    (∀ w, (s.mac.dirs.find? fun w => w.id == id) = some w →
      (w.ctx = none →
        (∀ k, s.claimable w.op.port w.lot = some k → (s.ctx k).rxid = none → exec (.directedWindowOpen id) s =
          .next { s with dmd := { s.dmd with ctx := lmod s.dmd.ctx k fun x => { x with state := .directed, rxid := none, qual := none } }
                         mac := { s.mac with dirs := s.mac.dirs.map fun y => if y.id == id then { y with ctx := some k, thr := s.thrNow } else y } }) ∧
        (s.claimable w.op.port w.lot = none →
          exec (.directedWindowOpen id) s = .next (((s.tally 9).closeDir id).ackResult w.op false))) ∧
      (∀ k, w.ctx = some k → (s.ctx k).state = .directed →
        let ends := fun (ok : Bool) => exec (.directedWindowEnd id) s = .next (((s.idleCtx k).closeDir id).ackResult w.op ok)
        ((∃ b, s.dirBody w = some b ∧ leNat b % 16 = 2 ∧ leNat b / 16 % 65536 = w.token.toNat) → ends true) ∧
        ((∀ b, s.dirBody w = some b → leNat b % 16 ≠ 2 ∨ leNat b / 16 % 65536 ≠ w.token.toNat) → ends false)))

/-- VITERBI_DECODE and TAG_RESULT (R29, R70, R87, R161, R172, R175, R189, R303, R319): a reception whose qualifier has not passed, or that waits for a capture,
is left alone; the first candidate accepted is its header, and with none so far it waits for more symbols until its eighth copy; the security header binds the
key once its symbols have come; a payload
complete before its stall's page-in is LEDGER_BUSY; else the block is decoded, its check computed and, unsecured, its bytes are the
reception's, and a beacon's source is a node of the domain they name (R82, R100). A secured one keeps its place only with a key bound and the tag matching, and is
squashed with TAG_FAIL otherwise.
When a key is bound is log entry 35, how a decoder meets its symbols log entry 38 (both DEDUCED). -/
def Obligations.ReceptionsAreDecoded : Prop :=
  ∀ (s : State) (id : Rxid) (r : Rx), s.findRx id = some r →
    let all := dataTones (s.plan r.port) r.lots
    (r.passed = false ∨ r.capWaits = true → exec (.viterbiDecode id) s = .next s) ∧
    (r.passed = true → r.capWaits = false → r.hdr = none →
      (∀ m sh bs, r.tried < m → m ≤ r.syms.length → (∀ i, r.tried < i → i < m → r.acceptAt all.length i = none) →
        r.acceptAt all.length m = some (sh, bs) → exec (.viterbiDecode id) s = .next (s.headerPass id sh bs)) ∧
      ((∀ m, r.tried < m → m ≤ r.syms.length → r.acceptAt all.length m = none) →
        (r.syms.length < 8 * headerSyms false all.length →
          Yields (.viterbiDecode id) s fun t => (∃ b, t.findRx id = some { r with tried := r.syms.length, badLots := b }) ∧ t = { s with dmd := t.dmd }) ∧
        (8 * headerSyms false all.length ≤ r.syms.length → r.short = false →
          exec (.viterbiDecode id) s = .next (s.squash id (if r.badLots = true then 4 else 3))))) ∧
    (∀ h, r.passed = true → r.capWaits = false → r.hdr = some h → r.snr = [] →
      (∀ ts, r.ctxs ≠ [] → h.sec = true → r.sechdr = [] → r.paging = false → r.tones = some ts → secSyms h ts.length ≤ r.syms.length - r.hdrSyms →
        let x := { r with sechdr := secBytesOf h ts.length (s.paySoft r ts) }
        kselReserved x.ksel = false →
          Yields (.viterbiDecode id) s fun t => t.findRx id = some { x with bound := s.rxKey x } ∧ t = { s with dmd := t.dmd }) ∧
      (r.ctxs = [] → r.paging = true → exec (.viterbiDecode id) s = .next (s.squash id 8)) ∧
      (∀ ts, r.ctxs = [] → r.paging = false → r.tones = some ts → h.sec = false → h.ft ≠ 5 → r.ring = none → s.collects = false →
        let soft := (r.syms.drop r.hdrSyms).map fun y => (all.zip y.soft).filterMap fun p => if ts.contains p.1 then some p.2 else none
        let block := decodeBlock (pseed h.hcs h.src) (mcRate h.mc) (mcRep h.mc) ts.length (h.len + 3) soft
        Yields (.viterbiDecode id) s fun t => ∃ r', t.findRx id = some r' ∧ r'.block = block ∧ r'.plain = block.take h.len ∧
          r'.fcsOk = (fcsOf h.bytes (block.take h.len) == block.drop h.len) ∧ r'.hdr = some h ∧ r'.decision = r.decision ∧
          r'.src = (if h.ft = 0 ∧ 2 ≤ (block.take h.len).length then netAddr (leNat (block.take 2) % 16384) h.src else r.src) ∧
          t.mac = s.mac ∧ t.mem = s.mem ∧ t.hif = s.hif)) ∧
    (∀ h, r.hdr = some h → r.snr ≠ [] → r.tagOk = none → h.sec = true →
      (r.bound = none → exec (.tagResult id) s = .next (s.squash id 11)) ∧
      (∀ b, r.bound = some b →
        ((openPayload b.key h.bytes (nodeOf r.src) s.domain h.ft (r.block.take h.len)).2 = false → exec (.tagResult id) s = .next (s.squash id 11)) ∧
        ((openPayload b.key h.bytes (nodeOf r.src) s.domain h.ft (r.block.take h.len)).2 = true → Yields (.tagResult id) s fun t =>
          t.findRx id = some { r with tagOk := some true } ∧ t = { s with dmd := t.dmd }))) ∧
    (∀ h, r.hdr = some h → h.sec = false ∨ r.snr = [] ∨ r.tagOk ≠ none → exec (.tagResult id) s = .next s)

/-- ACK_BOOKING, ACK_DECISION and the horizons (R30, R31, R190-R193, R202, R204, R262, R286): a frame that wants an ACK books one at its end, gated on it,
2 sym later, its body encoded but for the status; a frame whose stall's lock is not free, or for which another has asked, asks for it and waits, a
high-water write that waits then carrying the highest FC of all; without the check an unsecured frame is squashed with FCS_FAIL, a secured one below
its window with REPLAY_OLD; a duplicate is kept as one, its ACK's status DUPLICATE; a new one's is ACCEPTED; a new secured one whose FC raises the stall's mark
waits for a write of that mark, the word's old value kept, and a new neighbour for one of its ADDR word; at its horizon an ACK not released is cancelled and the
reception marked late; a gated action is dropped with reason 9. When a body is encoded is log entry 39, how a waiting write takes a later FC log entry 28 (both
DEDUCED).
A secured frame's key is log entry 35 (DEDUCED). -/
def Obligations.AcksAndHorizons : Prop :=
  (∀ (s : State) (id : Rxid) (r : Rx) (h : Hdr), s.findRx id = some r → r.hdr = some h →
    let turn := (s.dmd.rx.map (·.turn)).foldl max 0 + 1
    let waits : Prop := ∃ i, r.stall = some i ∧ (s.commitLocked i = true ∨ s.coreLocked i = true ∨ ∃ x, s.nextAsked i = some x ∧ x.rxid ≠ id)
    let decided := fun (x : Rx) => Yields (.ackDecision id) s fun t => t.findRx id = some x ∧ t = { s with dmd := t.dmd }
    let answered := fun (o : TxOp) (x : Rx) (st : Nat) => Yields (.ackDecision id) s fun t => t.findRx id = some x ∧
      t.mac.ops = (s.mac.ops.map fun p => if p.id == o.id then { p with payload := withStatus p.payload st, status := some st } else p) ∧
      t = { s with dmd := t.dmd, mac := { s.mac with ops := t.mac.ops } }
    let booked := fun (o : TxOp) => h.ackreq = true ∧ h.dst = 0 ∧ r.fcsOk = true ∧ s.ackOp id = some o ∧ ∀ p ∈ s.mac.ops, p.id = o.id → p.payload ≠ []
    (h.ackreq = true → h.dst = 0 → s.txMode = true → r.ctxs = [] → r.decision = none → r.ack = none →
      ∀ u, s.bindSec id r h = u →
        (∀ x i, u.findRx id = some x → u.freeEntry 0 120 = some i → Yields (.ackBooking id) s fun t =>
          (∃ o, t.mac.ops = u.mac.ops ++ [o] ∧ o.kind = .ack id ∧ o.index = i ∧ o.inQueue = true ∧ o.stage = .queued ∧
            o.time = gridOf (x.lastSym + 18432 + 2 * 18432) ∧ o.port = x.port ∧ o.gate = some id ∧ o.lots = x.lots.take 1 ∧
            o.payload = (if h.sec = true ∧ x.secBytes = [] then [] else ackBody (tokenOf h.bytes (x.tokenFc h)) 0) ∧ o.status = none ∧
            t.findRx id = some { x with ack := some o.id }) ∧
          t = { u with mac := t.mac, dmd := t.dmd }) ∧
        (u.findRx id = none ∨ u.freeEntry 0 120 = none → exec (.ackBooking id) s = .next u)) ∧
    (h.ackreq = false ∨ h.dst ≠ 0 ∨ s.txMode = false ∨ r.ctxs ≠ [] ∨ r.decision ≠ none ∨ r.ack ≠ none → exec (.ackBooking id) s = .next s) ∧
    (r.snr = [] ∨ r.decision ≠ none ∨ (h.sec = true ∧ r.tagOk ≠ some true) → exec (.ackDecision id) s = .next s) ∧
    (r.snr ≠ [] → r.decision = none → (h.sec = true → r.tagOk = some true) →
      (waits →
        (r.asked = true → exec (.ackDecision id) s = .next s) ∧
        (r.asked = false → h.sec = false → decided { r with asked := true, turn := turn }) ∧
        (∀ i a, r.asked = false → h.sec = true → r.stall = some i → s.raisesMark i r.fc = true → s.markWord i = some a →
          (∃ w ∈ s.memu.mramPend, w.waitsFor a = true) → Yields (.ackDecision id) s fun t =>
            t.findRx id = some { r with asked := true, turn := turn, marked := true } ∧
            (∀ w ∈ t.memu.mramPend, w.waitsFor a = true → leNat (w.bytes.map (·.2)) = max r.fc (s.mramLe a 4) % 2 ^ 32) ∧
            t = { s with dmd := t.dmd, memu := t.memu })) ∧
      (¬ waits →
        (h.sec = false → r.fcsOk = false → exec (.ackDecision id) s = .next (s.squash id 10)) ∧
        (h.sec = false → r.fcsOk = true → (∀ i, r.stall = some i → s.stallFlag i 5 = false) →
          (s.ackOp id = none → decided { r with decision := some .new, ackst := 0 }) ∧
          (∀ o, booked o → s.followOn r h = none → answered o { r with decision := some .new, ackst := 1 } 0)) ∧
        (∀ i c, h.sec = false → r.fcsOk = true → s.ackOp id = none → r.stall = some i → s.stallFlag i 5 = true →
          s.indexFor i = some c → Yields (.ackDecision id) s fun t =>
            t.findRx id = some { r with decision := some .new, ackst := 0, record := some c, waits := r.waits ++ [addrWord c]
                                        undo := r.undo ++ [(addrWord c, s.mramBytes (addrWord c) 4)] } ∧
            (∃ w ∈ t.memu.mramPend, w.addr = BitVec.ofNat 32 (addrWord c) ∧ leNat (w.bytes.map (·.2)) = r.src.toNat ∧ w.writer = .commit [id]) ∧
            t = { s with dmd := t.dmd, memu := t.memu }) ∧
        (∀ i, h.sec = true → r.stall = some i →
          (s.replayOf i r.fc = .old → exec (.ackDecision id) s = .next (s.squash id 12)) ∧
          (s.replayOf i r.fc = .dup →
            (s.ackOp id = none → decided { r with decision := some .duplicate, ackst := 0 }) ∧
            (∀ o, booked o → s.twinAck r o = false → answered o { r with decision := some .duplicate, ackst := 2 } 1)) ∧
          (s.replayOf i r.fc = .new → s.stallFlag i 5 = false → s.ackOp id = none →
            (s.raisesMark i r.fc = false → decided { r with decision := some .new, ackst := 0 }) ∧
            (∀ x, s.hotInfo i = some x → s.raisesMark i r.fc = true → r.marked = false → Yields (.ackDecision id) s fun t =>
              t.findRx id = some { r with decision := some .new, ackst := 0, waits := r.waits ++ [hwmWord x.c]
                                          undo := r.undo ++ [(hwmWord x.c, s.mramBytes (hwmWord x.c) 4)] } ∧
              (∃ w ∈ t.memu.mramPend, w.addr = BitVec.ofNat 32 (hwmWord x.c) ∧ leNat (w.bytes.map (·.2)) = r.fc % 2 ^ 32 ∧
                w.writer = .commit [id]) ∧
              t = { s with dmd := t.dmd, memu := t.memu })))))) ∧
  (∀ (s : State) (id : Rxid) (index : Fin 256),
    (s.ackOp id = none → exec (.ackCommitHorizon id) s = .next s) ∧
    (∀ o, s.ackOp id = some o →
      (o.gate = none → exec (.ackCommitHorizon id) s = .next s) ∧
      (∀ r, o.gate ≠ none → s.findRx id = some r → Yields (.ackCommitHorizon id) s fun t => t.findRx id = some { r with late := true } ∧
        t.mac.ops = s.mac.ops.filter (fun p => p.id != o.id) ∧ t.reg (R.TAL_CNTi 6) = s.reg (R.TAL_CNTi 6) + 1 ∧ RegsBut s t [R.TAL_CNTi 6])) ∧
    (∀ o ∈ s.mac.ops, o.inQueue = true → o.index = index.val → o.gate ≠ none → (∀ x, o.kind ≠ .ack x) →
      (∀ p ∈ s.mac.ops, p.index = index.val → p = o) → exec (.gateHorizon index) s = .next (s.dropOp o 9)) ∧
    ((∀ o ∈ s.mac.ops, o.gate ≠ none → o.index ≠ index.val) →
      (∀ e, (s.mac.events.find? fun e => e.index == index.val && e.gate.isSome) = some e →
        Yields (.gateHorizon index) s fun t => t.mac = { s.mac with events := s.mac.events.filter fun x => x.index != index.val } ∧
          t.evc = (s.raiseTo 0x102 34 0 9 (coreMask e.core) s.stamp).evc ∧ RegsBut s t (eventRegs 0x102) ∧
          t = { s with mac := t.mac, evc := t.evc, regs := t.regs, cycle := t.cycle, dmd := t.dmd }) ∧
      ((∀ e ∈ s.mac.events, e.index = index.val → e.gate = none) → exec (.gateHorizon index) s = .next s)))

/-- COMMIT (R25, R188, R190, R197, R204, R262, R288, R289, R511): with step 1 complete the stall takes its words and then the frame becomes visible: the
reception is gone, actions gated on it are released, the tallies count it, a secured one without its frame check too, and RX_DELIVERED or RX_DUPLICATE is raised;
memory changes by the stall's words alone where no ring took the frame, and the entry it has in a ring is marked DONE or SKIP with its length and the commit
pointer passes it; the stall's lock goes to the reception that asked for it. The mark of a new secured frame's stall never falls: its FC, and every one that was
no longer new before, is not new again. A new neighbour with no directory entry left is LEDGER_FULL; a reception whose step 1 is not complete stays as it is. Where
the stall's words stand at a commit is log entry 31 (DEDUCED). -/
def Obligations.CommitMakesVisible : Prop :=
  ∀ (s : State) (id : Rxid) (r : Rx) (h : Hdr) (out : Decision), s.findRx id = some r → r.hdr = some h → r.decision = some out →
    (r.waits ≠ [] → exec (.commit id) s = .next s) ∧
    (r.waits = [] →
      (∀ i u x xh, r.stall = some i → s.commitStall r h out = (u, true) → s.nextAsked i = some x → x.rxid ≠ id → x.hdr = some xh → xh.sec = false →
        x.fcsOk = true → s.coreLocked i = false → (∀ y ∈ s.dmd.rx, y.stall = some i → y.decision ≠ none → y.rxid = id) →
          Yields (.commit id) s fun t => ∃ y ∈ t.dmd.rx, y.rxid = x.rxid ∧ y.decision = some .new) ∧
      ((∀ i, r.stall = some i → s.lockAsked i = false) →
        (∀ u, s.commitStall r h out = (u, false) → exec (.commit id) s = .next (u.ledgerFull id r.src)) ∧
        (∀ u, s.commitStall r h out = (u, true) → r.ring = none → r.sent = 0 → r.late = false →
          Yields (.commit id) s fun t => t.findRx id = none ∧ (∀ o ∈ t.mac.ops, o.gate ≠ some id) ∧ (∀ e ∈ t.mac.events, e.gate ≠ some id) ∧
            t.reg (R.TAL_CNTi 0) = u.reg (R.TAL_CNTi 0) + (if out = .new then 1 else 0) ∧
            t.reg (R.TAL_CNTi 1) = u.reg (R.TAL_CNTi 1) + (if out = .new then 0 else 1) ∧
            t.reg (R.TAL_CNTi 2) = u.reg (R.TAL_CNTi 2) + (if h.sec = true ∧ r.fcsOk = false ∧ out = .new then 1 else 0) ∧
            t.reg (R.TAL_CNTi (35 + 4 * r.port)) = u.reg (R.TAL_CNTi (35 + 4 * r.port)) + 1 ∧
            t.evc = (u.raise (if out = .new then 0x200 else 0x201) 38 (id.setWidth 32) 0).evc ∧
            t = { u with regs := t.regs, cycle := t.cycle, evc := t.evc, mac := t.mac, dmd := t.dmd }) ∧
        (∀ u k v b, s.commitStall r h out = (u, true) → r.ring = some k → r.sent = 0 → u.hif.rings[k].resv = [v] → v.owner = .rx id → v.status = .prov →
          v.k = 1 → u.ringSecure k = false → u.ringErr k = false → u.pair (R.HIF_RINGr_WB_LO k) (R.HIF_RINGr_WB_HI k) = 0 →
          u.hostAddr (u.entryAddr k v.first + 12) 52 = .bus (b + 12) → u.hostAddr (u.entryAddr k v.first + 8) 4 = .bus (b + 8) →
          out = .new ∨ v.lens = [] → Yields (.commit id) s fun t =>
            let bad := h.sec && !r.fcsOk && out == .new
            let f := r.fields 0 bad
            t.hif.rings[k].resv = [] ∧ t.fld (F.HIF_RINGr_HEAD_COUNT k) = (v.first + 1) % 65536 ∧
            ((List.range 4).map fun j => sget (fun _ => 0) t.hostMem (b + 8 + j)) =
              f.status (if out = .new then .done else .skip) (if out = .new then v.lens.getD 0 0 else 0) true true ∧
            ((List.range 36).map fun j => sget (fun _ => 0) t.hostMem (b + 12 + j)) = f.fields true ∧ t.findRx id = none)) ∧
      (∀ i u, r.stall = some i → i < 4096 → s.bankDown (i / 512) = false → h.sec = true → out = .new → s.stallFlag i 5 = false →
        (∀ p ∈ r.snr, p.1 < 20) → (∀ x ∈ s.dmd.rx, x.stall = some i → x.asked = true → x.decision ≠ none) → s.replayOf i r.fc = .new → r.ring = none →
        s.commitStall r h out = (u, true) → Yields (.commit id) s fun t =>
          t.stallFlag i 3 = true ∧ t.replayOf i r.fc = .dup ∧ (∀ fc, s.replayOf i fc ≠ .new → t.replayOf i fc ≠ .new) ∧
          t.stallLe i Rec.hwm 4 = (if s.stallFlag i 3 = true then max (s.stallLe i Rec.hwm 4) r.fc else r.fc)))

/-! ### The ledger's commands -/

/-- Page-ins and write-backs (R279, R281, R284, R285, R287): a page-in requested takes a FREE stall or the victim's and waits with none; complete, its
record is resident and the receptions that wait for it hold it, or, its line failing verification or its mark unreadable, they are
refused, as those of any page-in are with the ledger disabled; one that another has made resident meanwhile joins it; a write-back
leaves the buffer and writes its line. Rebuild, sweep and disabling (R280, R287, R292, R296): REBUILD with EN = 1 counts the record indices in use, its end sets DONE
and FOUND and
raises REBUILD_DONE; SWEEP takes GEN up by one and clears VER_MAX unless a sweep runs, whose end reseals both regions; with EN = 0 REBUILD does nothing; clearing EN
refuses a reception that has a stall and, with none, changes no more than EN. How a page-in goes on is log entry 31 (DEDUCED), what LGR_CTL's commands do while
EN = 0 log entry 27 (DESIGN CHOICE).
MRAM and external lines are log entries 28 and 30, the sweep log entry 32, the receptions that wait log entry 33 (all DEDUCED). -/
def Obligations.PageInsWriteBacksAndRebuild : Prop :=
  (∀ (s : State) (a : Word) (c : Nat),
     ((s.lgr.pages.any fun p => p.addr == a && p.stall.isNone) = false → exec (.pageIn a) s = .next s) ∧
     ((s.lgr.pages.any fun p => p.addr == a && p.stall.isNone) = true → s.on F.LGR_CTL_EN = false →
       let u := { s with lgr := { s.lgr with pages := s.lgr.pages.filter fun p => p.addr != a } }
       exec (.pageIn a) s = .next ((u.waitingRx a).foldl (fun t id => t.ledgerFull id a) u)) ∧
     ((s.lgr.pages.any fun p => p.addr == a && p.stall.isNone) = true → s.on F.LGR_CTL_EN = true →
       (∀ i, s.hotFind a = some i →
         let u := { s with lgr := { s.lgr with pages := s.lgr.pages.filter fun p => p.addr != a } }
         exec (.pageIn a) s = .next ((u.waitingRx a).foldl (fun t id => t.giveStall id i) u)) ∧
       (∀ u i, s.hotFind a = none → s.takeStall = (u, some i) → exec (.pageIn a) s =
         .next { u with lgr := { u.lgr with pages := u.lgr.pages.map fun p => if p.addr == a then { p with stall := some i } else p } }) ∧
       (s.hotFind a = none → s.freeStall = none → s.victim = none → exec (.pageIn a) s = .next s)) ∧
     (∀ p i, (s.lgr.pages.find? fun p => p.addr == a) = some p → p.stall = some i →
       let u := { s with lgr := { s.lgr with pages := s.lgr.pages.filter fun p => p.addr != a } }
       let gives := fun (mram : ScrubOutcome) (t : State) (k : Nat) =>
         exec (.pageInComplete a mram) s = .next ((t.waitingRx a).foldl (fun t id => t.giveStall id k) t)
       let refuses := fun (mram : ScrubOutcome) (t : State) =>
         exec (.pageInComplete a mram) s = .next ((t.waitingRx a).foldl (fun t id => t.ledgerFull id a) t)
       (∀ m, s.on F.LGR_CTL_EN = false → refuses m u) ∧
       (∀ m k, s.on F.LGR_CTL_EN = true → u.hotFind a = some k → gives m u k) ∧
       (∀ v c', s.on F.LGR_CTL_EN = true → u.hotFind a = none → u.recordOf a = (v, some (c', true)) →
         (∀ t, v.finishPageIn a i p.c = (t, true) → gives .good t i ∧ gives .weak t i) ∧
         (∀ t, v.finishPageIn a i p.c = (t, false) → refuses .good t ∧ refuses .weak t) ∧
         (∀ t, (v.mramCorrected (hwmWord p.c)).finishPageIn a i p.c = (t, true) → gives .corrected t i) ∧
         refuses .uncorrectable (((v.mramError (hwmWord p.c)).integrity p.c).awaitImport a))) ∧
     (∀ bs, (s.lgr.wb.find? fun p => p.1 == c) = some (c, bs) → Yields (.writeBackComplete c) s fun t =>
       t.lgr.wb = (s.writeRecord c bs).lgr.wb.filter (fun p => p.1 != c) ∧ t = { s.writeRecord c bs with lgr := t.lgr } ∧ t.lgr.hot = s.lgr.hot) ∧
     ((∀ p ∈ s.lgr.wb, p.1 ≠ c) → exec (.writeBackComplete c) s = .next s)) ∧
  (∀ (s : State) (mram : List (Word × ScrubOutcome)),
     (s.on F.LGR_CTL_EN = true → s.lgr.rebuild = none → Yields (.lgrRebuild mram) s fun t =>
       let lost := (s.mramReads mram (addrWord 0) (4 * s.recCount)).2
       t.lgr.rebuild = some ((List.range s.recCount).filter fun c => !s.indexFree c && !lost.contains (addrWord c / 4)).length) ∧
     (s.on F.LGR_CTL_EN = false ∨ s.lgr.rebuild ≠ none → exec (.lgrRebuild mram) s = .next (s.setReg R.LGR_CTL (s.reg R.LGR_CTL &&& 7))) ∧
     (∀ n, s.lgr.rebuild = some n → n < 2 ^ 18 → Yields .rebuildDone s fun t => t.lgr = { s.lgr with rebuild := none } ∧
       t.on F.LGR_STAT_REBUILD_BUSY = false ∧ t.on F.LGR_REBUILD_STAT_DONE = true ∧ t.fld F.LGR_REBUILD_STAT_FOUND = n ∧
       t.evc = (s.raise 0x208 39 (BitVec.ofNat 32 n) 0).evc ∧ t = { s with regs := t.regs, cycle := t.cycle, evc := t.evc, lgr := t.lgr }) ∧
     (s.lgr.rebuild = none → exec .rebuildDone s = .next s) ∧
     (s.on F.LGR_STAT_SWEEP_BUSY = false → Yields .lgrSweep s fun t => t.reg R.LGR_GEN = s.reg R.LGR_GEN + 1 ∧ t.on F.LGR_STAT_SWEEP_BUSY = true ∧
       t.fld F.LGR_VER_VER_MAX = 0 ∧ RegsBut s t [R.LGR_GEN, R.LGR_CTL, R.LGR_STAT, R.LGR_VER] ∧ t = { s with regs := t.regs, cycle := t.cycle }) ∧
     (s.on F.LGR_STAT_SWEEP_BUSY = true → exec .lgrSweep s = .next (s.setReg R.LGR_CTL (s.reg R.LGR_CTL &&& 7)) ∧
       (s.failingLines 0 = [] → s.failingLines 1 = [] → exec .sweepComplete s =
         .next (((s.resealRegion 0).resealRegion 1).setFld F.LGR_STAT_SWEEP_BUSY 0))) ∧
     (s.on F.LGR_STAT_SWEEP_BUSY = false → exec .sweepComplete s = .next s) ∧
     (∀ r, s.on F.LGR_CTL_EN = true → (s.dmd.rx.filter fun r => r.stall.isSome) = [r] →
       exec .ledgerDisable s = .next ((s.setReg R.LGR_CTL (s.reg R.LGR_CTL &&& 6)).ledgerFull r.rxid r.src)) ∧
     (s.on F.LGR_CTL_EN = false ∨ (∀ r ∈ s.dmd.rx, r.stall = none) → Yields .ledgerDisable s fun t => t.on F.LGR_CTL_EN = false ∧ t.on F.LGR_CTL_COLD_EN = s.on F.LGR_CTL_COLD_EN ∧
       t.on F.LGR_CTL_AUTO_ALLOC = s.on F.LGR_CTL_AUTO_ALLOC ∧ RegsBut s t [R.LGR_CTL] ∧ t = { s with regs := t.regs }))

/-- Ledger commands (R276, R293-R295): with one running another is ignored with CMD_OVR; LOOKUP answers the stall of a resident record and NOT_FOUND
for an unknown address; PIN and UNPIN change its STATE under the pin limit, EXPORT writes its 128 bytes, each BUSY under a lock; FREE gives up
the stall and, by a write of its ADDR word, the index; IMPORT refuses a bad image and an address it has, takes an awaited record up with the mark and ceiling kept
in MRAM, and loads a new one; LGR_CMD_COMPLETE, once the command's MRAM words are written, shows the result. That a command waits for those words, and that an
awaited record whose words cannot be read is refused, is log entry 32 (DEDUCED).
When a result appears is log entry 27 (DESIGN CHOICE), where an image may lie log entry 30, how its words are written log entry 28 (both DEDUCED). -/
def Obligations.LedgerCommands : Prop :=
  ∀ (s : State) (agent : Agent) (mram : List (Word × ScrubOutcome)),
    let a := s.reg R.LGR_CMD_ADDR
    let buf := (s.reg R.LGR_CMD_BUF).toNat / 4 * 4
    let all : List Instr := [.lgrLookup agent, .lgrImport agent mram, .lgrExport agent, .lgrFree agent, .lgrPin agent, .lgrUnpin agent]
    let answers := fun (c : Instr) (u : State) (res i : Nat) =>
      exec c s = .next (({ u with lgr := { u.lgr with cmd := some (res, i) } } : State).flag F.LGR_CMD_STAT_BUSY)
    (s.sys.mode = .dormant → ∀ c ∈ all, exec c s = .next s) ∧
    (s.sys.mode ≠ .dormant → s.lgr.cmd ≠ none → ∀ c ∈ all, exec c s = .next (s.flag F.LGR_FLAGS_CMD_OVR)) ∧
    (s.sys.mode ≠ .dormant → s.lgr.cmd = none →
      (∀ u, s.recordOf a = (u, none) → answers (.lgrLookup agent) u 1 0 ∧ answers (.lgrPin agent) u 1 0 ∧ answers (.lgrUnpin agent) u 1 0 ∧
        answers (.lgrExport agent) u 1 0 ∧ ((∀ p ∈ s.lgr.pages, p.addr ≠ a) → answers (.lgrFree agent) u 1 0)) ∧
      (∀ i h, s.hotFind a = some i → s.stallFlag i 5 = false → s.hotInfo i = some h →
        let u := s.touch i
        answers (.lgrLookup agent) u 0 i ∧
        (s.coreLocked i = true ∨ s.commitLocked i = true → answers (.lgrPin agent) u 4 i ∧ answers (.lgrUnpin agent) u 4 i ∧ answers (.lgrExport agent) u 4 i) ∧
        (s.coreLocked i = false → s.commitLocked i = false →
          (s.stallState i = 3 → answers (.lgrPin agent) u 7 i) ∧
          (s.stallState i ≤ 1 → s.pinned < s.pinMax → answers (.lgrPin agent) (u.setStallState i 2) 0 i) ∧
          (s.stallState i ≤ 1 → s.pinMax ≤ s.pinned → answers (.lgrPin agent) u 5 i) ∧
          (s.stallState i = 2 → answers (.lgrUnpin agent) (u.setStallState i 1) 0 i) ∧
          (s.stallState i ≠ 2 → answers (.lgrUnpin agent) u 7 i) ∧
          (inFirmware buf = false → answers (.lgrExport agent) (u.unitWrite buf (s.stallBytes i 0 128)).1 0 i) ∧
          (inFirmware buf = true → answers (.lgrExport agent) (u.mramRecord .command buf (s.stallBytes i 0 128)) 0 i)) ∧
        ((∀ p ∈ s.lgr.pages, p.addr ≠ a) → s.stallHeld i = true → answers (.lgrFree agent) s 4 i) ∧
        ((∀ p ∈ s.lgr.pages, p.addr ≠ a) → s.stallHeld i = false → (∀ d ∈ s.mac.store, d.addr ≠ a) → s.coldOn = false →
          Yields (.lgrFree agent) s fun t =>
            t.lgr.cmd = some (0, i) ∧ t.hotInfo i = none ∧ t.indexFree h.c = true ∧
            (∃ w ∈ t.memu.mramPend, w.addr = BitVec.ofNat 32 (addrWord h.c) ∧ w.writer = .command) ∧
            (∀ x, x < stallBase i ∨ stallBase i + 128 ≤ x → t.byte x = s.byte x))) ∧
      (∀ u img, s.unitData mram buf 128 = (u, img) →
        let f := (img.getD 4 0).toNat
        let x : Word := BitVec.ofNat 32 (leNat (img.take 4))
        (f % 4 = 0 ∨ 64 ≤ f → answers (.lgrImport agent mram) u 6 0) ∧
        (f % 4 ≠ 0 → f < 64 →
          (∀ i, u.hotFind x = some i → u.stallFlag i 5 = false → answers (.lgrImport agent mram) u 2 i) ∧
          (∀ v w c, u.hotFind x = none → u.recordOf x = (v, some (c, false)) →
            (v.marksRead c mram = (w, false) → answers (.lgrImport agent mram) (w.integrity c) 7 0) ∧
            (v.marksRead c mram = (w, true) → w.coldOn = false →
              answers (.lgrImport agent mram) (w.loadImage c c (importImage img (some (w.rebuilt c)))) 0 c)) ∧
          (∀ v w y i c, u.hotFind x = none → u.recordOf x = (v, none) → v.takeStall = (w, some i) → w.newRecord x i = (y, some c) →
            let bs := importImage img none
            let marked := if (bs.getD 4 0).getLsbD 3 then y.mramRecord .command (hwmWord c) ((bs.drop 8).take 4) else y
            answers (.lgrImport agent mram) (marked.loadImage i c bs) 0 i)))) ∧
    (∀ w ∈ s.memu.mramPend, w.writer = .command → exec .lgrCmdComplete s = .next s) ∧
    (∀ res i, s.lgr.cmd = some (res, i) → (∀ w ∈ s.memu.mramPend, w.writer ≠ .command) → res < 16 → i < 4096 → Yields .lgrCmdComplete s fun t =>
      t.lgr.cmd = none ∧ t.fld F.LGR_CMD_STAT_BUSY = 0 ∧ t.fld F.LGR_CMD_STAT_RESULT = res ∧ t.fld F.LGR_CMD_STAT_STALL = i ∧
      t.evc = (s.raise 0x209 39 (BitVec.ofNat 32 i) res).evc ∧ RegsBut s t (R.LGR_CMD_STAT :: eventRegs 0x209) ∧
      t = { s with regs := t.regs, cycle := t.cycle, evc := t.evc, lgr := t.lgr }) ∧
    (s.lgr.cmd = none → exec .lgrCmdComplete s = .next s)

/-- LGR_COLD_BASE, LGR_COLD_CNT, LGR_DIR_BASE and LGR_DIR_SALT take writes only while EN = 0; writes in other states are ignored (R297); a core's
write is one of its stores, which check contexts may follow (R332). -/
def Obligations.ColdStoreRegistersLocked : Prop :=
  ∀ (s : State) (agent : Agent) (v : Word) (p : Nat × Word),
    p ∈ [(R.LGR_COLD_BASE, 0xFFFFFF80), (R.LGR_COLD_CNT, 0x7F), (R.LGR_DIR_BASE, 0xFFFFF000), (R.LGR_DIR_SALT, 0xFFFFFFFF)] →
    let u := match agent with | .host => s | .core k => s.crcCoreStore k p.1 (leBytes 4 v.toNat)
    (s.sys.mode = .dormant → exec (.registerWrite agent (BitVec.ofNat 32 p.1) v) s = .next s) ∧
    (s.on F.LGR_CTL_EN = true → s.sys.mode ≠ .dormant → exec (.registerWrite agent (BitVec.ofNat 32 p.1) v) s = .next u) ∧
    (s.on F.LGR_CTL_EN = false → s.sys.mode ≠ .dormant → Yields (.registerWrite agent (BitVec.ofNat 32 p.1) v) s fun t =>
      t.reg p.1 &&& p.2 = v &&& p.2 ∧ RegsBut u t [p.1] ∧ t = { u with regs := t.regs })

/-! ### Superframes, beacons and the almanac -/

/-- The superframe (R231-R236, R255, R272): its start puts the sample of the build instant in force, shows the start, counts BSN and raises
SF_START; outside following modes the next one follows it whole, or is the first of ORIGIN's grid where the last left it. ORIGIN is written in SURVEY
alone, and the next superframe is the first of
its grid a symbol or more away. BCN_LEAD before the start, and not earlier, HEAD books the beacon of its one named port with the tag of the domain key, and without
that key sets SF_CFG_ERR; SURVEY books none. When ORIGIN's halves take effect is log entry 25, what the build instant samples log entry 41 (both DEDUCED). -/
def Obligations.SuperframesAndBeacons : Prop :=
  ∀ (s : State) (agent : Agent) (lo : Word) (n : Port) (k : KeySlot),
    (s.sys.phase = .running → s.sys.mode ≠ .dormant → Yields .superframeStart s fun t =>
      let b := s.mac.built.getD s.sampleSf
      t.mac.cur = b ∧ t.mac.built = none ∧ t.reg R.MAC_SF_START_LO = BitVec.ofNat 32 b.start ∧
      t.reg R.MAC_SF_START_HI = BitVec.ofNat 32 (b.start / 2 ^ 32) ∧ t.fld F.MAC_BSN_BSN_NEXT = (b.bsn + 1).toNat ∧
      (s.sys.mode ≠ .holdover → t.evc = (s.raise 0x100 32 (b.bsn.setWidth 32) 0).evc) ∧
      (s.sys.pend = none → s.sys.mode = .head ∨ s.sys.mode = .survey → t.mac.next = if s.mac.offGrid = true then t.gridFrom (b.start + 1) else b.start + 64 * b.slotlen * 18432) ∧
      t = { s with regs := t.regs, cycle := t.cycle, mac := t.mac, evc := t.evc }) ∧
    (s.sys.phase ≠ .running ∨ s.sys.mode = .dormant → exec .superframeStart s = .next s ∧ exec .beaconBuild s = .next s) ∧
    (s.sys.mode ≠ .survey → exec (.sfOriginWrite agent lo) s =
      .next { s with mac := { s.mac with originHi := s.reg R.MAC_SF_ORIGIN_HI } }) ∧
    (s.sys.mode = .survey → 0 < s.sfDticks → Yields (.sfOriginWrite agent lo) s fun t =>
      t.reg R.MAC_SF_ORIGIN_LO = lo ∧ t.reg R.MAC_SF_ORIGIN_HI = s.mac.originHi ∧
      ((t.mac.next : Int) - (lo.toNat + 2 ^ 32 * s.mac.originHi.toNat : Nat)) % s.sfDticks = 0 ∧
      s.now + 18432 ≤ t.mac.next ∧ t.mac.next < s.now + 18432 + s.sfDticks ∧
      RegsBut s t [R.MAC_SF_ORIGIN_LO, R.MAC_SF_ORIGIN_HI] ∧
      t.mac.ops = s.mac.ops.filter (fun o => !(o.kind == .beacon && o.launch.isNone)) ∧
      t = { s with regs := t.regs, lp := t.lp, crc := t.crc
                   mac := { s.mac with ops := t.mac.ops, next := t.mac.next, built := none, offGrid := false } }) ∧
    (s.sys.phase = .running → s.sys.mode ≠ .dormant →
      let lead := usDticks (100 * max 10 (s.fld F.MAC_SF_CTL_BCN_LEAD))
      (s.mac.built ≠ none ∨ s.now + lead < s.nextStart → exec .beaconBuild s = .next s) ∧
      (s.mac.built = none → s.nextStart ≤ s.now + lead → s.sys.pend = none →
        (s.sys.mode = .survey ∨ (s.sys.mode = .head ∧ s.on F.MAC_CTL_BCN_EN = false) →
          exec .beaconBuild s = .next { s with mac := { s.mac with built := some s.sampleSf } }) ∧
        (s.sys.mode = .head → s.on F.MAC_CTL_BCN_EN = true →
          let b := s.sampleSf
          let lots := lotsOf (b.lots.getD n 0)
          let bc := s.beaconOf b .head []
          let slot := natBits b.bcn.toNat 15 8
          ((b.bcn.getLsbD n && s.txPort n == n) = true → (∀ x, s.namedKey slot = some x → x.policy ≠ 2 ∨ x.enc = false) →
            exec .beaconBuild s = .next (({ s with mac := { s.mac with built := some b } } : State).flag F.MAC_FLAGS_SF_CFG_ERR)) ∧
          ((∀ m : Port, (b.bcn.getLsbD m && s.txPort m == m) = (m == n)) → s.beaconPort b n = true → s.mac.store = [] →
            s.namedKey slot = some k → k.policy = 2 → k.enc = true →
            Yields .beaconBuild s fun t => t.mac.built = some b ∧ (∃ o, t.mac.ops = s.mac.ops ++ [o] ∧ o.kind = .beacon ∧ o.index = 120 + n.val ∧
              o.port = n ∧ o.time = b.start ∧ o.lots = lots ∧ o.encr = .done ∧
              o.payload = bc.body ++ (cmac k.key ((bc.header lots).take 11 ++ bc.body)).take 8) ∧ t = { s with mac := t.mac }))))

/-- The almanac's windows and EVENT actions (R239, R248, R249, R264): slot 0, a slot already walked and one more than WALK_LEAD symbols, at least 16, away have
no walk, another walks its list's references in order, one after the other; a window closes, and its wake, once settled and kept for headers yet to be decided,
resets the stall's empty count on a hit and raises it on a miss, and
the last search that fails makes the stall LOST; an EVENT action whose gate is open raises TQ_EXPIRED to its cores and goes. How a reference is judged is log
entry 42 (DEDUCED).
How a record comes in is log entry 31 (DEDUCED). -/
def Obligations.WakesAndEventActions : Prop :=
  ∀ (s : State) (slot : Fin 64) (id : Nat) (index : Fin 256),
    (slot = 0 ∨ s.on F.MAC_CTL_WALK_EN = false ∨ modeWalks s.sys.mode = false ∨ s.walkOf slot = none → exec (.almanacWalk slot) s = .next s) ∧
    (∀ b, slot ≠ 0 → s.on F.MAC_CTL_WALK_EN = true → modeWalks s.sys.mode = true → s.walkOf slot = some b →
      let mark := b.bsn.toNat * 64 + slot.val
      let u := { s with mac := { s.mac with walked := s.mac.walked ++ [mark] } }
      let early : Prop := s.now + max 16 (s.fld F.MAC_SF_CTL_WALK_LEAD) * 18432 < b.start + slot * b.slotlen * 18432
      (mark ∈ s.mac.walked ∨ early → exec (.almanacWalk slot) s = .next s) ∧
      (mark ∉ s.mac.walked → ¬ early →
        (∀ v, u.unitRead ((s.reg R.MAC_ALM_BASE).toNat / 8 * 8 + 8 * slot.val) 8 = (v, none) → exec (.almanacWalk slot) s = .next v) ∧
        (∀ v d, u.unitRead ((s.reg R.MAC_ALM_BASE).toNat / 8 * 8 + 8 * slot.val) 8 = (v, some d) →
          ∀ ws : Nat → State, ws 0 = v →
            (∀ k < leNat ((d.drop 4).take 2),
              (∀ w e, (ws k).unitRead (leNat (d.take 4) + 8 * k) 8 = (w, some e) → ws (k + 1) = w.walkRef b slot (parseRef (leNat e))) ∧
              (∀ w, (ws k).unitRead (leNat (d.take 4) + 8 * k) 8 = (w, none) → ws (k + 1) = w)) →
            exec (.almanacWalk slot) s = .next (ws (leNat ((d.drop 4).take 2)))))) ∧
    exec (.windowClose id) s =
      .next { s with mac := { s.mac with windows := s.mac.windows.map fun w => if w.id == id then { w with closed := true } else w } } ∧
    ((s.mac.windows.find? fun w => w.id == id) = none → exec (.wakeSettled id) s = .next s) ∧
    (∀ w, (s.mac.windows.find? fun w => w.id == id) = some w →
      (w.closed = false ∨ w.done = true ∨ s.windowBusy w = true → exec (.wakeSettled id) s = .next s) ∧
      (w.closed = true → w.done = false → s.windowBusy w = false →
        let ws := s.mac.windows.map fun x => if x.id == id then { x with done := true } else x
        let u := { s with mac := { s.mac with windows := ws.filter fun x => !x.done || s.windowNeeded x } }
        (∀ v, u.pageInNow w.addr = (v, none) → exec (.wakeSettled id) s = .next v) ∧
        ∀ v i, u.pageInNow w.addr = (v, some i) →
        let e := v.ephOf i
        let emp := min 15 (e.empty + 1)
        let ser := min 15 (e.searches + 1)
        let last := max 1 (v.fld F.MAC_SEARCH_SEARCH_LIMIT) ≤ ser
        let settles := fun (t : State) => exec (.wakeSettled id) s = .next t
        (w.hit = true → settles (v.setEph i { e with empty := 0, searches := 0 })) ∧
        (w.hit = false → w.search = false → settles (v.setEph i { e with empty := emp })) ∧
        (w.hit = false → w.search = true → ¬ last → settles (v.setEph i { e with empty := emp, searches := ser })) ∧
        (w.hit = false → w.search = true → last → (v.setEph i { e with empty := emp, searches := ser }).stallState i ≠ 3 →
          settles (((v.setEph i { e with empty := emp, searches := ser }).setStallState i 3).raise 0x109 33 (BitVec.ofNat 32 (nodeOf w.addr)) 0)))) ∧
    (∀ e, (s.mac.events.find? fun e => e.index == index.val && e.gate.isNone) = some e → Yields (.tqExpired index) s fun t =>
      t.mac = { s.mac with events := s.mac.events.filter fun x => x.index != index.val } ∧
      t.evc = (s.raiseTo 0x106 34 (e.arg.setWidth 32) 0 e.mask s.stamp).evc ∧ RegsBut s t (eventRegs 0x106) ∧
      t = { s with mac := t.mac, evc := t.evc, regs := t.regs, cycle := t.cycle }) ∧
    ((s.mac.events.find? fun e => e.index == index.val && e.gate.isNone) = none → exec (.tqExpired index) s = .next s)

/-- Following a master (R102, R265-R269): a verified beacon of the followed master moves the master ephemeris, clears MISSED and, in HOLDOVER, asks for
FOLLOW again in place of a request still pending; one whose EPOCH is not later than the last of its domain is none of its; one of another slot length sets MSLOT_DIFF
and moves nothing but what was heard; a beacon is missed once its
predicted end and its guard have passed, counts once, and the third in FOLLOW is HOLDOVER. The instants the ephemeris and the misses count from, and what
becomes of a superframe built when another mode places the next, are log entry 41 (DEDUCED).
What a mode does at once is log entry 47 (DEDUCED). -/
def Obligations.FollowingTheMaster : Prop :=
  ∀ (s : State) (id : Rxid) (r : Rx) (h : Hdr),
    (s.findRx id = some r → r.hdr = some h →
      (r.snr = [] ∨ s.masterBeacon r h = none → exec (.masterBeaconVerify id) s = .next s) ∧
      (∀ e, kget? s.mac.follow.epochs (natBits s.followWord.toNat 13 0) = some e →
        let later := (((parseBeacon r.payload).epoch : Int) - e) % 2 ^ 48
        later = 0 ∨ 2 ^ 47 ≤ later → exec (.masterBeaconVerify id) s = .next s) ∧
      (∀ b, r.snr ≠ [] → s.masterBeacon r h = some b →
        (b.slotlen ≠ s.mac.cur.slotlen → Yields (.masterBeaconVerify id) s fun t => t.on F.MAC_FLAGS_MSLOT_DIFF = true ∧ RegsBut s t [R.MAC_FLAGS] ∧
          t = { s with regs := t.regs, cycle := t.cycle, mac := { s.mac with follow := { s.mac.follow with heard := b.slotlen } } }) ∧
        (b.slotlen = s.mac.cur.slotlen → Yields (.masterBeaconVerify id) s fun t =>
          t.mac.follow.seen = true ∧ t.mac.follow.epoch = b.epoch ∧ t.mac.follow.bsn = BitVec.ofNat 16 b.bsn ∧ t.mac.follow.rank = b.rank ∧
          t.mac.follow.slotlen = b.slotlen ∧ t.mac.follow.heard = b.slotlen ∧ t.mac.follow.counted = none ∧ t.fld F.MAC_MSTAT_MISSED = 0 ∧
          kget? t.mac.follow.epochs (natBits s.followWord.toNat 13 0) = some b.epoch ∧
          t.sys = (if s.sys.mode = .holdover then { s.sys with pend := some .follow } else s.sys) ∧
          (s.sys.mode ≠ .holdover ∨ s.sys.pend = none → t.evc = s.evc) ∧
          (s.sys.mode ≠ .holdover ∨ s.sys.pend ≠ some .subordinate → t.mac = { s.mac with follow := t.mac.follow } ∧
            t = { s with mac := t.mac, regs := t.regs, cycle := t.cycle, evc := t.evc, sys := t.sys })))) ∧
    (s.sys.mode ≠ .follow → s.sys.mode ≠ .holdover → exec .masterBeaconMiss s = .next s) ∧
    (s.sys.mode = .follow ∨ s.sys.mode = .holdover → s.masterPeriod ≠ 0 →
      let k0 := (((s.now : Rat) - s.masterStart) / s.masterPeriod).floor
      let k := if s.beaconOver k0 = true then k0 else k0 - 1
      let bsn := BitVec.ofInt 16 ((s.mac.follow.bsn.toNat : Int) + k)
      let missed := min 3 (s.fld F.MAC_MSTAT_MISSED + 1)
      (k < 1 ∨ s.mac.follow.counted = some bsn → exec .masterBeaconMiss s = .next s) ∧
      (1 ≤ k → s.mac.follow.counted ≠ some bsn → Yields .masterBeaconMiss s fun t => t.fld F.MAC_MSTAT_MISSED = missed ∧
        t.mac.follow.counted = some bsn ∧ (missed = 3 → s.sys.mode = .follow → t.sys.mode = .holdover) ∧
        (missed < 3 ∨ s.sys.mode = .holdover → t.sys = s.sys ∧ RegsBut s t [R.MAC_MSTAT] ∧ t = { s with mac := t.mac, regs := t.regs })))

/-- SUBMISSION_FETCH (R254, R506, R512-R514, R517): a ring out of turn fetches nothing; a descriptor that cannot be read puts the ring in error; else FETCH counts
the entry, and a reserved MODE or a bad descriptor completes it BAD_DESC, MODE 2 stores it for its stall, the others make it a timed
action.
The order of the checks and what a ring in error does is log entry 43 (DEDUCED), host memory log entry 54 (DESIGN CHOICE). -/
def Obligations.SubmissionsAreFetched : Prop :=
  ∀ (s u : State) (r : Fin 8) (payloadOk : Bool) (bs : List Byte),
    (s.fetchTurn ≠ some r → exec (.submissionFetch r true payloadOk) s = .next s) ∧
    (s.fetchTurn = some r →
      exec (.submissionFetch r false payloadOk) s = .next (s.ringFail r) ∧
      (s.dmaRead (s.entryAddr r s.hif.rings[r].idx) 64 = (u, none) → exec (.submissionFetch r true payloadOk) s = .next (u.ringFail r)) ∧
      (s.dmaRead (s.entryAddr r s.hif.rings[r].idx) 64 = (u, some bs) →
        let n := s.hif.rings[r].idx
        let d := parseSub bs
        let q := u.hif.rings[r]
        let v := ({ u with hif := { u.hif with lastRing := r.val
                                               rings := u.hif.rings.set r { q with subs := q.subs ++ [⟨n, false, d.irq⟩], idx := q.idx + 1 } } } : State).setFld
          (F.HIF_RINGr_AUX_COUNT r) (u.fld (F.HIF_RINGr_AUX_COUNT r) + 1)
        let a := netAddr v.domain d.dst
        let fetches := fun (t : State) => exec (.submissionFetch r true payloadOk) s = .next t
        (d.mode = 3 ∨ v.descBad d (d.mode == 2) = true → fetches (v.completeEntry r n ⟨.badDesc, 0, 0, 0, 0, 0⟩)) ∧
        (d.mode = 2 → v.descBad d true = false →
          (∀ w c, v.recordOf a = (w, some (c, true)) →
            fetches (({ w with mac := { w.mac with store := w.mac.store ++ [⟨w.mac.nextNo, r, n, d, a, 0, none, 0, false⟩]
                                                   nextNo := w.mac.nextNo + 1 } } : State).refreshPend a)) ∧
          (∀ w x, v.recordOf a = (w, x) → (∀ c, x ≠ some (c, true)) → fetches (w.completeEntry r n ⟨.badDesc, 0, 0, 0, 0, 0⟩))) ∧
        (d.mode ≤ 1 → v.descBad d false = false → fetches (v.placeTimed r n d payloadOk))))

/-! ### Keys, random bits, jobs and check values -/

/-- Key commands (R314-R318, R321): with one running another is ignored with CMD_OVR; without key-encryption keys they end in STATE; LOAD installs the key of
a blob read as its header names it and passing its checks, at its record's ceiling, or waits for the record's write when its KVER is higher; LOAD_STALL keeps the blob
in the stall's record; GENMEM makes a memory key from random bytes; ERASE leaves the slot empty; INFO shows it; KEY_CMD_COMPLETE shows the result. The order of
GENMEM's checks, that a slot of 4,352 or more is BAD_OP for ERASE and INFO too, and which words are read when, is log entry 34 (DEDUCED).
When a result appears is log entry 27 (DESIGN CHOICE). -/
def Obligations.KeyCommands : Prop :=
  ∀ (s : State) (slot : BitVec 13) (alg : BitVec 2) (mram : List (Word × ScrubOutcome)),
    let n := slot.toNat
    let answers := fun (c : Instr) (u : State) (sl res : Nat) =>
      exec c s = .next (({ u with key := { u.key with cmd := some (sl, res) } } : State).flag F.KEY_CMD_STAT_BUSY)
    let buf := (s.reg R.KEY_CMD_BUF).toNat / 8 * 8
    (s.key.cmd ≠ none → ∀ c ∈ ([.keyLoad slot mram, .keyLoadStall mram, .genmem slot alg, .keyErase slot, .keyInfo slot] : List Instr),
      exec c s = .next (s.flag F.KEY_FLAGS_CMD_OVR)) ∧
    (s.key.cmd = none →
      (s.key.keks = none → answers (.keyLoad slot mram) s n 8 ∧ answers (.keyLoadStall mram) s 0 8 ∧ answers (.genmem slot alg) s n 8 ∧ answers (.keyErase slot) s n 8) ∧
      (∀ keks, s.key.keks = some keks →
        (256 ≤ n → answers (.keyLoad slot mram) s n 9) ∧
        (n < 256 → s.memoryInUse n = true → answers (.keyLoad slot mram) s n 6) ∧
        (∀ x u blob kver ceil, n < 256 → s.memoryInUse n = false → s.readBlob buf mram = (x, blob) → x.keyRecordRead n mram = (u, kver, ceil) →
          let checked := keks.checkBlob n kver blob
          let step := max 1 (u.fld F.LGR_TXFC_STEP)
          let rec_ := fun (k : KeySlot) => leBytes 2 k.kver.toNat ++ [0, 0] ++ leBytes 4 step
          (∀ e, checked = .error (e, true) → answers (.keyLoad slot mram) (u.flag F.KEY_FLAGS_BAD_BLOB) n e) ∧
          (∀ e, checked = .error (e, false) → e ≠ 4 → answers (.keyLoad slot mram) u n e) ∧
          (checked = .error (4, false) → answers (.keyLoad slot mram) (u.flag F.KEY_FLAGS_ROLLBACK) n 4) ∧
          (∀ k, checked = .ok k → u.noCopy n = true → answers (.keyLoad slot mram) u n 5) ∧
          (∀ k, checked = .ok k → u.noCopy n = false →
            (k.kver.toNat ≤ kver → answers (.keyLoad slot mram) (u.putKey n { k with txfc := ceil, ceil := ceil }) n 0) ∧
            (kver < k.kver.toNat → Yields (.keyLoad slot mram) s fun t => t.key.named = u.key.named ∧ t.key.cmd = some (n, 0) ∧
              t.key.loading = some (n, { k with txfc := 0, ceil := step }) ∧
              (∃ go, t.memu.mramPend = u.memu.mramPend ++ [⟨BitVec.ofNat 32 (keyRecord n),
                (rec_ k).zipIdx.map fun p => (keyRecord n + p.2, p.1), .key, go⟩])))) ∧
        (∀ u, s.cmdStall (s.reg R.KEY_CMD_ADDR) = (u, .error 1) → answers (.keyLoadStall mram) u 0 7) ∧
        (∀ u, s.cmdStall (s.reg R.KEY_CMD_ADDR) = (u, .error 4) → answers (.keyLoadStall mram) u 0 5) ∧
        (∀ u v i blob, s.cmdStall (s.reg R.KEY_CMD_ADDR) = (u, .ok i) → u.unitData mram ((u.reg R.KEY_CMD_BUF).toNat / 8 * 8) 24 = (v, blob) →
          ((unwrap keks.slot blob).1 ≠ [0xA6, 0xA6, 0xA6, 0xA6] ++ leBytes 4 (s.reg R.KEY_CMD_ADDR).toNat →
            answers (.keyLoadStall mram) (v.flag F.KEY_FLAGS_BAD_BLOB) (256 + i) 1) ∧
          ((unwrap keks.slot blob).1 = [0xA6, 0xA6, 0xA6, 0xA6] ++ leBytes 4 (s.reg R.KEY_CMD_ADDR).toNat → v.noCopy (256 + i) = false →
            answers (.keyLoadStall mram) (((v.setStall i 104 blob).setStallFlag i 2 true).putKey (256 + i) (stallKey (unwrap keks.slot blob).2)) (256 + i) 0)) ∧
        (256 ≤ n ∨ 2 ≤ alg.toNat → answers (.genmem slot alg) s n 9) ∧
        (n < 256 → alg.toNat < 2 → s.on F.KEY_STAT_RNG_OK = false → answers (.genmem slot alg) s n 8) ∧
        (n < 256 → alg.toNat < 2 → s.on F.KEY_STAT_RNG_OK = true → s.memoryInUse n = true → answers (.genmem slot alg) s n 6) ∧
        (n < 256 → alg.toNat < 2 → s.on F.KEY_STAT_RNG_OK = true → s.memoryInUse n = false → s.noCopy n = false →
          ∃ rand, answers (.genmem slot alg) ((s.drawn 1).putKey n ⟨3, alg.toNat + 1, true, true, 0,
            kdf keks.mem [0x4D, 0x45, 0x4D, 0x4B, 0x45, 0x59] (leBytes 1 n ++ rand) (if alg.toNat = 0 then 256 else 512), 0, 0, 0⟩) n 0) ∧
        (4352 ≤ n → answers (.keyErase slot) s n 9) ∧
        (n < 4352 → s.dmd.rx = [] → s.mac.ops = [] → Yields (.keyErase slot) s fun t => t.namedKey n = none ∧ t.key.cmd = some (n, 0) ∧
          t.key.keks = s.key.keks ∧ (∀ m, m ≠ n → t.namedKey m = s.namedKey m) ∧ t.on F.KEY_FLAGS_ZEROISED = true)) ∧
      (4352 ≤ n → answers (.keyInfo slot) s n 9) ∧
      (∀ k, n < 256 → s.namedKey n = some k → k.policy < 8 → k.alg < 4 → Yields (.keyInfo slot) s fun t => t.on F.KEY_SLOT_INFO_VALID = true ∧
        t.fld F.KEY_SLOT_INFO_POLICY = k.policy ∧ t.fld F.KEY_SLOT_INFO_ALG = k.alg ∧ t.fld F.KEY_SLOT_INFO_KVER = k.kver.toNat ∧
        t.fld F.KEY_SLOT_INFO_FLAGS = k.enc.toNat + 2 * k.dec.toNat ∧ t.reg R.KEY_SLOT_TXFC = BitVec.ofNat 32 k.txfc ∧
        RegsBut s t [R.KEY_SLOT_INFO, R.KEY_SLOT_TXFC, R.KEY_CMD_STAT] ∧ t = { s with regs := t.regs, cycle := t.cycle, key := { s.key with cmd := some (n, 0) } }) ∧
      (n < 256 → s.namedKey n = none → Yields (.keyInfo slot) s fun t => t.on F.KEY_SLOT_INFO_VALID = false ∧ t.key.cmd = some (n, 0))) ∧
    (s.key.cmd = none → exec .keyCmdComplete s = .next s) ∧
    (∀ sl res, s.key.cmd = some (sl, res) →
      (s.key.loading ≠ none → exec .keyCmdComplete s = .next s) ∧
      (s.key.loading = none → res < 16 → Yields .keyCmdComplete s fun t => t.key = { s.key with cmd := none } ∧ t.fld F.KEY_CMD_STAT_BUSY = 0 ∧
        t.fld F.KEY_CMD_STAT_RESULT = res ∧ t.evc = (s.raise 0x302 42 (BitVec.ofNat 32 sl) res).evc ∧
        RegsBut s t (R.KEY_CMD_STAT :: eventRegs 0x302) ∧ t = { s with key := t.key, regs := t.regs, cycle := t.cycle, evc := t.evc }))

/-- The random source, cipher jobs and the check-value contexts (R304-R306, R310, R331, R333, R334): a reseed and a health failure set and clear RNG_OK; a
read of KEY_RAND answers some bits, zero without RNG_OK; a job done leaves the queue with the status of its descriptor as it was submitted, its key and its
tag; INIT starts a context at its polynomial's value and arms a snooping source; a write of DATA feeds its bytes, low byte first, to a direct
context only.
That a job has the descriptor of its submission is log entry 20, how a context is fed log entry 58 (both DEDUCED), that random bits are free log entry 9 (DESIGN
CHOICE). -/
def Obligations.RandomJobsAndCheckValues : Prop :=
  ∀ (s : State) (id : Nat) (n : Fin 4) (v : Word),
    (Yields .rngReseed s fun t => t.on F.KEY_STAT_RNG_OK = true ∧ RegsBut s t [R.KEY_STAT] ∧
      t = { s with regs := t.regs, cycle := t.cycle, key := { s.key with reads := 0 } }) ∧
    (Yields .rngHealthFail s fun t => t.on F.KEY_STAT_RNG_OK = false ∧ t.on F.KEY_FLAGS_RNG_FAIL = true ∧
      t.evc = (s.raise 0x304 42 0 0).evc ∧ RegsBut s t (R.KEY_STAT :: R.KEY_FLAGS :: eventRegs 0x304) ∧ t = { s with regs := t.regs, cycle := t.cycle, evc := t.evc }) ∧
    (s.on F.KEY_STAT_RNG_OK = false → exec .keyRandRead s = .next { s with busOut := 0 }) ∧
    (s.on F.KEY_STAT_RNG_OK = true → Yields .keyRandRead s fun t =>
      t = { s.drawn 1 with key := { s.key with reads := (s.key.reads + 1) % 2 ^ 20 }, busOut := t.busOut }) ∧
    (kget? s.key.jobs id = none → exec (.cjobDone id) s = .next s) ∧
    (∀ j, kget? s.key.jobs id = some j →
      let u := { s with key := { s.key with jobs := sdel s.key.jobs id } }
      let ends := fun (t : State) (status : Nat) => exec (.cjobDone id) s = .next (t.endJob j status)
      (j.words = none → ends u 6) ∧
      (∀ b, j.words = some b →
        let d := parseJob b
        (d.valid = false → ends u 5) ∧
        (d.valid = true → j.erased = true → ends (u.unitWrite d.output (List.replicate d.writes 0)).1 4) ∧
        (d.valid = true → j.erased = false → j.bound = none → ends u 3) ∧
        (∀ k, d.valid = true → j.erased = false → j.bound = some k →
          (∀ x, u.jobInputs d = (x, none) → ends x 6) ∧
          (∀ x y nonce aad inp, u.jobInputs d = (x, some (nonce, aad, inp)) →
            ((d.run k.key nonce aad inp).2 = true → x.unitWrite d.output (d.run k.key nonce aad inp).1 = (y, true) → ends y 1) ∧
            ((d.run k.key nonce aad inp).2 = true → x.unitWrite d.output (d.run k.key nonce aad inp).1 = (y, false) → ends y 6) ∧
            ((d.run k.key nonce aad inp).2 = false → x.unitWrite d.output (List.replicate d.writes 0) = (y, true) → ends y 2))))) ∧
    (v.getLsbD 31 = true → Yields (.crcInit n v) s fun t =>
      t.reg (R.CRC_CTXn_CTL n) = v &&& 0x00FF3373 ∧ t.reg (R.CRC_CTXn_VALUE n) = (Poly.ofCode (v.toNat % 4)).init ∧
      t.fld (F.CRC_CTXn_STAT_BYTES n) = 0 ∧ t.fld (F.CRC_CTXn_STAT_VERDICT n) = 0 ∧ t.on (F.CRC_CTXn_STAT_ABORT n) = false ∧
      (t.crc[n] = .armed ↔ 1 ≤ v.toNat / 16 % 8 ∧ v.toNat / 16 % 8 ≤ 3) ∧ (t.on (F.CRC_CTXn_STAT_ARMED n) = true ↔ t.crc[n] = .armed) ∧
      RegsBut s t [R.CRC_CTXn_CTL n, R.CRC_CTXn_VALUE n, R.CRC_CTXn_STAT n] ∧ t = { s with regs := t.regs, crc := s.crc.set n t.crc[n] }) ∧
    (v.getLsbD 31 = false → exec (.crcInit n v) s = .next (s.setReg (R.CRC_CTXn_CTL n) (v &&& 0x00FF3373))) ∧
    (let len := if s.fld (F.CRC_CTXn_CTL_DLEN n) = 0 then 4 else s.fld (F.CRC_CTXn_CTL_DLEN n);
      (s.fld (F.CRC_CTXn_CTL_SRC n) = 0 → Yields (.crcDataWrite n v) s fun t =>
        t.reg (R.CRC_CTXn_VALUE n) = crcBytes (s.crcPoly n) (s.crcValue n) (leBytes len v.toNat) ∧
        t.fld (F.CRC_CTXn_STAT_BYTES n) = min 0xFFFFFF (s.fld (F.CRC_CTXn_STAT_BYTES n) + len) ∧
        RegsBut s t [R.CRC_CTXn_VALUE n, R.CRC_CTXn_STAT n] ∧ t = { s with regs := t.regs }) ∧
      (s.fld (F.CRC_CTXn_CTL_SRC n) ≠ 0 → exec (.crcDataWrite n v) s = .next (s.flagBit F.CRC_FLAGS_FEED_ERR n)))

/-! ### Events -/

/-- The event collector and the tally (R374, R378-R382, R384): a cycle stages the held events of earlier cycles while there is room and writes the oldest staged
one to every queue it goes to, SEQ counting it; a full queue or ring discards and counts it, and so does a failed write to host memory, which sets HR_ERR;
QCLR empties queues before a record of the same cycle, which is then no longer counted as lost; CONS moves within the ring only;
setting HR_EN starts the ring from zero; a tally clear leaves every counter, those of squashes and of event codes too, with the increments of its own cycle and
changes nothing else, once the samples clipped so far have been counted. What a cycle is, and when a held event is of an earlier one, is log entry 5 (DEDUCED).
An occurrence of an interrupt cause is log entry 23 (DEDUCED), host memory log entry 54 (DESIGN CHOICE). -/
def Obligations.EventsAndTheTally : Prop :=
  ∀ (s : State) (dmaOk : Bool) (mask : BitVec 8) (v : Word),
    let go := (s.evc.held.takeWhile fun e => decide (e.raised < s.cycle.no + 1)).take (16 - s.evc.staged.length)
    (s.evc.staged ++ go = [] → exec (.eventRecordWrite dmaOk) s = .next s.newCycle) ∧
    (∀ e rest, s.evc.staged ++ go = e :: rest →
      let m := s.eventCores e
      let c := { s.evc with staged := rest, held := s.evc.held.drop go.length }
      (s.on (F.EVC_ROUTEr_HOST e.area) = false ∨ s.on F.EVC_CTL_HR_EN = false → Yields (.eventRecordWrite dmaOk) s fun t =>
        (∀ k : Fin 8, t.evc.seqs[k] = (if m.getLsbD k = true then s.evc.seqs[k] + 1 else s.evc.seqs[k]) ∧
          t.evc.queues[k] = (if m.getLsbD k = true ∧ s.evc.queues[k].length < 64 then s.evc.queues[k] ++ [⟨e, s.evc.seqs[k], s.time⟩] else s.evc.queues[k]) ∧
          t.reg (R.EVC_LOSTd k) = s.reg (R.EVC_LOSTd k) + (if m.getLsbD k = true ∧ 64 ≤ s.evc.queues[k].length then 1 else 0)) ∧
        t.cycle.no = s.cycle.no + 1 ∧ t.cycle.record = some e ∧ t.cycle.went = m ∧
        t = { s with regs := t.regs, cycle := t.cycle, evc := { c with queues := t.evc.queues, seqs := t.evc.seqs } }) ∧
      (s.on (F.EVC_ROUTEr_HOST e.area) = true → m = 0 → s.on F.EVC_CTL_HR_EN = true →
        let prod := s.fld F.EVC_HR_PROD_PROD
        let full := (prod + 0x10000 - s.fld F.EVC_HR_CONS_CONS) % 0x10000 = s.hostRingSize
        let u := { s with cycle := ⟨s.cycle.no + 1, [], [], some e, m, BitVec.ofNat 8 (s.fld F.EVC_FLAGS_QOVF), 0, []⟩, evc := { c with hostSeq := s.evc.hostSeq + 1 } }
        (s.evc.hostErr = true → Yields (.eventRecordWrite dmaOk) s fun t => t.reg (R.EVC_LOSTd 8) = s.reg (R.EVC_LOSTd 8) + 1 ∧
          t = { u with regs := t.regs, cycle := t.cycle }) ∧
        (s.evc.hostErr = false → full → Yields (.eventRecordWrite dmaOk) s fun t => t.reg (R.EVC_LOSTd 8) = s.reg (R.EVC_LOSTd 8) + 1 ∧
          t.on F.EVC_FLAGS_HOVF = true ∧ t = { u with regs := t.regs, cycle := t.cycle }) ∧
        (s.evc.hostErr = false → ¬ full → dmaOk = false → Yields (.eventRecordWrite dmaOk) s fun t => t.evc.hostErr = true ∧
          t.on F.EVC_FLAGS_HR_ERR = true ∧ t.reg (R.EVC_LOSTd 8) = s.reg (R.EVC_LOSTd 8) + 1 ∧ t.reg R.EVC_HR_PROD = s.reg R.EVC_HR_PROD) ∧
        (∀ w, s.evc.hostErr = false → ¬ full → dmaOk = true →
          u.dmaWrite (s.pair R.EVC_HR_BASE_LO R.EVC_HR_BASE_HI + 16 * (prod % s.hostRingSize)) (Record.bytes ⟨e, s.evc.hostSeq, s.time⟩) = (w, true) →
          exec (.eventRecordWrite dmaOk) s = .next ((w.setFld F.EVC_HR_PROD_PROD (prod + 1)).irqOccur 8)))) ∧
    (Yields (.evcQclr mask) s fun t =>
      (∀ k : Fin 8, (mask.getLsbD k = false → t.evc.queues[k] = s.evc.queues[k] ∧ t.evc.seqs[k] = s.evc.seqs[k]) ∧
        (mask.getLsbD k = true → (s.writtenTo k = none → t.evc.queues[k] = [] ∧ t.evc.seqs[k] = 0) ∧
          (∀ e, s.writtenTo k = some e → t.evc.queues[k] = [⟨e, 0, s.time⟩] ∧ t.evc.seqs[k] = 1)) ∧
        (let kept : Prop := mask.getLsbD k = true ∧ s.writtenTo k ≠ none ∧ (R.EVC_LOSTd k, 1) ∈ s.cycle.counts
         (kept → t.reg (R.EVC_LOSTd k) = s.reg (R.EVC_LOSTd k) - 1 ∧
           t.fldBit F.EVC_FLAGS_QOVF k = (s.cycle.qovf.getLsbD k && s.fldBit F.EVC_FLAGS_QOVF k)) ∧
         (¬ kept → t.reg (R.EVC_LOSTd k) = s.reg (R.EVC_LOSTd k) ∧ t.fldBit F.EVC_FLAGS_QOVF k = s.fldBit F.EVC_FLAGS_QOVF k))) ∧
      RegsBut s t (F.EVC_FLAGS_QOVF.addr :: (List.range 8).map R.EVC_LOSTd) ∧
      t = { s with regs := t.regs, cycle := t.cycle, evc := { s.evc with queues := t.evc.queues, seqs := t.evc.seqs } }) ∧
    (let ahead := (s.fld F.EVC_HR_PROD_PROD + 0x10000 - v.toNat % 0x10000) % 0x10000;
      (ahead ≤ s.hostRingSize → exec (.evcHrConsWrite v) s = .next (s.setFld F.EVC_HR_CONS_CONS (v.toNat % 0x10000))) ∧
      (s.hostRingSize < ahead → exec (.evcHrConsWrite v) s = .next s)) ∧
    (v.getLsbD 0 = true → v.toNat / 2 ^ 16 % 256 = 0 → Yields (.evcHrEnable v) s fun t => t.on F.EVC_CTL_HR_EN = true ∧
      (s.on F.EVC_CTL_HR_EN = false → t.fld F.EVC_CTL_HR_LOG2 = v.toNat / 2 ^ 8 % 16 ∧ t.reg R.EVC_HR_PROD = 0 ∧ t.reg R.EVC_HR_CONS = 0 ∧
        RegsBut s t [R.EVC_CTL, R.EVC_HR_PROD, R.EVC_HR_CONS] ∧
        t = { s with regs := t.regs, evc := { s.evc with hostSeq := 0, hostErr := false } }) ∧
      (s.on F.EVC_CTL_HR_EN = true → t.fld F.EVC_CTL_HR_LOG2 = s.fld F.EVC_CTL_HR_LOG2 ∧ RegsBut s t [R.EVC_CTL] ∧ t = { s with regs := t.regs })) ∧
    (v.getLsbD 0 = false → v.toNat / 2 ^ 16 % 256 = 0 → Yields (.evcHrEnable v) s fun t => t.on F.EVC_CTL_HR_EN = false ∧ RegsBut s t [R.EVC_CTL] ∧
      t = { s with regs := t.regs }) ∧
    (s.mac.line = [] → s.counted R.TAL_CTL = s) ∧
    (Yields .tallyClear s fun t =>
      let u := s.counted R.TAL_CTL
      (∀ a, (∃ i < 64, a = R.TAL_CNTi i) ∨ (∃ n < 32, a = R.TAL_SQn n) ∨ (∃ c < 4096, a = R.TAL_EVCNTc c) →
        t.reg a = BitVec.ofNat 32 ((s.cycle.counts.filter fun p => p.1 == a).map (·.2)).sum) ∧
      (∀ a, a < 0x40190000 ∨ 0x401A0000 ≤ a → t.reg a = u.reg a) ∧ t = { u with regs := t.regs })

/-! ### Memories -/

/-- The march test (R396, R397): a run starts on a mask of banks, a destructive one on shared banks only, and is refused while another runs; its end
zeroes the banks of a destructive run, writes the fault of a transparent one to the repair record as pending, and raises MARCH_DONE with the worst result. MRAM
writes, scrubbing and the
wipe's end (R205, R281, R391, R401-R403): waiting writes start once their 10 us have passed; a verified or remapped
write puts its bytes into memory, and a reception waits for it no longer; a failed one leaves them, raises MRAM_ERROR and squashes a reception whose commit needed
it; a scrub rewrites weak and corrected words and reports the others; the end of a wipe has every record await import. How writes wait is log entry 28
(DEDUCED), what a march leaves in banks and record log entry 29 (DESIGN CHOICE), the rebuild after a wipe, enabled or not, log entry 32 (DEDUCED). -/
def Obligations.MarchRunsMramWritesAndWipes : Prop :=
  (∀ (s : State) (v : Word) (b : Fin 64) (row : Fin 512) (col : Fin 1024),
     let g := v.toNat / 2 ^ 8 % 8
     let mask : BitVec 8 := v.setWidth 8
     let ok : Prop := s.memu.march = none ∧ mask ≠ 0 ∧
       (v.getLsbD 16 = true → ∀ i : Fin 8, mask.getLsbD i = true → 20 ≤ 8 * g + i.val ∧ 8 * g + i.val ≤ 35)
     (v.getLsbD 31 = true →
       (ok → Yields (.marchRequest v) s fun t => t.memu = { s.memu with march := some ⟨v.getLsbD 16, g, mask⟩ } ∧ t.on F.MEM_MARCH_STAT_BUSY = true ∧
         t.fld F.MEM_MARCH_STAT_GROUP = g ∧ t.fld F.MEM_MARCH_STAT_MASK = mask.toNat ∧ RegsBut s t [R.MEM_MARCH_CTL, R.MEM_MARCH_STAT] ∧
         t = { s with memu := t.memu, regs := t.regs }) ∧
       (¬ ok → Yields (.marchRequest v) s fun t => t.on F.MEM_FLAGS_MARCH_REFUSED = true ∧ RegsBut s t [R.MEM_MARCH_CTL, R.MEM_FLAGS] ∧
         t = { s with regs := t.regs, cycle := t.cycle })) ∧
     (v.getLsbD 31 = false → exec (.marchRequest v) s = .next (s.setReg R.MEM_MARCH_CTL (v &&& 0x000107FF))) ∧
     (s.memu.march = none → exec (.marchDone []) s = .next s) ∧
     (∀ m, s.memu.march = some m →
       (Yields (.marchDone []) s fun t => t.memu = { s.memu with march := none } ∧ t.on F.MEM_MARCH_STAT_BUSY = false ∧
         t.fld F.MEM_MARCH_STAT_RESULT = 0 ∧ t.evc = (s.raise 0x401 56 (BitVec.ofNat 32 (m.group * 256 + m.mask.toNat)) 0).evc ∧
         (∀ x, (m.destructive = false ∨ sharedBanks m.group m.mask = true ∧ ∀ i : Fin 8, m.mask.getLsbD i = true → x < bankBase (8 * m.group + i) ∨ bankBase (8 * m.group + i) + 0x10000 ≤ x) →
           t.byte x = s.byte x) ∧
         (m.destructive = true → m.group < 8 → s.fills = [] → ∀ i : Fin 8, m.mask.getLsbD i = true → ∀ j < 0x10000, t.byte (bankBase (8 * m.group + i) + j) = 0) ∧
         t = { s with memu := t.memu, regs := t.regs, cycle := t.cycle, evc := t.evc, mem := t.mem }) ∧
       (m.destructive = false → b.val / 8 = m.group → m.mask.getLsbD (b.val % 8) = true →
         Yields (.marchDone [⟨b, [(row, col)], false⟩]) s fun t => t.fld F.MEM_MARCH_STAT_RESULT = 2 ∧ t.memu.march = none ∧
           t.mramBytes (repairAddr b.val + 6) 2 = leBytes 2 (0x8000 + col.val) ∧ t.mem = s.mem))) ∧
  (∀ (s : State) (a : Word) (w : MramWrite) (o : ScrubOutcome) (oc : MramOutcome) (errs : List (Word × ScrubOutcome)),
     ((∀ x ∈ s.memu.mramPend, x.addr ≠ a ∨ x.started = true) → exec (.mramWriteLimitRelease a) s = .next s) ∧
     ((∃ x ∈ s.memu.mramPend, x.addr = a ∧ x.started = false) → exec (.mramWriteLimitRelease a) s = .next s.mramKick) ∧
     ((∀ x ∈ s.memu.mramPend, x.addr ≠ a ∨ x.started = false) → exec (.mramWriteComplete a oc) s = .next s) ∧
     (∀ rest k, takeFirst (fun x => x.addr == a && x.started) s.memu.mramPend = some (w, rest) → w.writer = .core k →
       let u := { s with memu := { s.memu with mramPend := rest } }
       exec (.mramWriteComplete a .verified) s = .next (u.mramStore w).mramKick ∧
       exec (.mramWriteComplete a .failed) s = .next (u.mramError a.toNat).mramKick) ∧
     (∀ rest id, takeFirst (fun x => x.addr == a && x.started) s.memu.mramPend = some (w, rest) → w.writer = .commit [id] →
       let u := { s with memu := { s.memu with mramPend := rest } }
       exec (.mramWriteComplete a .verified) s =
         .next (((u.mramStore w).modRx id fun r => { r with waits := r.waits.filter (· != a.toNat) }).mramKick) ∧
       ((∀ r i, s.findRx id = some r → r.stall = some i → s.lockAsked i = false) →
         exec (.mramWriteComplete a .failed) s = .next (((u.mramError a.toNat).squash id 15).mramKick))) ∧
     (s.memu.mramPend = [w] → w.addr = a →
       (w.started = false → s.sys.mramFrozen = false → s.mramOpen a.toNat = true → exec (.mramWriteLimitRelease a) s =
         .next { s with memu := { s.memu with mramPend := [{ w with started := true }], mramLast := sput s.memu.mramLast a.toNat s.time } }) ∧
       (w.started = true → ∀ k, w.writer = .core k →
         let u := { s with memu := { s.memu with mramPend := [] } }
         let spares := (kget? s.memu.spares ((a.toNat - 0x18000000) / 0x100000)).getD 0
         (Yields (.mramWriteComplete a .verified) s fun t => t = { u with mem := t.mem } ∧
           (∀ x, (∀ p ∈ w.bytes, p.1 ≠ x) → t.byte x = s.byte x) ∧ (∀ x b, w.bytes = [(x, b)] → t.byte x = b)) ∧
         (spares < 1024 → Yields (.mramWriteComplete a .remapped) s fun t =>
           t.mem = (u.mramStore w).mem ∧ t.fld F.MEM_MRAM_STAT_REMAP = (s.fld F.MEM_MRAM_STAT_REMAP + 1) % 65536 ∧
           t.memu = { u.memu with spares := t.memu.spares } ∧ RegsBut s t [R.MEM_MRAM_STAT]) ∧
         (Yields (.mramWriteComplete a .failed) s fun t => t.mem = s.mem ∧ t.on F.MEM_FLAGS_MRAM_ERR = true ∧ t.reg R.MEM_MRAM_ERR_ADDR = a ∧
           t.evc = (s.raise 0x402 57 a 0).evc ∧ t = { u with regs := t.regs, cycle := t.cycle, evc := t.evc }))) ∧
     (s.on F.MEM_MSCRUB_EN = false ∨ a.toNat < 0x18000000 ∨ 0x19000000 ≤ a.toNat → exec (.mramScrub a o) s = .next s) ∧
     (s.on F.MEM_MSCRUB_EN = true → 0x18000000 ≤ a.toNat → a.toNat < 0x19000000 →
       let x := a.toNat / 4 * 4
       exec (.mramScrub a .good) s = .next s ∧
       exec (.mramScrub a .weak) s = .next (s.mramIssue x [] .scrub) ∧
       (Yields (.mramScrub a .corrected) s fun t => t.fld F.MEM_MRAM_STAT_CORR = min 65535 (s.fld F.MEM_MRAM_STAT_CORR + 1) ∧
         t.on F.MEM_FLAGS_MRAM_CORR = true ∧ t = { s.mramIssue x [] .scrub with regs := t.regs, cycle := t.cycle }) ∧
       exec (.mramScrub a .uncorrectable) s = .next (s.mramError x)) ∧
     (s.memu.wipe = none → exec (.partitionWiped errs) s = .next s) ∧
     (∀ c, s.memu.wipe = some c → Yields (.partitionWiped errs) s fun t =>
       let lost := (s.mramReads errs (addrWord 0) (4 * s.recCount)).2
       t.memu.wipe = none ∧ t.on F.LGR_STAT_REBUILD_BUSY = true ∧ t.on F.LGR_REBUILD_STAT_DONE = false ∧
       t.lgr.rebuild = some ((List.range s.recCount).filter fun c => !s.indexFree c && !lost.contains (addrWord c / 4)).length ∧
       (∀ p ∈ t.lgr.hot, p.2.waiting = true) ∧ t.lgr.pages = [] ∧ t.lgr.wb = [] ∧ (∀ r ∈ t.dmd.rx, r.stall = none)))

/-- The DDR controller (R405, R407, R408, R527): TRAIN starts training and clearing EN ends service, and the DDR PLL locks on its enable; training's end makes memory
READY at the density found, or
sets TRAIN_FAIL, and in LASTGASP, where the controller has no power, has no effect; a refresh shows its rate; a region is enabled only where it is allowed, an XTS
one at once and a GCM one after its
zero-fill; a sweep raises GEN and its end clears SWEEPING. That the PLL stays unlocked in LASTGASP is log entry 26, what training leaves log entry 12 (both DESIGN
CHOICE).
The training record's words are log entry 28, the lines of a region log entry 30, and that a zero-fill leaves VER_MAX log entry 32 (all DEDUCED). -/
def Obligations.ExternalMemoryControl : Prop :=
  ∀ (s : State) (v : Word) (ok : Bool) (density : BitVec 2) (rate : BitVec 3) (r : Fin 8),
    (Yields (.ddrTrain v) s fun t => t.on F.DDR_CTL_EN = v.getLsbD 0 ∧
      (v.getLsbD 0 = false → t.on F.DDR_STAT_READY = false ∧ t.on F.DDR_STAT_TRAINING = false) ∧
      (v.getLsbD 0 = true → v.getLsbD 4 = true → t.on F.DDR_STAT_READY = false ∧ t.on F.DDR_STAT_TRAINING = true) ∧
      (v.getLsbD 0 = true → v.getLsbD 4 = false → t.reg R.DDR_STAT = s.reg R.DDR_STAT) ∧
      t.fld F.SYS_STAT_LOCK = (if v.getLsbD 0 = true ∧ s.sys.mode ≠ .lastgasp then 4 else 0) + s.fld F.SYS_STAT_LOCK % 4 ∧
      RegsBut s t [R.DDR_CTL, R.DDR_STAT, R.SYS_STAT] ∧ t = { s with regs := t.regs }) ∧
    (s.on F.DDR_STAT_TRAINING = false → exec (.ddrReady ok density) s = .next s) ∧
    (s.sys.mode = .lastgasp → exec (.ddrReady ok density) s = .next s) ∧
    (s.on F.DDR_STAT_TRAINING = true → s.sys.mode ≠ .lastgasp →
      (Yields (.ddrReady true density) s fun t => t.on F.DDR_STAT_READY = true ∧ t.on F.DDR_STAT_TRAINING = false ∧
        t.fld F.DDR_STAT_SIZE = density.toNat ∧ t.evc = (s.raise 0x404 59 0 0).evc ∧
        RegsBut s t (R.DDR_STAT :: eventRegs 0x404) ∧
        t = { s with memu := t.memu, regs := t.regs, cycle := t.cycle, evc := t.evc }) ∧
      (Yields (.ddrReady false density) s fun t => t.on F.DDR_FLAGS_TRAIN_FAIL = true ∧ t.on F.DDR_STAT_TRAINING = false ∧
        RegsBut s t [R.DDR_STAT, R.DDR_FLAGS] ∧ t = { s with regs := t.regs, cycle := t.cycle })) ∧
    exec .ddrRetrack s = .next s ∧
    (s.on F.DDR_STAT_READY = true → exec (.ddrRefresh rate) s = .next (s.setFld F.DDR_STAT_TEMP rate.toNat)) ∧
    (s.on F.DDR_STAT_READY = false → exec (.ddrRefresh rate) s = .next s) ∧
    (s.on (F.DDR_RrCTL_EN r) = true → v.getLsbD 0 = false → Yields (.ddrRegionEnable r v) s fun t => t.on (F.DDR_RrCTL_EN r) = false ∧
      t.on (F.DDR_RrCTL_READY r) = false ∧ RegsBut s t [R.DDR_RrCTL r] ∧ t = { s with regs := t.regs }) ∧
    (s.on (F.DDR_RrCTL_EN r) = false →
      let u := ((s.setFld (F.DDR_RrCTL_SLOT r) (v.toNat / 2 ^ 16 % 256)).setFld (F.DDR_RrCTL_MODE r) (v.toNat / 2 ^ 4 % 4)).setFld
        (F.DDR_RrCTL_VOFS r) (v.toNat / 2 ^ 8 % 32)
      (v.getLsbD 0 = false → exec (.ddrRegionEnable r v) s = .next u) ∧
      (v.getLsbD 0 = true → u.regionAllowed r = false → exec (.ddrRegionEnable r v) s = .next (u.flag F.DDR_FLAGS_CFG_ERR)) ∧
      (v.getLsbD 0 = true → u.regionAllowed r = true → Yields (.ddrRegionEnable r v) s fun t => t.on (F.DDR_RrCTL_EN r) = true ∧
        t.on (F.DDR_RrCTL_KEYLOST r) = false ∧ RegsBut u t [R.DDR_RrCTL r] ∧
        (v.toNat / 2 ^ 4 % 4 = 1 → t.on (F.DDR_RrCTL_READY r) = true ∧ t = { s with regs := t.regs }) ∧
        (v.toNat / 2 ^ 4 % 4 = 2 → t = { s with regs := t.regs, memu := { s.memu with ddrFill := s.memu.ddrFill ++ [r] } }))) ∧
    (r ∉ s.memu.ddrFill → exec (.ddrRegionReady r) s = .next s) ∧
    (r ∈ s.memu.ddrFill → s.regionSeal r = none ∨ s.on (F.DDR_RrCTL_EN r) = false →
      exec (.ddrRegionReady r) s = .next { s with memu := { s.memu with ddrFill := s.memu.ddrFill.filter (fun q => q != r) } }) ∧
    (∀ key, r ∈ s.memu.ddrFill → s.regionSeal r = some key → s.on (F.DDR_RrCTL_EN r) = true → Yields (.ddrRegionReady r) s fun t =>
      let b := s.regionBase r
      let n := s.regionSize r
      let tag := s.regionTag r
      t.on (F.DDR_RrCTL_READY r) = true ∧ t.memu = { s.memu with ddrFill := s.memu.ddrFill.filter (fun q => q != r) } ∧
      t.fills = ⟨r, key, s.regionGen r, b, n, tag⟩ :: s.fills ∧ RegsBut s t [R.DDR_RrCTL r] ∧
      (∀ x, x < b ∨ b + n ≤ x → x < tag ∨ tag + n / 16 ≤ x → x < s.versionAddr r 0 ∨ s.versionAddr r (n / 128) ≤ x → t.byte x = s.byte x)) ∧
    (2 ≤ r.val → s.on (F.DDR_RrCTL_EN r) = true → s.fld (F.DDR_RrCTL_MODE r) = 2 → s.on (F.DDR_RrCTL_SWEEPING r) = false →
      Yields (.ddrRegionSweep r) s fun t => t.on (F.DDR_RrCTL_SWEEPING r) = true ∧ t.on F.DDR_FLAGS_SWEEP = true ∧
        t.reg (R.DDR_RrGEN r) = s.reg (R.DDR_RrGEN r) + 1 ∧ RegsBut s t [R.DDR_RrCTL r, R.DDR_FLAGS, R.DDR_RrGEN r] ∧
        t = { s with regs := t.regs, cycle := t.cycle, memu := { s.memu with ddrSweep := s.memu.ddrSweep ++ [r] } }) ∧
    (r.val < 2 ∨ s.on (F.DDR_RrCTL_EN r) = false ∨ s.fld (F.DDR_RrCTL_MODE r) ≠ 2 ∨ s.on (F.DDR_RrCTL_SWEEPING r) = true → exec (.ddrRegionSweep r) s = .next s) ∧
    (r ∉ s.memu.ddrSweep → exec (.ddrSweepComplete r) s = .next s) ∧
    (r ∈ s.memu.ddrSweep → Yields (.ddrSweepComplete r) s fun t => t.on (F.DDR_RrCTL_SWEEPING r) = false ∧
      t.memu = { s.memu with ddrSweep := s.memu.ddrSweep.filter (fun q => q != r) } ∧ RegsBut s t [R.DDR_RrCTL r])

/-! ### Security -/

/-- Security commands (R415, R417, R418, R424, R427-R432, R444): with one running another is ignored with CMD_OVR; NONCE draws 16 bytes; a token consumes the nonce
and is refused for what it fails first, and else STAGE writes the record of its transition and DEBUG opens its scopes; UNSTAGE deletes the record; DEPLOY and
END_LOCAL write their own where the life cycle and presence allow; ROLLBACK and REVOKE name the OTP bits to burn; IDENT writes its output and EXTEND
extends M1; ATTEST takes a leaf and prepares its report, both from the key state as MRAM gives it. SEC_CMD_COMPLETE ends a command once its words of MRAM are
written: the record written is
staged, the bits are burnt and the report is released, or, a word having failed, it ends NOT_READY. The order of a token's checks is log entry 49 (DEDUCED), the
forms of the signatures log entry 21 (PRESUMED).
When a command's words appear is log entry 27 (DESIGN CHOICE), how they are written log entry 28 (DEDUCED). -/
def Obligations.SecurityCommands : Prop :=
  ∀ (s : State) (agent : Agent) (mram : List (Word × ScrubOutcome)),
    let all : List Instr := [.nonce agent, .stage agent, .unstage agent, .deploy agent, .debug agent, .attest agent mram, .ident agent mram, .extend agent,
      .rollback agent, .revoke agent, .endLocal agent]
    let ends := fun (c : Instr) (u : State) (x : SecCmd) =>
      exec c s = .next (({ u with sec := { u.sec with cmd := some x } } : State).flag F.SEC_CMD_STAT_BUSY)
    let answers := fun (c : Instr) (u : State) (r : Nat) => ends c u ⟨r, none, [], none, false⟩
    let fails := fun (c : Instr) (u : State) (r : Nat) => answers c (u.flag F.SEC_FLAGS_TOKEN_FAIL) r
    let writes := fun (c : Instr) (u : State) (p : Option Pending) (bs : List Byte) =>
      ends c (u.mramRecord (.record .security) 0x18310000 bs) ⟨0, some p, [], none, false⟩
    (s.sys.mode = .dormant → ∀ c ∈ all, exec c s = .next s) ∧
    (s.sys.mode ≠ .dormant → s.sec.cmd ≠ none → ∀ c ∈ all, exec c s = .next (s.flag F.SEC_FLAGS_CMD_OVR)) ∧
    (s.sys.mode ≠ .dormant → s.sec.cmd = none →
      (∃ n : List Byte, n.length = 16 ∧ answers (.nonce agent) { s.drawn 1 with sec := { s.sec with nonce := some n } } 0) ∧
      (s.sec.nonce = none → fails (.stage agent) s 3 ∧ fails (.debug agent) s 3) ∧
      (∀ n w, s.sec.nonce = some n → ({ s with sec := { s.sec with nonce := none } } : State).secIn 3088 = (w, none) →
        fails (.stage agent) w 1 ∧ fails (.debug agent) w 1) ∧
      (∀ n w t, s.sec.nonce = some n → ({ s with sec := { s.sec with nonce := none } } : State).secIn 3088 = (w, some t) →
        let uid := (t.drop 8).take 16
        let non := (t.drop 24).take 16
        let lc := (t.getD 5 0).toNat
        let target := tokenTarget t
        (w.tokenGenuine [1, 2, 3] t = false → fails (.stage agent) w 1) ∧
        (w.tokenGenuine [4] t = false → fails (.debug agent) w 1) ∧
        (w.tokenGenuine [1, 2, 3] t = true →
          (uid ≠ w.otp.uid → fails (.stage agent) w 2) ∧
          (uid = w.otp.uid → non ≠ n → fails (.stage agent) w 3) ∧
          (uid = w.otp.uid → non = n → lc ≠ lcCode w.otp.lc → fails (.stage agent) w 4) ∧
          (uid = w.otp.uid → non = n → lc = lcCode w.otp.lc →
            (w.mayStage target ≠ 0 → fails (.stage agent) w (w.mayStage target)) ∧
            (w.mayStage target = 0 → writes (.stage agent) w (some ⟨w.otp.lc, target, w.otp.uid, t⟩) (t ++ [BitVec.ofNat 8 (lcCode target)])))) ∧
        (w.tokenGenuine [4] t = true →
          (uid ≠ w.otp.uid → fails (.debug agent) w 2) ∧
          (uid = w.otp.uid → non ≠ n → fails (.debug agent) w 3) ∧
          (uid = w.otp.uid → non = n → lc = lcCode w.otp.lc →
            (w.otp.lc ≠ .provisioned → fails (.debug agent) w 4) ∧
            (w.otp.lc = .provisioned →
              let scopes := w.sec.scopes ||| (t.getD 6 0).setWidth 3
              answers (.debug agent) { w with sec := { w.sec with scopes := scopes, opened := w.sec.opened || scopes != 0 } } 0)))) ∧
      (s.sec.staged = none → answers (.unstage agent) s 0) ∧
      (s.sec.staged ≠ none → writes (.unstage agent) s none (List.replicate 3089 0)) ∧
      (let stages := fun (c : Instr) (target : LifeCycle) =>
          writes c s (some ⟨s.otp.lc, target, s.otp.uid, List.replicate 3088 0⟩) (List.replicate 3088 0 ++ [BitVec.ofNat 8 (lcCode target)]);
        (s.otp.lc ≠ .provisioned → answers (.deploy agent) s 4) ∧
        (s.otp.lc = .provisioned → (s.otp.lcSteps < 32 → stages (.deploy agent) .deployed) ∧ (32 ≤ s.otp.lcSteps → answers (.deploy agent) s 6)) ∧
        (s.otp.lc ≠ .maker → s.otp.lc ≠ .returned → answers (.endLocal agent) s 4) ∧
        (s.otp.lc = .maker ∨ s.otp.lc = .returned →
          (s.present = false → answers (.endLocal agent) s 5) ∧
          (s.present = true → s.otp.lcSteps ≤ 32 → stages (.endLocal agent) .ended))) ∧
      (let c := s.otp.rollback;
        ends (.rollback agent) s ⟨0, none, (List.range (s.fld F.SEC_BOOT_SVN - c)).map fun i => .rollback (c + i), none, false⟩) ∧
      (let k := (s.reg R.SEC_CMD_BUF).toNat % 4;
        (k = s.fld F.SEC_BOOT_KEYIDX ∨ (∀ i < 4, i ≠ k → s.otp.revoke.getLsbD i = true) → answers (.revoke agent) s 4) ∧
        (k ≠ s.fld F.SEC_BOOT_KEYIDX → (∃ i < 4, i ≠ k ∧ s.otp.revoke.getLsbD i = false) →
          ends (.revoke agent) s ⟨0, none, [.revoke (Fin.ofNat 4 k)], none, false⟩)) ∧
      (s.sec.idk = none → answers (.ident agent mram) s 7 ∧ answers (.attest agent mram) s 7) ∧
      (∀ d, s.sec.idk = some d →
        (∀ x w q valid, s.lmsRead mram = (x, q, valid) →
          (x.secPut (P384.pub (beNat d) ++ [0, 0, 0] ++ x.hssPub valid) = (w, true) → answers (.ident agent mram) w 0) ∧
          (x.secPut (P384.pub (beNat d) ++ [0, 0, 0] ++ x.hssPub valid) = (w, false) → answers (.ident agent mram) w 8)) ∧
        (∀ u, s.secIn 32 = (u, none) → answers (.attest agent mram) u 8) ∧
        (∀ u chal, s.secIn 32 = (u, some chal) → secRegion u.secOut 2960 = false → answers (.attest agent mram) u 8) ∧
        (∀ u x chal, s.secIn 32 = (u, some chal) → secRegion u.secOut 2960 = true →
          (u.takeLeaf mram = (x, none) → ∃ k, 1 ≤ k ∧ k < P384.n ∧
            let head := x.reportHead none chal
            ends (.attest agent mram) (x.drawn 1)
              ⟨0, none, [], some (x.secOut, head ++ P384.sign (beNat d) (sha384 head) k ++ List.replicate 2672 0), false⟩) ∧
          (∀ q seed lid, u.takeLeaf mram = (x, some (q, seed, lid)) → ∃ k c, 1 ≤ k ∧ k < P384.n ∧
            let head := x.reportHead (some q) chal
            ends (.attest agent mram) (x.drawn 2)
              ⟨0, none, [], some (x.secOut, head ++ P384.sign (beNat d) (sha384 head) k ++ Lms.sign seed lid q c head), false⟩))) ∧
      (∀ u d, s.secIn 48 = (u, some d) →
        answers (.extend agent) (u.setDigest (R.SEC_M1_i 0) (sha384 (u.digest (R.SEC_M1_i 0) ++ d))) 0) ∧
      (∀ u, s.secIn 48 = (u, none) → answers (.extend agent) u 8)) ∧
    (s.sec.cmd = none → exec .secCmdComplete s = .next s) ∧
    (∀ c, s.sec.cmd = some c →
      ((∃ w ∈ s.memu.mramPend, w.writer = .record .security) → exec .secCmdComplete s = .next s) ∧
      ((∀ w ∈ s.memu.mramPend, w.writer ≠ .record .security) →
        let shows := fun (t : State) (r : Nat) => t.on F.SEC_CMD_STAT_BUSY = false ∧ t.fld F.SEC_CMD_STAT_RESULT = r
        let burnt := { s with otp := c.burn.foldl Otp.program s.otp }
        (c.stage = none → c.failed = true → Yields .secCmdComplete s fun t => shows t 7 ∧
          t = { s with sec := { s.sec with cmd := none }, regs := t.regs }) ∧
        (c.stage = none → c.failed = false → c.report = none → c.result < 16 → Yields .secCmdComplete s fun t => shows t c.result ∧
          t = { burnt with sec := { s.sec with cmd := none }, regs := t.regs }) ∧
        (∀ p, c.stage = some p → c.failed = false → c.report = none → c.burn = [] → c.result < 16 → s.bytes 0x18310000 3089 = pendingBytes p →
          Yields .secCmdComplete s fun t => shows t c.result ∧ t = { s with sec := { s.sec with staged := p, cmd := none }, regs := t.regs }) ∧
        (∀ p, c.stage = some p → c.failed = true → s.bytes 0x18310000 3089 ≠ pendingBytes p → s.bytes 0x18310000 3089 ≠ pendingBytes s.sec.staged →
          Yields .secCmdComplete s fun t => shows t 7 ∧ t = { s with sec := { s.sec with staged := none, cmd := none }, regs := t.regs }) ∧
        (∀ a bs w, c.stage = none → c.failed = false → c.report = some (a, bs) →
          (burnt.secPutAt a bs = (w, true) → exec .secCmdComplete s = .next ((w.secResult c.result).raise 0x503 74 (BitVec.ofNat 32 a) 0)) ∧
          (burnt.secPutAt a bs = (w, false) → exec .secCmdComplete s = .next (w.secResult 8)))))

/-- Presence, the seal and tamper (R391, R434-R441): a release held 2 to 30 s with the seal intact opens the 120 s window; its end, and no earlier instant,
closes it and SERVICE with it; eight matched pulses close the seal and two missed in a row open it; a source fires when what it watches leaves its limits and
fires no more until that is back within them; a firing is logged in rotation, flagged and
reported, and with the wipe response clears keys, nonce, scopes and the secure banks.
When a release, a pulse and a source are judged is log entry 50 (DEDUCED). -/
def Obligations.PresenceSealAndTamper : Prop :=
  ∀ (s : State) (ms width observed : Nat),
    (2000 ≤ ms → ms ≤ 30000 → s.sealIntact = true → Yields (.presenceRelease ms) s fun t =>
      t.sec = { s.sec with windowEnd := some (s.time + 2949120000) } ∧
      (s.sys.mode ≠ .dormant → t.evc = (s.raise 0x502 73 0 1).evc) ∧ (s.sys.mode = .dormant → t.evc = s.evc) ∧
      RegsBut s t (eventRegs 0x502) ∧ t = { s with sec := t.sec, evc := t.evc, regs := t.regs, cycle := t.cycle }) ∧
    (ms < 2000 ∨ 30000 < ms ∨ s.sealIntact = false → exec (.presenceRelease ms) s = .next s) ∧
    (s.sec.windowEnd = none → exec .presenceWindowExpire s = .next s) ∧
    (∀ e, s.sec.windowEnd = some e →
      (s.now < e.toNat → exec .presenceWindowExpire s = .next s) ∧
      (e.toNat ≤ s.now → Yields .presenceWindowExpire s fun t => t.sec = { s.sec with windowEnd := none } ∧
        (s.sys.mode = .service → t.sys.mode = .survey) ∧
        (s.sys.mode = .dormant → t = { s with sec := t.sec }) ∧
        (s.sys.mode ≠ .service → s.sys.mode ≠ .dormant → t.evc = (s.raise 0x502 73 0 0).evc ∧ RegsBut s t (eventRegs 0x502) ∧
          t = { s with sec := t.sec, evc := t.evc, regs := t.regs, cycle := t.cycle }))) ∧
    (s.otp.sealFitted = false → exec (.sealPulse width observed) s = .next s) ∧
    (s.otp.sealFitted = true →
      (width = observed → s.sec.sealOk = true → exec (.sealPulse width observed) s = .next { s with sec := { s.sec with sealMiss := 0, sealHit := 0 } }) ∧
      (width = observed → s.sec.sealOk = false →
        (s.sec.sealHit < 7 → exec (.sealPulse width observed) s = .next { s with sec := { s.sec with sealMiss := 0, sealHit := s.sec.sealHit + 1 } }) ∧
        (7 ≤ s.sec.sealHit → exec (.sealPulse width observed) s = .next { s with sec := { s.sec with sealMiss := 0, sealHit := 0, sealOk := true } })) ∧
      (width ≠ observed → s.sec.sealOk = false → exec (.sealPulse width observed) s = .next { s with sec := { s.sec with sealHit := 0, sealMiss := 0 } }) ∧
      (width ≠ observed → s.sec.sealOk = true → s.sec.sealMiss = 0 →
        exec (.sealPulse width observed) s = .next { s with sec := { s.sec with sealHit := 0, sealMiss := 1 } }) ∧
      (width ≠ observed → s.sec.sealOk = true → 1 ≤ s.sec.sealMiss →
        exec (.sealPulse width observed) s = .next ({ s with sec := { s.sec with sealHit := 0, sealMiss := 0 } } : State).sealOpen)) ∧
    (let u := { s with sec := { s.sec with sealOk := false } };
      (s.tamperArmed 0 = false → exec (.tamperFire .seal) s = .next s) ∧
      (s.tamperArmed 0 = true → s.sys.mode ≠ .dormant → exec (.tamperFire .seal) s = .next (u.tamper 0).endWindow) ∧
      (s.tamperArmed 0 = true → s.sys.mode = .dormant → exec (.tamperFire .seal) s =
        .next ({ u with sec := { u.sec with sealLatched := some (s.sec.sealLatched.getD s.time) } } : State).endWindow)) ∧
    (∀ ao uv ns, uv < 620000 ∨ 1000000 < uv → ns < 2 → exec (.tamperFire (.supply ao uv ns)) s = .next s) ∧
    (∀ (sight : TamperSight) (p : TamperPart) (out : Bool),
      (match sight with
        | .seal => False
        | .supply ao uv ns => p = (if ao = true then .vddAo else .vddCore) ∧ out = decide (uv < 620000 ∨ 1000000 < uv) ∧ (out = true → 2 ≤ ns)
        | .clock line n => p = (if line = true then .lineClock else .coreClock) ∧ out = decide (n < 7 / 10 ∨ 4 ≤ n)
        | .junction c => p = .junction ∧ out = decide (c < signedOf 8 (s.fld F.SEC_TEMP_LIM_LO) ∨ (s.fld F.SEC_TEMP_LIM_HI : Int) < c)
        | .mesh whole => p = .mesh ∧ out = !whole) →
      let src := tamperSource p
      let away := s.sec.away.filter (fun q => q != p)
      (out = false → exec (.tamperFire sight) s = .next { s with sec := { s.sec with away := away } }) ∧
      (out = true → s.tamperArmed src = false → exec (.tamperFire sight) s = .next s) ∧
      (out = true → s.tamperArmed src = true → (∃ q ∈ s.sec.away, tamperSource q = src) →
        exec (.tamperFire sight) s = .next { s with sec := { s.sec with away := p :: away } }) ∧
      (out = true → s.tamperArmed src = true → (∀ q ∈ s.sec.away, tamperSource q ≠ src) → Yields (.tamperFire sight) s fun t =>
        let at_ := 0x1831A000 + 16 * (s.sec.logCount % 64)
        (s.tamperBit src = false → s.sys.mramFrozen = false →
          t.mramBytes at_ 16 = leBytes 6 s.stamp.toNat ++ [BitVec.ofNat 8 (src.val + 1), 0, BitVec.ofNat 8 (modeCode s.sys.mode)] ++ List.replicate 7 0 ∧
          t.sec = { s.sec with away := p :: away, logCount := s.sec.logCount + 1 } ∧
          t.fldBit F.SEC_TAMP_FLAGS_FIRED src = true ∧ t.on F.SEC_FLAGS_TAMPER = true ∧ t.evc = (s.raise 0x500 71 0 (src.val + 1)).evc ∧
          t = { s with memu := t.memu, sec := t.sec, regs := t.regs, cycle := t.cycle, evc := t.evc }) ∧
        (s.tamperBit src = false → s.sys.mramFrozen = true → t.memu = s.memu ∧ t.sec.heldLog = s.sec.heldLog ++
          [⟨s.stamp, BitVec.ofNat 8 (src.val + 1), 0, BitVec.ofNat 8 (modeCode s.sys.mode)⟩]) ∧
        (s.tamperBit src = true → s.dmd.rx = [] → s.mac.ops = [] → s.memu.wipe = none → s.fills = [] →
          t.key.named = [] ∧ t.key.keks = none ∧ t.sec.scopes = 0 ∧ t.sec.nonce = none ∧ t.sec.idk = none ∧ t.sec.windowEnd = none ∧ t.memu.wipe = some 1 ∧
          (∀ a, bankBase 52 ≤ a → a < bankBase 64 → t.byte a = 0))))

/-! ### The Ulir ring -/

/-- Discovery, calibration, time and faults on the ring (R449-R458): with EN = 0 nothing happens; the master sends DISC every 10 ms until the list comes back in
order, then CAL, takes a delay within the limits and sends TIME once per millisecond while the ring is up, and a member's fault brings it down; a packet
leaves at once when the lane is idle and waits when it is not; a subordinate adds its CID to a DISC, keeps the latest TIME, slews a small error toward zero, steps
its time only with its ports off, every timed action cancelled and every window discarded, sets ALIGNED once all it needs holds, the reference's lock being the last or
not, reports a lane fault with no marker left to send and leaves SUBORDINATE for SURVEY; bad packets and code violations are counted. How a phase is slewed, where
a fault's packets wait and what calibration judges is log entry 51, what a step moves log entry 52 (both DEDUCED). -/
def Obligations.RingDiscoveryTimeAndFaults : Prop :=
  ∀ (s : State) (list payload bytes : List Byte) (r viol : Nat) (stamp : Rat) (src : BitVec 5) (seq : Byte) (comma : Bool),
    let ulk := fun (f : Ulk → Ulk) => ({ s with ulk := f s.ulk } : State)
    let cal := fun (u : State) => ({ u with ulk := { u.ulk with calAt := some u.time } } : State).ulkSend 2 0x1F 0 []
    let up := s.on F.ULK_STAT_RING_UP
    let portsOff : Prop := s.fld F.DMD_CTL_PORT_EN = 0 ∧ s.fld F.TXP_CTL_PORT_EN = 0
    let quiet : Prop := s.mac.ops = [] ∧ s.mac.events = []
    let served : Prop := s.ulk.copies = [] ∧ ∀ q ∈ s.ulk.queries, q.rxid = none
    let laneIdle : Prop := s.ulk.laneEnd ≤ 15625 * s.now
    let sound : Prop := 12 ≤ bytes.length ∧ crcStored .crc32c (bytes.take (bytes.length - 4)) = bytes.drop (bytes.length - 4)
    let typed : Prop := 1 ≤ (bytes.getD 0 0).toNat % 16 ∧ (bytes.getD 0 0).toNat % 16 ≤ 11
    let counts := fun (t : State) => t.fld F.ULK_ERRCNT_VIOL = min 65535 (s.fld F.ULK_ERRCNT_VIOL + viol)
    let errors : Prop := comma = true ∨ 16 ≤ viol
    let late : Prop := ∃ t, s.ulk.timeSeen = some t ∧ t.toNat + 49152 ≤ s.now
    (s.on F.ULK_CTL_EN = false → ∀ c ∈ ([.ulirDisc seq list, .ulirCal r, .ulirTime stamp payload, .ulirFault src seq, .ulirBadPacket bytes,
      .laneFault comma viol, .timePacketTimeout, .timeSend, .discTimer, .calTimer, .ulkCal, .refLock] : List Instr), exec c s = .next s) ∧
    (s.on F.ULK_CTL_EN = true →
      (sound → typed → exec (.ulirBadPacket bytes) s = .next s) ∧
      (¬ (sound ∧ typed) → Yields (.ulirBadPacket bytes) s fun t => t.fld F.ULK_ERRCNT_PKT = min 65535 (s.fld F.ULK_ERRCNT_PKT + 1) ∧
        (sound → t.reg R.ULK_FLAGS = s.reg R.ULK_FLAGS) ∧ (¬ sound → t.on F.ULK_FLAGS_CRC_ERR = true) ∧
        RegsBut s t [R.ULK_ERRCNT, R.ULK_FLAGS] ∧ t = { s with regs := t.regs, cycle := t.cycle }) ∧
      (¬ errors → Yields (.laneFault comma viol) s fun t => counts t ∧ RegsBut s t [R.ULK_ERRCNT] ∧ t = { s with regs := t.regs }) ∧
      (s.sys.straps.cid = 0 →
        (s.ulk.waiting = [] → laneIdle → exec .ulkCal s = .next (ulk fun u => { u with
          calAt := some s.time, sent := u.sent ++ [⟨2, 0x1F, 0, u.seq, 0, []⟩], seq := u.seq + 1, laneEnd := 15625 * s.now + 14 * 3072 })) ∧
        (s.ulk.waiting = [] → ¬ laneIdle → exec .ulkCal s = .next (ulk fun u => { u with calAt := some s.time, waiting := [⟨2, 0x1F, 0, []⟩] })) ∧
        (exec .ulkCal s = .next (cal s)) ∧
        (up = true ∨ (∃ t, s.ulk.discAt = some t ∧ s.now < t.toNat + 245760) → exec .discTimer s = .next s) ∧
        (up = false ∨ (∃ t, s.ulk.calAt = some t ∧ s.now < t.toNat + 24576000) → exec .calTimer s = .next s) ∧
        (up = false ∨ s.now / 24576 ≤ s.ulk.timeK → exec .timeSend s = .next s) ∧
        (up = false → (∀ t, s.ulk.discAt = some t → t.toNat + 245760 ≤ s.now) →
          exec .discTimer s = .next ((ulk fun u => { u with discAt := some s.time }).ulkSend 1 0x1F 0 [])) ∧
        (up = true → (∀ t, s.ulk.calAt = some t → t.toNat + 24576000 ≤ s.now) → exec .calTimer s = .next (cal s)) ∧
        (up = true → s.ulk.timeK < s.now / 24576 →
          ∃ pl, exec .timeSend s = .next (((ulk fun u => { u with timeK := s.now / 24576 }).ulkSend 3 0x1F 0 pl).drawn 1) ∧ pl.length = 32 ∧
            (s.ulk.waiting = [] → laneIdle → pl.take 8 = leBytes 8 s.now) ∧ (pl.drop 10).take 8 = leBytes 8 s.mac.cur.start ∧
            (pl.drop 18).take 2 = leBytes 2 s.mac.cur.slotlen ∧ (pl.drop 20).take 2 = leBytes 2 s.mac.cur.bsn.toNat ∧
            (s.sys.mode ≠ .follow → s.sys.mode ≠ .holdover → pl[22]? = some 0) ∧ pl[23]? = some (if s.sys.mode = .holdover then 1 else 0) ∧
            (pl.drop 24).take 4 = leBytes 4 (s.reg R.ULK_RTT).toNat) ∧
        (up = true → exec (.ulirDisc seq list) s = .next s) ∧
        (up = false → exec (.ulirCal r) s = .next s ∧
          (list.map (·.toNat) = (List.range list.length).map (· + 1) → list.length < 63 → Yields (.ulirDisc seq list) s fun t =>
            t.on F.ULK_STAT_RING_UP = true ∧ t.fld F.ULK_STAT_N = list.length + 1 ∧ RegsBut s t [R.ULK_STAT] ∧
            t = { cal (ulk fun u => { u with timeK := s.now / 24576 }) with regs := t.regs, cycle := t.cycle }) ∧
          (∀ x, firstOffender 1 list = some x → Yields (.ulirDisc seq list) s fun t => t.on F.ULK_FLAGS_ORDER_ERR = true ∧
            t.evc = (s.raise 0x600 63 (x.setWidth 32) 0).evc ∧ RegsBut s t (R.ULK_FLAGS :: eventRegs 0x600) ∧
            t = { s with regs := t.regs, cycle := t.cycle, evc := t.evc })) ∧
        (up = true →
          let c : Int := (r : Int) - ((s.fld F.ULK_STAT_N : Int) - 1) * 1600
          (c < 0 ∨ 500 * (s.fld F.ULK_STAT_N : Int) < c → exec (.ulirCal r) s = .next (s.flag F.ULK_FLAGS_CAL_FAIL)) ∧
          (0 ≤ c → c ≤ 500 * (s.fld F.ULK_STAT_N : Int) → Yields (.ulirCal r) s fun t => t.reg R.ULK_RTT = BitVec.ofNat 32 r ∧
            t.on F.ULK_STAT_ALIGNED = true ∧ t.evc = (if s.on F.ULK_STAT_ALIGNED = true then s.evc else (s.raise 0x601 64 0 0).evc) ∧
            RegsBut s t (R.ULK_RTT :: R.ULK_STAT :: eventRegs 0x601) ∧
            t = { ulk fun u => { u with calOk := true } with regs := t.regs, cycle := t.cycle, evc := t.evc })) ∧
        (Yields (.ulirFault src seq) s fun t => ∀ c ∈ t.ulk.copies, c.src ≠ src ∧ c.ring = none) ∧
        (served → Yields (.ulirFault src seq) s fun t => t.on F.ULK_STAT_RING_UP = false ∧ t.fld F.ULK_STAT_N = 0 ∧
          t.on F.ULK_STAT_ALIGNED = false ∧ t.evc = (s.raise 0x600 63 (src.setWidth 32) 0).evc ∧
          t = { ulk fun u => { u with calOk := false, discAt := none, lastSeq := sput u.lastSeq src.toNat seq } with
            regs := t.regs, cycle := t.cycle, evc := t.evc }) ∧
        (errors → served → Yields (.laneFault comma viol) s fun t => counts t ∧ t.on F.ULK_STAT_RING_UP = false ∧ t.on F.ULK_FLAGS_RING_FAULT = true ∧
          t.evc = (s.raise 0x600 63 0 0).evc ∧
          t = { ulk fun u => { u with calOk := false, discAt := none } with regs := t.regs, cycle := t.cycle, evc := t.evc }) ∧
        exec .timePacketTimeout s = .next s ∧ exec .refLock s = .next s ∧ exec (.ulirTime stamp payload) s = .next s) ∧
      (s.sys.straps.cid ≠ 0 →
        (∀ c ∈ ([.ulkCal, .calTimer, .discTimer, .timeSend, .ulirCal r, .ulirFault src seq] : List Instr), exec c s = .next s) ∧
        exec (.ulirDisc seq list) s = .next (ulk fun u => { u with
          sent := u.sent ++ [⟨1, 0x1F, 0, seq, 0, list ++ [BitVec.ofNat 8 s.sys.straps.cid.toNat]⟩] }) ∧
        (¬ late → exec .timePacketTimeout s = .next s) ∧
        (∀ c : Instr, (c = .laneFault comma viol ∧ errors) ∨ (c = .timePacketTimeout ∧ late) → (∀ q ∈ s.ulk.queries, q.rxid = none) →
          Yields c s fun t => t.on F.ULK_STAT_RING_UP = false ∧ t.on F.ULK_STAT_ALIGNED = false ∧ t.on F.ULK_STAT_REF_LOCK = false ∧
            t.on F.ULK_FLAGS_RING_FAULT = true ∧ t.ulk.refRing = false ∧
            (s.ulk.waiting = [] → laneIdle → t.ulk.sent = s.ulk.sent ++ [⟨4, 0, s.sys.straps.cid, s.ulk.seq, 0, []⟩]) ∧
            (s.sys.mode = .subordinate → t.sys.mode = .survey ∧ t.reg R.MAC_SF_ORIGIN_LO = BitVec.ofNat 32 s.mac.cur.start ∧
              t.reg R.MAC_SF_ORIGIN_HI = BitVec.ofNat 32 (s.mac.cur.start / 2 ^ 32)) ∧
            (s.sys.mode ≠ .subordinate → t.evc = (s.raise 0x600 63 (BitVec.ofNat 32 s.sys.straps.cid.toNat) 0).evc ∧
              (∀ r ∈ t.dmd.rx, r.sent = 0) ∧ (∀ w ∈ t.ulk.waiting, w.type = 10 ∨ w.type = 11 → False) ∧
              RegsBut s t (R.ULK_STAT :: R.ULK_FLAGS :: R.ULK_ERRCNT :: eventRegs 0x600) ∧
              t = { s with regs := t.regs, cycle := t.cycle, evc := t.evc, ulk := t.ulk, dmd := t.dmd })) ∧
        (s.on F.ULK_CTL_REF = true →
          (s.ulk.calOk = false ∨ s.ulk.good < 4 → exec .refLock s = .next (s.flag F.ULK_STAT_REF_LOCK)) ∧
          (s.ulk.calOk = true → 4 ≤ s.ulk.good → Yields .refLock s fun t => t.on F.ULK_STAT_REF_LOCK = true ∧ t.on F.ULK_STAT_ALIGNED = true ∧
            t.evc = (if s.on F.ULK_STAT_ALIGNED = true then s.evc else (s.raise 0x601 64 0 0).evc) ∧
            RegsBut s t (R.ULK_STAT :: eventRegs 0x601) ∧ t = { s with regs := t.regs, cycle := t.cycle, evc := t.evc })) ∧
        (s.on F.ULK_CTL_REF = false → exec .refLock s = .next s) ∧
        (let f := fun o n => leNat ((payload.drop o).take n);
          let sum := hopSum (f 24 4) (f 28 1);
          let e : Rat := (stamp - ((f 0 8 : Nat) + mkRat (f 8 2) 65536 + s.hopDelay (f 24 4) (f 28 1))) * mkRat 78125 192;
          let big : Prop := e < -10000 ∨ 10000 < e ∨ (s.on F.ULK_CTL_REF = true ∧ s.ulk.stepped = false);
          let locked : Prop := s.on F.ULK_CTL_REF = true → s.on F.ULK_STAT_REF_LOCK = true;
          (f 28 1 < 64 → s.on F.ULK_STAT_ALIGNED = false → Yields (.ulirTime stamp payload) s fun t =>
            t.ulk.timeSf = some payload ∧ t.on F.ULK_STAT_RING_UP = true ∧ t.fld F.ULK_STAT_N = f 28 1 ∧ t.ulk.timeSeen = some t.time ∧
            t.reg R.ULK_RTT = BitVec.ofNat 32 (f 24 4) ∧ t.reg R.ULK_TERR = BitVec.ofInt 32 (roundAway e) ∧
            (¬ big → t.time = s.time ∧ t.on F.ULK_STAT_LOAD_WAIT = false ∧ t.ulk.slew = 24576 * roundAway e) ∧
            (¬ big → f 24 4 ≠ 0 → 0 ≤ sum → locked → 3 ≤ s.ulk.good → -500 ≤ e → e ≤ 500 → t.on F.ULK_STAT_ALIGNED = true ∧
              t.evc = (s.raise 0x601 64 0 0).evc) ∧
            (¬ big → f 24 4 = 0 ∨ sum < 0 ∨ ¬ locked ∨ s.ulk.good < 3 ∨ e < -500 ∨ 500 < e → t.on F.ULK_STAT_ALIGNED = false ∧ t.evc = s.evc) ∧
            (big → ¬ portsOff → t.time = s.time ∧ t.on F.ULK_STAT_LOAD_WAIT = true ∧ t.ulk.stepErr = roundAway e) ∧
            (big → portsOff → quiet → t.time = s.time - BitVec.ofInt 64 (roundUp ((roundAway e : Rat) * mkRat 192 78125)) ∧
              t.ulk.stepped = (s.ulk.stepped || s.on F.ULK_CTL_REF) ∧ t.ulk.slew = 0 ∧ t.on F.ULK_STAT_LOAD_WAIT = false) ∧
            (¬ big ∨ ¬ portsOff → t.cores = s.cores ∧ t.mem = s.mem ∧ t.dmd = s.dmd ∧ t.lp = s.lp ∧ t.key = s.key ∧ t.lgr = s.lgr ∧ t.sys = s.sys)) ∧
          (s.on F.ULK_STAT_ALIGNED = true → ¬ big → -1000 ≤ e → e ≤ 1000 → Yields (.ulirTime stamp payload) s fun t =>
            t.on F.ULK_STAT_ALIGNED = true ∧ t.ulk.bad = 0 ∧ t.time = s.time ∧ t.evc = s.evc) ∧
          (s.on F.ULK_STAT_ALIGNED = true → ¬ big → (e < -1000 ∨ 1000 < e) → 1 ≤ s.ulk.bad → Yields (.ulirTime stamp payload) s fun t =>
            t.on F.ULK_STAT_ALIGNED = false ∧ t.on F.ULK_FLAGS_RING_FAULT = true ∧ (s.sys.mode = .subordinate → t.sys.mode = .survey))))) ∧
    (s.on F.ULK_STAT_LOAD_WAIT = false ∨ ¬ portsOff → exec .alignmentStep s = .next s) ∧
    (s.on F.ULK_STAT_LOAD_WAIT = true → portsOff →
      let d := roundUp ((s.ulk.stepErr : Rat) * mkRat 192 78125)
      let gone := s.mac.events.length
      (Yields .alignmentStep s fun t => t.time = s.time - BitVec.ofInt 64 d ∧ t.mac.events = [] ∧ t.mac.windows = [] ∧ t.mac.built = none ∧
        (∀ o ∈ t.mac.ops, o.stage ≠ .queued) ∧ (∀ o ∈ t.mac.ops, ∃ o' ∈ s.mac.ops, o'.id = o.id) ∧
        (s.mac.ops = [] → t.reg (R.TAL_EVCNTc 0x102) = s.reg (R.TAL_EVCNTc 0x102) + BitVec.ofNat 32 gone) ∧
        (∀ o k desc, s.mac.ops = [o] → o.stage = .queued → o.kind = .core k desc → t.mac.ops = [] ∧
          t.reg (R.TAL_EVCNTc 0x102) = s.reg (R.TAL_EVCNTc 0x102) + 1 + BitVec.ofNat 32 gone ∧ t.reg (R.TAL_CNTi 6) = s.reg (R.TAL_CNTi 6) + 1)) ∧
      (quiet → Yields .alignmentStep s fun t =>
        t.on F.ULK_STAT_LOAD_WAIT = false ∧ t.ulk.stepped = (s.ulk.stepped || s.on F.ULK_CTL_REF) ∧ t.ulk.good = 0 ∧ t.ulk.slew = 0 ∧
        (0 < s.sfDticks → ((t.mac.next : Int) - s.origin) % s.sfDticks = 0 ∧ t.now < t.mac.next ∧ t.mac.next ≤ t.now + s.sfDticks) ∧
        RegsBut s t [R.ULK_STAT] ∧ t = { s.restamp d with time := t.time, regs := t.regs, ulk := t.ulk, mac := t.mac, lp := t.lp }))

/-- Lookups, collected copies and relayed beacons on the ring (R199, R200, R449, R461-R464): a member that owns a record answers OWNER, one that asks too TENTATIVE;
answers, the query's return and its timeout settle it; the master grows a copy by its segments, ends it with its COMMIT or VOID, and a
gap in SEQ voids the sender's copies, counting each that had entries once, which take no part until their markers; a relayed beacon gets its tag, or is not sent
without it. What becomes of a voided copy is log entry 52 (DEDUCED).
A copy's entry is log entry 44, the lane log entry 51, the relayed tag log entry 42 (all DEDUCED). -/
def Obligations.RingLookupsCopiesAndBeacons : Prop :=
  ∀ (s : State) (src : BitVec 5) (a : Word) (tag seq fl : Byte) (rxid : Rxid) (bytes : List Byte) (m : List Byte),
    let on := s.on F.ULK_CTL_EN
    let counted := s.checkSeq src seq
    let seen := { s with ulk := { s.ulk with lastSeq := sput s.ulk.lastSeq src.toNat seq } }
    let inOrder : Prop := ∀ q, kget? s.ulk.lastSeq src.toNat = some q → seq = q + 1
    let drop := fun (u : State) => ({ u with ulk := { u.ulk with queries := u.ulk.queries.filter fun q => q.tag != tag } } : State)
    let refused := fun (c : Instr) (gone : TxOp → Bool) => Yields c s fun t =>
      ((∀ o ∈ s.mac.ops, gone o = false) → t = s) ∧
      ((∃ o ∈ s.mac.ops, gone o = true) → t.on F.MAC_FLAGS_SF_CFG_ERR = true ∧ (∀ o ∈ t.mac.ops, gone o = false)) ∧
      RegsBut s t (R.MAC_FLAGS :: allContexts.map fun n : Fin 4 => R.CRC_CTXn_STAT n) ∧
      t = { s with mac := t.mac, regs := t.regs, cycle := t.cycle, crc := t.crc }
    (s.gathers = false ∨ inOrder → counted = seen) ∧
    (on = false → exec (.ulirLookupReq src seq a tag) s = .next s ∧ exec (.ulirBcnReq src seq m tag) s = .next s) ∧
    (∀ w, on = true → counted.ownsRecord a = (w, true) → exec (.ulirLookupReq src seq a tag) s = .next (w.ulkSend 6 src.toNat tag.toNat [1])) ∧
    (∀ w, on = true → counted.ownsRecord a = (w, false) →
      ((∃ q ∈ counted.ulk.queries, q.addr = a) ∨ w.hotFind a ≠ none →
        exec (.ulirLookupReq src seq a tag) s = .next (w.ulkSend 6 src.toNat tag.toNat [2])) ∧
      ((∀ q ∈ counted.ulk.queries, q.addr ≠ a) → w.hotFind a = none → exec (.ulirLookupReq src seq a tag) s = .next w)) ∧
    (∀ ret own, let u := if ret = true then s else counted;
      let found := u.ulk.queries.find? fun q => q.tag == tag;
      let rsp := exec (.ulirLookupRsp ret src seq tag own) s;
      (found = none → rsp = .next u) ∧
      (∀ q, found = some q →
        (q.rxid = none →
          (ret = true → rsp = .next ((drop u).setFld F.ULK_LKUP_STAT_BUSY 0)) ∧
          (ret = false → own = true → rsp = .next ((u.flag F.ULK_LKUP_STAT_FOUND).setFld F.ULK_LKUP_STAT_OWNER src.toNat)) ∧
          (ret = false → own = false → rsp = .next u)) ∧
        (q.rxid ≠ none →
          (ret = true → rsp = .next ((drop u).lendWaiting q.addr)) ∧
          (ret = false → own = true ∨ src.toNat < u.sys.straps.cid.toNat → rsp = .next ((drop u).refuseAll q.addr)) ∧
          (ret = false → own = false → u.sys.straps.cid.toNat ≤ src.toNat → rsp = .next u)))) ∧
    ((∀ q ∈ s.ulk.queries, q.tag = tag → s.now < q.since.toNat + 492) → exec (.lookupTimeout tag) s = .next s) ∧
    (∀ q, (s.ulk.queries.find? fun q => q.tag == tag && decide (q.since.toNat + 492 ≤ s.now)) = some q →
      (q.rxid = none → exec (.lookupTimeout tag) s = .next (((drop s).flag F.ULK_LKUP_STAT_TIMEOUT).setFld F.ULK_LKUP_STAT_BUSY 0)) ∧
      (q.rxid ≠ none → exec (.lookupTimeout tag) s = .next (((drop s).flag F.ULK_FLAGS_LKUP_TO).refuseAll q.addr))) ∧
    (Yields (.lookupQuery a) s fun t => t.reg R.ULK_LKUP_ADDR = a ∧ t.on F.ULK_LKUP_STAT_FOUND = false ∧ RegsBut s t [R.ULK_LKUP_ADDR, R.ULK_LKUP_STAT] ∧
      (s.on F.ULK_STAT_RING_UP = true → t.on F.ULK_LKUP_STAT_BUSY = true ∧ t.ulk.nextTag = s.ulk.nextTag + 1 ∧
        t.ulk.queries = (s.ulk.queries.filter fun q => q.rxid.isSome) ++ [⟨s.ulk.nextTag, a, none, s.time⟩] ∧
        (s.ulk.waiting = [] → s.ulk.laneEnd ≤ 15625 * s.now →
          t.ulk.sent = s.ulk.sent ++ [⟨5, 0x1F, s.sys.straps.cid, s.ulk.seq, s.ulk.nextTag.setWidth 16, leBytes 4 a.toNat⟩]) ∧
        (s.ulk.waiting = [] → 15625 * s.now < s.ulk.laneEnd → t.ulk.sent = s.ulk.sent ∧
          t.ulk.waiting = [⟨5, 0x1F, s.ulk.nextTag.setWidth 16, leBytes 4 a.toNat⟩])) ∧
      (s.on F.ULK_STAT_RING_UP = false → t.on F.ULK_LKUP_STAT_TIMEOUT = true ∧
        t.ulk = { s.ulk with queries := s.ulk.queries.filter fun q => q.rxid.isSome }) ∧
      t = { s with regs := t.regs, cycle := t.cycle, ulk := t.ulk }) ∧
    (s.gathers = false → ∀ c ∈ ([.ulirSeg src rxid seq bytes, .ulirCommit src rxid seq fl, .ulirVoid src rxid seq fl] : List Instr), exec c s = .next s) ∧
    (s.gathers = true →
      (¬ inOrder →
        Yields (.ulirVoid src rxid seq fl) s fun t => t.on F.ULK_FLAGS_SEQ_GAP = true ∧ (∀ c ∈ t.ulk.copies, c.src = src → c.ring = none ∧ c.rxid ≠ rxid) ∧
          t.reg (R.TAL_SQn 17) = s.reg (R.TAL_SQn 17) + BitVec.ofNat 32 (s.ulk.copies.filter fun c => c.src == src && c.ring.isSome).length ∧
          (t.ulk.copies.filter fun c => c.src != src) = s.ulk.copies.filter fun c => c.src != src) ∧
      (inOrder →
        (∀ c, (s.ulk.copies.find? fun c => c.src == src && c.rxid == rxid) = some c →
          exec (.ulirSeg src rxid seq bytes) s = .next (seen.growCopy { c with data := c.data ++ bytes }) ∧
          (fl.getLsbD 1 = false → exec (.ulirCommit src rxid seq fl) s = .next (seen.endCopy c .done 0 (fl.getLsbD 0))) ∧
          (fl.getLsbD 1 = true → exec (.ulirCommit src rxid seq fl) s = .next (seen.endCopy c .skip 0 false)) ∧
          exec (.ulirVoid src rxid seq fl) s = .next (seen.endCopy c .void (fl.toNat % 32) false)) ∧
        ((∀ c ∈ s.ulk.copies, ¬ (c.src = src ∧ c.rxid = rxid)) →
          exec (.ulirSeg src rxid seq bytes) s = .next ((seen.openCopy src rxid bytes).1.growCopy (seen.openCopy src rxid bytes).2) ∧
          exec (.ulirCommit src rxid seq fl) s = .next seen ∧ exec (.ulirVoid src rxid seq fl) s = .next seen))) ∧
    (s.sys.straps.cid ≠ 0 → exec (.ulirBcnReq src seq m tag) s = .next s) ∧
    (on = true → s.sys.straps.cid = 0 →
      (∀ k, counted.memberKey src.toNat m = some k → exec (.ulirBcnReq src seq m tag) s = .next (counted.ulkSend 8 src.toNat tag.toNat ((cmac k m).take 8))) ∧
      (counted.memberKey src.toNat m = none → exec (.ulirBcnReq src seq m tag) s = .next (counted.ulkSend 8 src.toNat tag.toNat []))) ∧
    (exec (.ulirBcnTag tag (some m)) s = .next { s with mac := { s.mac with ops := s.mac.ops.map fun o =>
      if o.kind == .beacon && o.encr == .waiting && o.port.val == tag.toNat then { o with payload := o.payload ++ m.take 8, encr := .done } else o } }) ∧
    refused (.ulirBcnTag tag none) (fun o => o.kind == .beacon && o.encr == .waiting && o.port.val == tag.toNat) ∧
    refused .bcnTagDeadline (fun o => o.kind == .beacon && o.encr == .waiting && decide (o.time ≤ s.now + 24576))

/-! ### Ageing -/

/-- Runs, PPS edges and VID codes (R472-R475, R477, R479): a run starts on request, or when it is due, in any mode but LASTGASP and DORMANT, one held over
from DORMANT at its instant, and a request during a run only sets RUN_OVR; a run writes its table, valid and with its RUN and TIME, into the slot that does not hold the
previous one, read as R402 has it, the baseline of which it keeps unless REBASE is set, and ends once the table stands, leaving REBASE and BUSY clear and every
loopback average begun anew (R471); a pair of tables out of place is not written; an accepted interval is counted; CUR moves one code at a time, STEP_US after the
last, and not at all while VDD_CORE is off (R543). How a run takes its values, which table is the previous one and when VID starts to step is log entry 53 (DEDUCED),
MRAM reads log entry 28. -/
def Obligations.AgeingRunsAndCodes : Prop :=
  ∀ (s : State) (raw : AgeRaw) (v : Word),
    let idle := s.age.running = none
    let may := s.sys.mode ≠ .lastgasp ∧ s.sys.mode ≠ .dormant
    let period := s.fld F.AGE_CTL_PERIOD_H * 3600 * 24576000
    let due : Prop := match s.age.hold with
      | some h => h.toNat ≤ s.now
      | none => ∀ t, s.age.lastStart = some t → t.toNat + period ≤ s.now
    let begun := fun (t : State) => t.age = { s.age with running := some s.time, lastStart := some s.time, hold := none } ∧ t.on F.AGE_STAT_BUSY = true ∧
      RegsBut s t [R.AGE_STAT] ∧ t = { s with regs := t.regs, cycle := t.cycle, age := t.age }
    let fresh := fun (t : State) => ∀ n : Fin 6, t.lp[n] = { s.lp[n] with lbWin := ⟨⟨0, 0⟩, ⟨0, 0⟩, 0⟩, lbSum := 0, lbCnt := 0 }
    let off : Prop := s.sys.mode = .dormant ∨ (s.sys.phase = .reset ∧ s.sys.kind = .powerOn)
    let ended := fun (t : State) => fresh t ∧ t.age.running = none ∧ t.age.closing = none ∧ t.age.ppsCount = 0 ∧ t.age.ppsSum = 0 ∧
      (∀ i : Fin 6, t.age.txGain[i] = none) ∧ t.on F.AGE_STAT_BUSY = false
    (s.age.running ≠ none → Yields .ageRun s fun t => t.on F.AGE_FLAGS_RUN_OVR = true ∧ RegsBut s t [R.AGE_FLAGS] ∧
      t = { s with regs := t.regs, cycle := t.cycle }) ∧
    (idle → may → Yields .ageRun s begun) ∧ (idle → ¬ may → exec .ageRun s = .next s) ∧
    (idle → may → s.on F.AGE_CTL_EN = true → s.fld F.AGE_CTL_PERIOD_H ≠ 0 → due → Yields .ageRunDue s begun) ∧
    (¬ idle ∨ ¬ may ∨ s.on F.AGE_CTL_EN = false ∨ s.fld F.AGE_CTL_PERIOD_H = 0 ∨ ¬ due → exec .ageRunDue s = .next s) ∧
    (idle ∨ s.age.closing ≠ none → exec (.replan raw) s = .next s) ∧
    (∀ start, s.age.running = some start → s.age.closing = none →
      let a := (s.reg R.AGE_TBL_ADDR).toNat / 512 * 512
      let got := s.mramReads raw.mram a 512
      let prev := prevTable (zeroLost got.2 a (got.1.portBytes true a 512).2)
      let slot := match prev with | some p => 1 - p.1 | none => 0
      let run := match prev with | some p => (leNat ((p.2.drop 6).take 2) + 1) % 65536 | none => 1
      let x := a + 256 * slot
      let margins : Prop := ∃ w ∈ s.memu.mramPend, w.writer = .record .margin
      let stands := fun (tb : List Byte) => tableValid tb = true ∧ leNat ((tb.drop 6).take 2) = run ∧ (tb.drop 8).take 6 = leBytes 6 start.toNat ∧
        (s.on F.AGE_CTL_REBASE = false → ∀ p, prev = some p → (tb.drop 128).take 52 = (p.2.drop 128).take 52 ∧ tb.getD 14 0 &&& 1 = 0) ∧
        (s.on F.AGE_CTL_REBASE = true ∨ prev = none → tb.getD 14 0 &&& 1 = 1)
      (tableOk a = false → Yields (.replan raw) s fun t => ended t ∧ t.on F.AGE_FLAGS_TBL_ERR = true ∧
        RegsBut s t [R.AGE_STAT, R.AGE_FLAGS] ∧ t = { s with regs := t.regs, cycle := t.cycle, age := t.age, lp := t.lp }) ∧
      (tableOk a = true → a < 0x18000000 → ¬ margins → Yields (.replan raw) s fun t => ended t ∧ t.on F.AGE_CTL_REBASE = false ∧
        t.reg (R.TAL_EVCNTc 0x900) = s.reg (R.TAL_EVCNTc 0x900) + 1 ∧ t.fld F.AGE_STAT_LAST = slot ∧ t.fld F.AGE_STAT_RUN = run ∧
        (raw.mramM < s.fld F.AGE_LIM_MRAM_MIN → t.on F.AGE_FLAGS_ALERT = true) ∧
        (∀ y, (y < x ∨ x + 256 ≤ y) → t.byte y = s.byte y) ∧
        ((∀ d ∈ s.dualNow, d.portA = true) → (∀ b, 20 ≤ b → b < 36 → s.bankDown b = false) → stands (t.bytes x 256)) ∧
        t.cores = s.cores ∧ t.mac = s.mac ∧ t.dmd = s.dmd ∧ t.time = s.time ∧ t.sys = s.sys) ∧
      (tableOk a = true → 0x18000000 ≤ a → Yields (.replan raw) s fun t => t.age.running = some start ∧ t.age.closing ≠ none ∧
        stands (t.mramBytes x 256) ∧ t.regs = got.1.regs ∧ t.evc = got.1.evc ∧ t.mem = s.mem ∧
        t.cores = s.cores ∧ t.mac = s.mac ∧ t.dmd = s.dmd ∧ t.lp = s.lp ∧ t.time = s.time ∧ t.sys = s.sys)) ∧
    (match s.age.ppsLast with
     | none => exec .ppsEdge s = .next { s with age := { s.age with ppsLast := some s.time } }
     | some p =>
       let d := s.now - p.toNat
       ((d < 24576000 - 2458 ∨ 24576000 + 2458 < d) → Yields .ppsEdge s fun t => t.on F.AGE_FLAGS_PPS_REJ = true ∧ RegsBut s t [R.AGE_FLAGS] ∧
         t = { s with regs := t.regs, cycle := t.cycle, age := { s.age with ppsLast := some s.time } }) ∧
       (24576000 - 2458 ≤ d → d ≤ 24576000 + 2458 → exec .ppsEdge s = .next
         { s with age := { s.age with ppsLast := some s.time, ppsCount := s.age.ppsCount + 1, ppsSum := s.age.ppsSum + d } })) ∧
    (off → exec (.ageVidWrite v) s = .next s ∧ exec .vidStep s = .next s) ∧
    (¬ off → Yields (.ageVidWrite v) s fun t => t.fld F.AGE_VID_CODE = v.toNat % 16 ∧ t.fld F.AGE_VID_STEP_US = v.toNat / 65536 % 256 ∧
      t.fld F.AGE_VID_CUR = s.fld F.AGE_VID_CUR ∧ RegsBut s t [R.AGE_VID] ∧
      t.age = { s.age with vidAt := if s.fld F.AGE_VID_CUR = s.fld F.AGE_VID_CODE then s.time else s.age.vidAt } ∧
      t = { s with regs := t.regs, age := t.age }) ∧
    (let code := s.fld F.AGE_VID_CODE;
      let cur := s.fld F.AGE_VID_CUR;
      let settled : Prop := s.age.vidAt.toNat + usDticks (max 1 (s.fld F.AGE_VID_STEP_US)) ≤ s.now;
      (cur = code ∨ ¬ settled → exec .vidStep s = .next s) ∧
      (cur ≠ code → settled → ¬ off → Yields .vidStep s fun t => t.fld F.AGE_VID_CODE = code ∧
        (cur < code → t.fld F.AGE_VID_CUR = cur + 1) ∧ (code < cur → t.fld F.AGE_VID_CUR = cur - 1) ∧
        RegsBut s t [R.AGE_VID] ∧ t = { s with regs := t.regs, age := { s.age with vidAt := s.time } }))

/-! ### The serial ports -/

/-- Serial receiving and sending (R482, R484, R485, R487-R493, R497, R498): a character, its bits the majority of their middle samples, enters the
FIFO with its parity, framing and noise bits, or sets OVR where 64 wait; a start bit of 1 is a false start; a character of zeros is a break and enters 0x800;
in SIR mode each pulse is first stretched to a bit, one of 0.1 us or longer accepted and one under 2 WAKE cycles not, those between as a free value has it (R558); a level
that holds for less than 2 WAKE cycles is no level; a line low for BREAK_LIMIT character times is stuck; a read takes the oldest
character; a write queues one, and the transmitter takes the oldest while it may send, until its character time is over; CTS_N at UART1 lets the transmitter
go; a disarmed UART is armed again in DORMANT only, after a character time, of the receiver's settings, of AO ticks; a UART that is off drives TXD idle and follows no
line (R481); a write of FIFO_CTL in which RTS_LO is not below RTS_HI, or RTS_HI exceeds 64, changes nothing and sets CFG_ERR (R494). The line as levels with their
durations, the phase of its
samples and what is dropped when EN clears are log entry 26 (DESIGN CHOICE). -/
def Obligations.SerialPorts : Prop :=
  ∀ (s : State) (n : Fin 2) (start : Time) (levels : List (Bool × Rat)) (v : Word) (level : Bool),
    let u := s.uart[n]
    let passed := fun (from' : Time) (cycles : Nat) => 64 * cycles ≤ 125 * (s.now - from'.toNat)
    let blind := n = 0 ∧ ((u.shifter ≠ none ∧ u.txLine.sirOn = true) ∨
      ∃ e, u.sirEnd = some e ∧ 125 * start.toNat < 125 * e.toNat + 64 * u.txLine.bitCycles)
    let hears := s.on (F.UARTn_CTL_EN n) = true ∧ s.on (F.UARTn_CTL_RXEN n) = true ∧ u.stuck = false ∧ s.asleep = false ∧ ¬ blind
    let may := s.on (F.UARTn_CTL_EN n) = true ∧ s.on (F.UARTn_CTL_TXEN n) = true
    let go := may ∧ ¬ (n = 1 ∧ s.on (F.UARTn_CTL_AFC n) = true ∧ u.ctsN = true)
    let took := fun (k : Nat) (t : State) => (∀ m : Fin 2, m ≠ n → t.uart[m] = s.uart[m]) ∧
      t = { s with uart := t.uart, regs := t.regs, cycle := t.cycle, evc := t.evc, limits := t.limits, freeCtr := s.freeCtr + k }
    let port := took 0
    let sends := fun (t : State) (b : Byte) => t.uart[n].shifter = some b ∧ t.uart[n].txAt = s.time ∧ t.uart[n].txLine = s.uartNow n ∧
      t.uart[n].wave = (s.uartNow n).ticks (n == 0 && (s.uartNow n).sirOn) b
    (¬ hears → exec (.uartCharReceived n start levels) s = .next s ∧ exec (.uartBreak n start) s = .next s) ∧
    (hears →
      let l := s.uartAt n start
      let lv := s.heard n l levels
      let sir : Prop := n = 0 ∧ l.sirOn = true
      let at' := fun (b i : Nat) => lv.getD (16 * b + i) true
      let bit := fun (b : Nat) => (at' b 7 && at' b 8) || (at' b 7 && at' b 9) || (at' b 8 && at' b 9)
      let d := l.dbits
      let last := if l.parity = 0 then 1 + d else 2 + d
      let odd : Prop := ((List.range d).countP fun i => bit (1 + i)) % 2 = 1
      let pe : Prop := (l.parity = 1 ∧ (bit (1 + d) = true ↔ ¬ odd)) ∨ (l.parity = 2 ∧ (bit (1 + d) = true ↔ odd))
      let fe : Prop := bit last = false
      let noise : Prop := ∃ b ≤ last, ¬ (at' b 7 = at' b 8 ∧ at' b 8 = at' b 9)
      let zeros : Prop := ∀ b ≤ last, bit b = false
      let drew := if n = 0 ∧ l.sirOn = true then levels.length else 0
      let broke := fun (k : Nat) (c : Instr) => Yields c s fun t => took k t ∧ t.on (F.UARTn_FLAGS_BREAK n) = true ∧ t.uart[n].tx = u.tx ∧
        t.uart[n].lowAt = some start ∧ t.reg (R.TAL_EVCNTc 0x703) = s.reg (R.TAL_EVCNTc 0x703) + 1 ∧
        t.uart[n].rx = if u.rx.length < 64 then u.rx ++ [0x800] else u.rx
      (¬ sir → (∀ p ∈ levels, 2 ≤ p.2) → ∀ i < 16 * l.charBits, at' 0 i = levelsAt ((i : Rat) * (l.bitCycles : Nat) / 16) levels) ∧
      (¬ sir → ∀ d0 d1 d2 : Rat, 2 ≤ d0 → d1 < 2 → levels = [(false, d0), (true, d1), (false, d2)] →
        ∀ i < 16 * l.charBits, (i : Rat) * (l.bitCycles : Nat) / 16 < d0 + d1 + d2 → at' 0 i = false) ∧
      (¬ sir → ∀ d : Rat, d < 2 → levels = [(false, d)] → ∀ i < 16 * l.charBits, at' 0 i = true) ∧
      (sir → ∀ d : Rat, levels = [(!l.sirLow, d)] →
        (24 / 5 ≤ d → bit 0 = false ∧ ∀ b, 1 ≤ b → b < l.charBits → bit b = true) ∧ (d < 2 → ∀ b < l.charBits, bit b = true)) ∧
      broke 0 (.uartBreak n start) ∧
      (zeros → broke drew (.uartCharReceived n start levels)) ∧
      (bit 0 = true → Yields (.uartCharReceived n start levels) s fun t => took drew t ∧ t.regs = s.regs ∧ t.evc = s.evc ∧
        t.uart[n].rx = u.rx ∧ t.uart[n].tx = u.tx ∧ t.uart[n].edgeAt = start) ∧
      (bit 0 = false → ¬ zeros → Yields (.uartCharReceived n start levels) s fun t => took drew t ∧ t.uart[n].tx = u.tx ∧ t.uart[n].lowAt = none ∧
        (u.rx.length < 64 → ∃ e : BitVec 12, t.uart[n].rx = u.rx ++ [e] ∧ (∀ i < 8, e.getLsbD i = (decide (i < d) && bit (1 + i))) ∧
          (e.getLsbD 8 = true ↔ pe) ∧ (e.getLsbD 9 = true ↔ fe) ∧ (e.getLsbD 10 = true ↔ noise) ∧ e.getLsbD 11 = false) ∧
        (64 ≤ u.rx.length → t.uart[n].rx = u.rx ∧ t.on (F.UARTn_FLAGS_OVR n) = true) ∧
        (pe → t.on (F.UARTn_FLAGS_PE n) = true) ∧ (fe → t.on (F.UARTn_FLAGS_FE n) = true) ∧ (noise → t.on (F.UARTn_FLAGS_NOISE n) = true))) ∧
    (let long : Prop := ∃ t0, u.lowAt = some t0 ∧ passed t0 (max 2 (s.fld (F.UARTn_FIFO_CTL_BREAK_LIMIT n)) * u.rxLine.charCycles);
      (s.on (F.UARTn_CTL_EN n) = true → s.asleep = false → u.stuck = false → long → Yields (.lineStuck n) s fun t => t.on (F.UARTn_FLAGS_LINE_STUCK n) = true ∧
        t.uart[n] = { u with stuck := true, disarmed := true, rxd := false } ∧ t.evc = (s.raise 0x704 (61 + n) (BitVec.ofNat 32 n) 0).evc ∧
        RegsBut s t (R.UARTn_FLAGS n :: eventRegs 0x704) ∧ port t) ∧
      (s.on (F.UARTn_CTL_EN n) = false ∨ s.asleep = true ∨ u.stuck = true ∨ ¬ long → exec (.lineStuck n) s = .next s)) ∧
    (s.on (F.UARTn_CTL_EN n) = true → s.asleep = false →
      exec (.stuckClear n) s = .next (s.modUart n fun u => { u with stuck := false, disarmed := false, rxd := true, lowAt := none })) ∧
    (s.on (F.UARTn_CTL_EN n) = false ∨ s.asleep = true → exec (.stuckClear n) s = .next s) ∧
    (let quiet : Prop := passed u.edgeAt (4 * u.rxLine.charCycles);
      (u.rx ≠ [] → u.idleHeld = false → u.stuck = false → quiet →
        exec (.uartRxTimeout n) s = .next ((s.modUart n fun u => { u with idleHeld := true }).raise 0x700 (61 + n) (BitVec.ofNat 32 n) 0)) ∧
      (u.rx = [] ∨ u.idleHeld = true ∨ u.stuck = true ∨ ¬ quiet → exec (.uartRxTimeout n) s = .next s)) ∧
    (u.rx = [] → exec (.uartRxRead n) s = .next { s with busOut := 0x80000000 }) ∧
    (∀ e rest, u.rx = e :: rest → Yields (.uartRxRead n) s fun t => t.busOut = e.setWidth 32 ∧ t.uart[n].rx = rest ∧ t.uart[n].tx = u.tx ∧
      (∀ m : Fin 2, m ≠ n → t.uart[m] = s.uart[m]) ∧ t = { s with uart := t.uart, busOut := t.busOut }) ∧
    (u.tx.length < 64 → (u.shifter ≠ none ∨ ¬ go → exec (.uartTxWrite n v) s =
        .next (s.modUart n fun u => { u with tx := u.tx ++ [v.setWidth 8], emptied := false })) ∧
      (u.shifter = none → go → Yields (.uartTxWrite n v) s fun t => port t ∧ t.regs = s.regs ∧ t.evc = s.evc ∧ t.uart[n].rx = u.rx ∧
        ∃ b, sends t b ∧ b :: t.uart[n].tx = u.tx ++ [v.setWidth 8])) ∧
    (64 ≤ u.tx.length → Yields (.uartTxWrite n v) s fun t => t.on (F.UARTn_FLAGS_TX_OVR n) = true ∧ RegsBut s t [R.UARTn_FLAGS n] ∧
      t = { s with regs := t.regs, cycle := t.cycle }) ∧
    (let gone : Prop := passed u.txAt u.txLine.charCycles;
      let done := fun (u : Uart) => ({ u with shifter := none, wave := [], sirEnd := if u.txLine.sirOn = true then some s.time else u.sirEnd } : Uart);
      (u.shifter = none ∨ ¬ gone → exec (.uartCharSent n) s = .next s) ∧
      (u.shifter ≠ none → gone →
        (∀ b rest, u.tx = b :: rest →
          (go → Yields (.uartCharSent n) s fun t => port t ∧ t.regs = s.regs ∧ t.evc = s.evc ∧ sends t b ∧ t.uart[n].tx = rest ∧ t.uart[n].rx = u.rx) ∧
          (¬ go → exec (.uartCharSent n) s = .next (s.modUart n done))) ∧
        (u.tx = [] → u.emptied = false → exec (.uartCharSent n) s =
          .next ((s.modUart n fun u => { done u with emptied := true }).raise 0x701 (61 + n) (BitVec.ofNat 32 n) 0)))) ∧
    (u.shifter ≠ none ∨ u.tx = [] ∨ u.emptied = true → exec (.uartTxflush n) s = .next (s.modUart n fun u => { u with tx := [] })) ∧
    (u.shifter = none → u.tx ≠ [] → u.emptied = false → exec (.uartTxflush n) s =
      .next ((s.modUart n fun u => { u with tx := [], emptied := true }).raise 0x701 (61 + n) (BitVec.ofNat 32 n) 0)) ∧
    (Yields (.uartRxflush n) s fun t => t.uart[n].rx = [] ∧ t.uart[n].trigHeld = false ∧ t.uart[n].idleHeld = false ∧ t.uart[n].tx = u.tx ∧
      (∀ m : Fin 2, m ≠ n → t.uart[m] = s.uart[m]) ∧ t = { s with uart := t.uart }) ∧
    (Yields (.ctsChange level) s fun t => t.uart[(1 : Fin 2)].ctsN = level ∧ t.uart[(1 : Fin 2)].rx = s.uart[(1 : Fin 2)].rx ∧ t.uart[(0 : Fin 2)] = s.uart[(0 : Fin 2)] ∧
      t = { s with uart := t.uart } ∧
      (n = 1 → may → u.shifter = none → s.on (F.UARTn_CTL_AFC 1) = false ∨ level = false → ∀ b rest, u.tx = b :: rest →
        sends t b ∧ t.uart[n].tx = rest)) ∧
    (let due : Prop := s.asleep = true ∧ u.rxLine.charCycles * 32768 ≤ 48000000 * (s.reg R.TMR_DORM).toNat;
      (due → exec (.uartRearm n) s = .next (s.modUart n fun u => { u with disarmed := false, stuck := false, rxd := true, lowAt := none })) ∧
      (¬ due → exec (.uartRearm n) s = .next s)) ∧
    (u.shifter = none → s.txd n = if n = 0 ∧ s.on (F.UARTn_CTL_SIR n) = true then s.on (F.UARTn_CTL_SIR_POL n) else true) ∧
    (s.sys.mode ≠ .dormant → v.getLsbD 0 = false → v.getLsbD 9 = false → u.tx ≠ [] → Yields (.registerWrite .host (BitVec.ofNat 32 (R.UARTn_CTL n)) v) s fun t =>
      t.uart[n].shifter = none ∧ t.uart[n].tx = u.tx ∧ t.uart[n].rtsN = true) ∧
    (let hi := v.toNat / 65536 % 128;
    let lo := v.toNat / 256 % 64;
    (hi ≤ lo ∨ 64 < hi → Yields (.fifoCtlWrite n v) s fun t => t.reg (R.UARTn_FIFO_CTL n) = s.reg (R.UARTn_FIFO_CTL n) ∧
      t.on (F.UARTn_FLAGS_CFG_ERR n) = true ∧ RegsBut s t [R.UARTn_FLAGS n] ∧ t = { s with regs := t.regs, cycle := t.cycle }) ∧
    (lo < hi → hi ≤ 64 → Yields (.fifoCtlWrite n v) s fun t => t.reg (R.UARTn_FIFO_CTL n) = v &&& 0xFF7F3F7F ∧
      RegsBut s t [R.UARTn_FIFO_CTL n] ∧ t.uart[n].rx = s.uart[n].rx ∧ t.uart[n].tx = s.uart[n].tx ∧
      (∀ m : Fin 2, m ≠ n → t.uart[m] = s.uart[m]) ∧ t = { s with uart := t.uart, regs := t.regs }))

/-! ### OTP -/

/-- Whatever the device does, resets included, it only programs OTP: no bit goes from 1 to 0 (R414), so the life cycle's count and the rollback count never fall, no key's
revocation is undone, an ENDED device stays ENDED (R416), and the fields written at manufacture never change.
Which bits a burn cut short leaves is log entry 49 (DEDUCED). -/
def Obligations.StepOnlyProgramsOtp : Prop :=
  ∀ s t : State, step s = .next t → s.otp.Grows t.otp ∧ s.otp.reprov ≤ t.otp.reprov ∧ (s.otp.lc = .ended → t.otp.lc = .ended)

/-! ### The host interface -/

/-- Rings, DMA errors, interrupts, the link and the host's image (R499, R500, R505, R506, R517-R520, R523, R530): a count moves only as far as R506 lets it; EN is set
on an idle ring that has the key it needs and zeroes its counts, and is cleared by a disable or a host reset, which clears Bus Master Enable too; a DMA error marks
the ring or the
entry, or is the failed write of the collector's next record; a moderated cause fires when its time is up, its vector pending while it is masked or the device may
issue no request, and sent once it may;
GO counts only while READY. The vectors and their pending bits are log entry 22 (PRESUMED), what counts as an occurrence log entry 23, the targets of a DMA error log
entry 43 (both DEDUCED).
What a bus that is not selected does is log entry 56 (DEDUCED). -/
def Obligations.HostRingsAndInterrupts : Prop :=
  ∀ (s : State) (r : Fin 8) (c : Fin 11) (v : Word) (up : Bool) (speed width : BitVec 2) (pci : Pci),
    let spi := s.sys.straps.hostSel
    let en := s.on (F.HIF_RINGr_CFG_EN r)
    (spi = true → exec .hostReset s = .next s ∧ exec (.linkUp up speed width pci) s = .next s) ∧
    (spi = false →
      (Yields .hostReset s fun t => (∀ q : Fin 8, t.reg (R.HIF_RINGr_CFG q) = s.reg (R.HIF_RINGr_CFG q) &&& 0xFFFFFFFE) ∧
        RegsBut s t (allEight.map fun q : Fin 8 => R.HIF_RINGr_CFG q) ∧
        t = { s with regs := t.regs, hif := { s.hif with pci := ⟨false, false⟩ } }) ∧
      (let out := (List.range 32).filter fun k => pci.busMaster && !pci.d3hot && (s.reg R.MSIX_PBA).getLsbD k && !(s.reg (R.MSIX_CTL k)).getLsbD 0
       Yields (.linkUp up speed width pci) s fun t => t.on F.HIF_STAT_LINK_UP = up ∧
        t.fld F.HIF_STAT_SPEED = (if up = true then speed.toNat else 0) ∧ t.fld F.HIF_STAT_WIDTH = (if up = true then width.toNat else 0) ∧
        t.hif = { s.hif with pci := pci, msi := s.hif.msi ++ out.map (BitVec.ofNat 5) } ∧
        (∀ k < 32, (t.reg R.MSIX_PBA).getLsbD k = ((s.reg R.MSIX_PBA).getLsbD k && !out.contains k)) ∧
        RegsBut s t [R.HIF_STAT, R.MSIX_PBA] ∧ t = { s with regs := t.regs, hif := t.hif })) ∧
    (Yields (.ringDisable r) s fun t => t.reg (R.HIF_RINGr_CFG r) = s.reg (R.HIF_RINGr_CFG r) &&& 0xFFFFFFFE ∧
      RegsBut s t [R.HIF_RINGr_CFG r] ∧ t = { s with regs := t.regs }) ∧
    (let u := s.setReg (R.HIF_RINGr_CFG r) (v &&& 0x00FFFF02);
      let fit := s.ringIdle r = true ∧ (v.getLsbD 1 = true → u.ringKey r = true);
      (en = true → Yields (.ringEnable r v) s fun t => RegsBut s t [] ∧ t = { s with regs := t.regs }) ∧
      (en = false → fit → Yields (.ringEnable r v) s fun t => t.reg (R.HIF_RINGr_CFG r) = (v &&& 0x00FFFF02) ||| 1 ∧
        t.reg (R.HIF_RINGr_HEAD r) = 0 ∧ t.reg (R.HIF_RINGr_TAIL r) = 0 ∧ t.reg (R.HIF_RINGr_AUX r) = 0 ∧ t.on (F.HIF_RINGr_STAT_ERR r) = false ∧
        t.hif.rings[r] = ⟨[], [], 0⟩ ∧ (∀ q : Fin 8, q ≠ r → t.hif.rings[q] = s.hif.rings[q]) ∧
        RegsBut s t [R.HIF_RINGr_CFG r, R.HIF_RINGr_HEAD r, R.HIF_RINGr_TAIL r, R.HIF_RINGr_AUX r, R.HIF_RINGr_STAT r] ∧
        t = { s with regs := t.regs, cycle := t.cycle, hif := { s.hif with rings := t.hif.rings } }) ∧
      (en = false → ¬ fit → Yields (.ringEnable r v) s fun t => t.reg (R.HIF_RINGr_CFG r) = v &&& 0x00FFFF02 ∧
        t.on F.HIF_FLAGS_CFG_ERR = true ∧ t.hif.rings = s.hif.rings ∧
        t = { s with regs := t.regs, cycle := t.cycle, hif := t.hif })) ∧
    (let new := v.toNat % 65536;
      let old := s.fld (F.HIF_RINGr_TAIL_COUNT r);
      let head := s.fld (F.HIF_RINGr_HEAD_COUNT r);
      let top := if r.val < 4 then head else head + 2 ^ max 4 (min 12 (s.fld (F.HIF_RINGr_CFG_LOG2 r)));
      let far := fun x : Nat => (x + 65536 - old) % 65536;
      (far new ≤ far top → Yields (.ringTailWrite r v) s fun t => t.fld (F.HIF_RINGr_TAIL_COUNT r) = new ∧
        RegsBut s t [R.HIF_RINGr_TAIL r] ∧ t = { s with regs := t.regs }) ∧
      (far top < far new → exec (.ringTailWrite r v) s = .next s)) ∧
    (s.on F.EVC_CTL_HR_EN = true → s.evc.hostErr = false → exec (.dmaError .eventRing) s = exec (.eventRecordWrite false) s) ∧
    (s.on F.EVC_CTL_HR_EN = false ∨ s.evc.hostErr = true → exec (.dmaError .eventRing) s = .next s) ∧
    ((∀ d ∈ s.mac.store, ¬ (d.ring = r ∧ d.booked = false)) → exec (.dmaError (.payload r)) s = .next s) ∧
    (∀ d, s.unread r = some d →
      exec (.dmaError (.payload r)) s = .next ((s.hifFlag F.HIF_FLAGS_DMA_ERR).finishDeferred d.no .bufErr 0 0)) ∧
    (s.ringOn r = true ∨ s.ringIdle r = false → Yields (.dmaError (.ring r)) s fun t => t.on (F.HIF_RINGr_STAT_ERR r) = true ∧
      t.on F.HIF_FLAGS_DMA_ERR = true ∧ t.hif.rings = s.hif.rings ∧ t = { s with regs := t.regs, cycle := t.cycle, hif := t.hif }) ∧
    (s.ringOn r = false → s.ringIdle r = true → exec (.dmaError (.ring r)) s = .next s) ∧
    (let us := s.fld (F.HIF_IRQc_USEC c);
      let due : Prop := us ≠ 0 ∧ ∃ f, s.hif.irq[c].first = some f ∧ f.toNat + usDticks us ≤ s.now;
      (¬ due → exec (.irqModerationTimer c) s = .next s) ∧
      (due → Yields (.irqModerationTimer c) s fun t => t.hif.irq[c] = ⟨0, none⟩ ∧ t.fldBit F.HIF_ISR_CAUSE c = true ∧
        (let vec := s.fld (F.HIF_IRQc_VEC c);
          let sends : Prop := spi = false ∧ s.fldBit F.HIF_IER_EN c = true;
          let masked := (s.reg (R.MSIX_CTL vec)).getLsbD 0 || !(s.hif.pci.busMaster && !s.hif.pci.d3hot);
          (sends → masked = false → t.hif.msi = s.hif.msi ++ [BitVec.ofNat 5 vec]) ∧ (¬ sends ∨ masked = true → t.hif.msi = s.hif.msi) ∧
          (sends → masked = true → (t.reg R.MSIX_PBA).getLsbD vec = true)) ∧
        RegsBut s t [R.HIF_ISR, R.MSIX_PBA] ∧ t = { s with regs := t.regs, cycle := t.cycle, hif := t.hif })) ∧
    (v.getLsbD 8 = false ∨ s.hif.bootWait = false → exec (.hostBootGo v) s = .next s) ∧
    (v.getLsbD 8 = true → s.hif.bootWait = true → Yields (.hostBootGo v) s fun t => t.on F.HIF_BOOT_DONE = true ∧ t.on F.HIF_BOOT_READY = false ∧
      t.hif.bootWait = false ∧ (0x100000 < s.fld F.HIF_BOOT_LEN_LEN → t.cores[0].run = .stopped ∧ t.fld F.SEC_BOOT_CODE = 4 ∧
        ∀ a, 0x10140000 ≤ a → a < 0x10240000 → t.byte a = memDefault s.fills a))

/-- The host's and the debug port's accesses (R8, R10, R12, R272, R388, R442, R491, R501-R504, R521, R522): BAR2 and SPI writes reach banks 20 to 35 and the data
TCMs, are refused by
MRAM and discarded elsewhere; against a core's write of the same word at the same time port A's bytes stand and WCOLL is set, where the two
fall in one cycle (which of them do is a free value, log entry 59); registers are reached by whole aligned words; a _LO read latches its partner, which the next read
of the
partner returns; the access types of R10 decide what a write leaves, a flag of hardware's in the same cycle standing (R12); an SPI read answers wait bytes, 0xA5 and the
data, or 0xEE after 32 of them, and an opcode R503 does not know sets SPI_ERR; a core's write of a register feeds the check units that take its stores (R332); an
MRAM word that cannot be corrected reads zero (R402); in DORMANT none of it reaches the device; the debug port performs an access its scope has open and no other.
What a word of the host's is and what a range without a block
reads is log entry 24, the latched partner log entry 25, the debug port's reach and the SPI bytes log entry 55, no BAR2 in SPI mode log entry 56.
The banks whose contents are the device's own are log entry 12 (DESIGN CHOICE), the buses of DORMANT log entry 48 (DEDUCED). -/
def Obligations.HostAndDebugAccess : Prop :=
  ∀ (s : State) (agent : Agent) (addr v : Word) (data : List Byte) (waits len : Nat) (mram : List (Word × ScrubOutcome)) (k : CoreId) (g : GReg) (opcode : Byte),
    let a := addr.toNat
    let spi := s.sys.straps.hostSel
    let puts := fun (c : Instr) (at' : Nat) => Yields c s fun t => (∀ i (h : i < data.length), t.byte (at' + i) = data[i]) ∧
      (∀ x, (x < at' ∨ at' + data.length ≤ x) → t.byte x = s.byte x) ∧
      t = { s with mem := t.mem, memu := { s.memu with dualAt := t.memu.dualAt, dual := t.memu.dual } }
    let whole := data.length
    let w := max 1 waits
    let n := len - w - 1
    let said := List.replicate w 0 ++ [0xA5]
    let read : Instr := .spiRead addr waits len mram
    let look : Instr := .regLoRead addr mram
    let via := fun (x : Nat) => match agent with | .host => s | .core k => s.crcCoreStore k x (leBytes 4 v.toNat)
    let writes := fun (x : Nat) => exec (.registerWrite agent (BitVec.ofNat 32 x) v) s
    let guarded := fun (c : Instr) => Yields c s fun t => t.on F.MEM_FLAGS_MRAM_WP = true ∧ RegsBut s t [R.MEM_FLAGS] ∧
      t = { s with regs := t.regs, cycle := t.cycle }
    let alone : Prop := (∀ b, 8 ≤ b → b < 36 → s.bankDown b = false) ∧ ∀ d ∈ s.dualNow, d.portA = false
    (s.sys.mode = .dormant → ∀ c ∈ ([.bar2Write addr data, .spiWrite addr data, read, .spiStatus opcode, look,
      .registerWrite agent addr v] : List Instr), exec c s = .next s) ∧
    (s.sys.mode ≠ .dormant →
    (spi = true → exec (.bar2Write addr data) s = .next s) ∧
    (spi = false → exec (.spiWrite addr data) s = .next s ∧ exec read s = .next s ∧ exec (.spiStatus opcode) s = .next s ∧
      (a + whole ≤ 0x100000 → alone → puts (.bar2Write addr data) (0x10140000 + a)) ∧
      (a % 4 = 0 → a < 0x100000 → whole = 4 → s.bankDown (20 + a / 0x10000) = false → ∀ lo m old,
        let x := 0x10140000 + a
        s.dualNow = [⟨true, x / 4, lo, m, old⟩] →
        ∃ together : Bool, Yields (.bar2Write addr data) s fun t =>
          (∀ i (h : i < data.length), t.byte (x + i) =
            if together = true ∧ lo ≤ x + i ∧ x + i < lo + m then s.byte (x + i) else data[i]) ∧
          (∀ y, (y < x ∨ x + 4 ≤ y) → t.byte y = s.byte y) ∧ (together = false → t.regs = s.regs) ∧
          (together = true → t.on F.MEM_FLAGS_WCOLL = true ∧ (s.on F.MEM_FLAGS_WCOLL = false → t.reg R.MEM_WCOLL_ADDR = BitVec.ofNat 32 x) ∧
            t.reg (R.TAL_EVCNTc 0x400) = s.reg (R.TAL_EVCNTc 0x400) + 1)) ∧
      (0x100000 ≤ a → a + whole ≤ 0x200000 → alone → (∀ i < whole, inDtcm (a + i - 0x100000 + 0x20000000) = true) →
        puts (.bar2Write addr data) (0x20000000 + (a - 0x100000))) ∧
      ((0x200000 ≤ a ∧ a + whole ≤ 0x1000000) ∨ 0x2000000 ≤ a → exec (.bar2Write addr data) s = .next s) ∧
      (0x1000000 ≤ a → a + whole ≤ 0x2000000 → data ≠ [] → guarded (.bar2Write addr data))) ∧
    (spi = true →
      (opcode = 0x02 ∨ opcode = 0x0B → exec (.spiStatus opcode) s = .next s) ∧
      (opcode ∉ [0x02, 0x0B, 0x05] → exec (.spiStatus opcode) s = .next (s.hifFlag F.HIF_FLAGS_SPI_ERR)) ∧
      (exec (.spiStatus 0x05) s = .next { s with spiOut := [(BitVec.ofBool (s.on F.HIF_FLAGS_SPI_ERR) ++ BitVec.ofBool (s.on F.HIF_BOOT_READY) ++
        BitVec.ofBool ((s.reg R.HIF_ISR &&& s.reg R.HIF_IER) != 0)).setWidth 8] }) ∧
      (0x10140000 ≤ a → a + whole ≤ 0x10240000 → alone → puts (.spiWrite addr data) a) ∧
      (0x18000000 ≤ a → a + whole ≤ 0x19000000 → data ≠ [] → guarded (.spiWrite addr data)) ∧
      (32 < w → (len ≤ 32 → exec read s = .next { s with spiOut := List.replicate len 0 }) ∧
        (32 < len → exec read s = .next { s.hifFlag F.HIF_FLAGS_SPI_ERR with spiOut := List.replicate 32 0 ++ List.replicate (len - 32) 0xEE })) ∧
      (w ≤ 32 → len ≤ w + 1 → exec read s = .next { s with spiOut := said.take len }) ∧
      (w ≤ 32 → w + 1 < len →
        (0x10140000 ≤ a → a + n ≤ 0x10240000 → alone → exec read s = .next { s with spiOut := said ++ s.bytes a n }) ∧
        (0x18000000 ≤ a → a + n ≤ 0x19000000 → mram = [] → exec read s = .next { s with spiOut := said ++ s.bytes a n }) ∧
        (∀ e : Word, 0x18000000 ≤ a → a + n ≤ 0x19000000 → e.toNat % 4 = 0 → a ≤ e.toNat → e.toNat < a + n → mram = [(e, .uncorrectable)] →
          exec read s = .next { s.mramError e.toNat with
            spiOut := said ++ (List.range n).map fun i => if (a + i) / 4 = e.toNat / 4 then 0 else s.byte (a + i) }) ∧
        (inRegs a = true → a % 4 ≠ 0 → exec read s = .next { s.hifFlag F.HIF_FLAGS_SPI_ERR with spiOut := said ++ List.replicate n 0 }) ∧
        (inRegs a = true → a % 4 = 0 → ∀ t, exec look s = .next t →
          (n = 4 → exec read s = .next { t with busOut := s.busOut, spiOut := said ++ leBytes 4 t.busOut.toNat }) ∧
          (n < 4 → exec read s = .next { s.hifFlag F.HIF_FLAGS_SPI_ERR with spiOut := said ++ (leBytes 4 t.busOut.toNat).take n }))) ∧
      (inRegs a = true →
        (a % 4 ≠ 0 → exec (.spiWrite addr data) s = .next (s.hifFlag F.HIF_FLAGS_SPI_ERR)) ∧
        (a % 4 = 0 →
          (∀ b0 b1 b2 b3 : Byte, exec (.spiWrite addr [b0, b1, b2, b3]) s = exec (.registerWrite .host addr (b3 ++ b2 ++ b1 ++ b0)) s) ∧
          (0 < whole → whole < 4 → exec (.spiWrite addr data) s = .next (s.hifFlag F.HIF_FLAGS_SPI_ERR))))) ∧
    (inBar0 a = false → exec (.registerWrite agent addr v) s = .next s ∧
      (0x10140000 ≤ a → a + 4 ≤ 0x10240000 → alone → exec look s = .next { s with busOut := BitVec.ofNat 32 (s.le a 4) }) ∧
      (0x18000000 ≤ a → a + 4 ≤ 0x19000000 → mram = [] → exec look s = .next { s with busOut := BitVec.ofNat 32 (s.le a 4) }) ∧
      (0x18000000 ≤ a → a + 4 ≤ 0x19000000 → a % 4 = 0 → mram = [(addr, .uncorrectable)] →
        exec look s = .next { s.mramError a with busOut := 0 }) ∧
      ((∀ i < 4, inShared (a + i) = false ∧ inDtcm (a + i) = false ∧ inItcm (a + i) = false ∧ inMram (a + i) = false) → alone →
        exec look s = .next { s with busOut := 0 })) ∧
    (inBar0 a = true → inRegs a = false → a % 4 = 0 → exec look s = .next { s with busOut := 0 } ∧ exec (.registerWrite agent addr v) s = .next s) ∧
    (inBar0 a = true → a % 4 ≠ 0 → exec look s = .next { s.hifFlag F.HIF_FLAGS_BAD_ACC with busOut := 0xFFFFFFFF } ∧
      exec (.registerWrite .host addr v) s = .next (s.hifFlag F.HIF_FLAGS_BAD_ACC) ∧ exec (.registerWrite (.core k) addr v) s = .next s) ∧
    (inRegs a = true → a % 4 = 0 →
      (a ∈ [R.MAC_SF_ORIGIN_LO, R.MAC_SF_START_LO, R.MAC_OPENMAP_LO, R.MAC_MEPH_XLO, R.TMR_TIME_LO, R.TMR_WAKE_LO] →
        Yields look s fun t => t.busOut = s.regView a ∧ kget? t.mac.latches (a + 4) = some (s.regView (a + 4)) ∧
          t = { s with busOut := t.busOut, mac := { s.mac with latches := t.mac.latches } }) ∧
      (a ∉ [R.MAC_SF_ORIGIN_LO, R.MAC_SF_START_LO, R.MAC_OPENMAP_LO, R.MAC_MEPH_XLO, R.TMR_TIME_LO, R.TMR_WAKE_LO] →
        (∀ x, kget? s.mac.latches a = some x → Yields look s fun t => t.busOut = x ∧ t.mac.latches = sdel s.mac.latches a) ∧
        (kget? s.mac.latches a = none → a < R.LPn_CTL 0 ∨ (R.TMR_TIME_LO ≤ a ∧ a < 0x40190000) → exec look s = .next { s with busOut := s.regView a }) ∧
        (kget? s.mac.latches a = none → 0x40190000 ≤ a → exec look s = .next { s.counted a with busOut := (s.counted a).regView a }))) ∧
    ((∀ n : Fin 4, s.fld (F.CRC_CTXn_CTL_SRC n) ≠ 4) → ∀ x, via x = s) ∧
    (∀ n : Fin 2, writes (R.UARTn_DATA n) = exec (.uartTxWrite n v) (via (R.UARTn_DATA n)) ∧
      writes (R.UARTn_FIFO_CTL n) = exec (.fifoCtlWrite n v) (via (R.UARTn_FIFO_CTL n)) ∧
      (let x := R.UARTn_FLAGS n;
        writes x = .next ((via x).setReg x ((via x).reg x &&& ~~~(v &&& 0xFF &&& ~~~ (via x).marks x)))) ∧
      (let x := R.UARTn_FMT n;
        let fmt := ((via x).reg x &&& ~~~0xF) ||| (v &&& 0xF);
        (fmt.setWidth 4 = ((via x).reg x).setWidth 4 → writes x = .next ((via x).setReg x fmt)) ∧
        (fmt.setWidth 4 ≠ ((via x).reg x).setWidth 4 →
          writes x = .next (((via x).setReg x fmt).modUart n fun u => { u with was := u.was ++ [((via x).time, (via x).uartNow n)] })))) ∧
    (∀ r : Fin 8, writes (R.HIF_RINGr_TAIL r) = exec (.ringTailWrite r v) (via (R.HIF_RINGr_TAIL r))) ∧
    writes R.HIF_BOOT = exec (.hostBootGo v) (via R.HIF_BOOT) ∧
    writes R.AGE_VID = exec (.ageVidWrite v) (via R.AGE_VID)) ∧
    exec (.debugAccess .boundaryScan) s = .next s ∧
    (s.debugOpen 0 = false → ∀ d ∈ ([.coreHalt k, .coreStep k, .regRead k g, .regWrite k g v, .pcRead k, .pcWrite k v] : List DebugKind),
      exec (.debugAccess d) s = .next s) ∧
    (s.debugOpen 0 = false → s.debugOpen 1 = false → a % 4 = 0 → (∀ o, exec (.debugAccess (.memRead addr o)) s = .next { s with busOut := 0 }) ∧
      exec (.debugAccess (.memWrite addr v)) s = .next s) ∧
    (s.debugOpen 0 = true →
      (s.cores[k].run = .running → s.cores[k].load = none → Yields (.debugAccess (.coreHalt k)) s fun t =>
        t.cores = s.cores.set k { s.cores[k] with run := .stopped, locks := [], stepping := false } ∧ t.reg (R.OCC_EPCk k) = s.cores[k].pc ∧
        RegsBut s t [R.OCC_EPCk k] ∧ t = { s with cores := t.cores, regs := t.regs }) ∧
      (s.cores[k].run = .running → s.cores[k].load ≠ none →
        exec (.debugAccess (.coreHalt k)) s = .next (s.modCore k fun c => { c with stepping := true })) ∧
      (s.cores[k].run = .stopped → exec (.debugAccess (.coreStep k)) s = .next (s.modCore k fun c => { c with run := .running, stepping := true })) ∧
      (s.cores[k].run = .stopped ∨ s.cores[k].run = .halted →
        exec (.debugAccess (.coreHalt k)) s = .next s ∧
        exec (.debugAccess (.regRead k g)) s = .next { s with busOut := s.g k g } ∧
        exec (.debugAccess (.pcRead k)) s = .next { s with busOut := s.cores[k].pc } ∧
        exec (.debugAccess (.pcWrite k v)) s = .next (s.modCore k fun c => { c with pc := v &&& 0xFFFFFFFC }) ∧
        Yields (.debugAccess (.regWrite k g v)) s fun t => (∀ r, t.g k r = if r = g ∧ r ≠ 0 then v else s.g k r) ∧
          t = s.modCore k fun c => { c with g := t.cores[k].g }) ∧
      (s.cores[k].run ≠ .stopped → s.cores[k].run ≠ .halted →
        ∀ d ∈ ([.coreStep k, .regRead k g, .regWrite k g v, .pcRead k, .pcWrite k v] : List DebugKind), exec (.debugAccess d) s = .next s)) ∧
    (s.debugOpen 1 = true → a % 4 = 0 →
      (inShared a = true → s.bankDown (bankOf a) = false →
        (∀ o, exec (.debugAccess (.memRead addr o)) s = .next { s with busOut := BitVec.ofNat 32 (s.le a 4) }) ∧
        Yields (.debugAccess (.memWrite addr v)) s fun t => t.bytes a 4 = leBytes 4 v.toNat ∧ (∀ x, (x < a ∨ a + 4 ≤ x) → t.byte x = s.byte x) ∧
          t = { s with mem := t.mem }) ∧
      (inMram a = true → guarded (.debugAccess (.memWrite addr v)) ∧
        exec (.debugAccess (.memRead addr .good)) s = .next { s with busOut := BitVec.ofNat 32 (s.le a 4) } ∧
        exec (.debugAccess (.memRead addr .uncorrectable)) s = .next { s.mramError a with busOut := 0 }))
end

