-- ==== Sys2Proof/Laws/Sparse.lean ====
section
/-! SUPPORT. Laws of sparse maps: what a read finds after a write, and that writing keeps the canonical form. -/

namespace Sys2Proof.Machine

variable {α : Type}

/-- Every key of the list is above `lo`. -/
def sabove (lo : Nat) (m : List (Nat × α)) : Prop := ∀ p ∈ m, lo < p.1

theorem srising_some_iff (lo : Nat) (m : List (Nat × α)) :
    srising (some lo) m = true ↔ sabove lo m ∧ srising none m = true := by
  induction m generalizing lo with
  | nil => simp [srising, sabove]
  | cons p m ih =>
    obtain ⟨j, v⟩ := p
    simp only [srising, Bool.and_eq_true, decide_eq_true_eq]
    constructor
    · rintro ⟨h1, h2⟩
      refine ⟨?_, h2⟩
      intro q hq
      rcases List.mem_cons.1 hq with rfl | hq
      · exact h1
      · exact Nat.lt_trans h1 (((ih j).1 h2).1 q hq)
    · rintro ⟨h1, h2⟩
      exact ⟨h1 (j, v) (List.mem_cons_self ..), h2⟩

theorem srising_cons (j : Nat) (v : α) (m : List (Nat × α)) :
    srising none ((j, v) :: m) = true ↔ sabove j m ∧ srising none m = true := by
  simpa [srising] using srising_some_iff j m

theorem sget_above (d : Nat → α) {m : List (Nat × α)} {k : Nat} (h : sabove k m) : sget d m k = d k := by
  induction m with
  | nil => rfl
  | cons p m ih =>
    obtain ⟨j, v⟩ := p
    have hj : k < j := h (j, v) (List.mem_cons_self ..)
    have hne : j ≠ k := by omega
    simp only [sget, hne, if_false]
    exact ih fun q hq => h q (List.mem_cons_of_mem _ hq)

theorem sget_sput (d : Nat → α) (m : List (Nat × α)) (k j : Nat) (v : α) :
    sget d (sput m k v) j = if j = k then v else sget d m j := by
  induction m with
  | nil => simp [sput, sget, eq_comm]
  | cons p m ih =>
    obtain ⟨i, w⟩ := p
    simp only [sput]
    split
    · simp [sget, eq_comm]
    · split
      · rename_i h; subst h
        by_cases h : j = k
        · subst h; simp [sget]
        · simp [sget, h, Ne.symm h]
      · simp only [sget, ih]
        by_cases h1 : i = j
        · subst h1; rename_i h2; simp [Ne.symm h2]
        · simp [h1]

theorem sget_sdel (d : Nat → α) (m : List (Nat × α)) (k j : Nat) :
    sget d (sdel m k) j = if j = k then d k else sget d m j := by
  induction m with
  | nil => by_cases h : j = k <;> simp [sdel, sget, h]
  | cons p m ih =>
    obtain ⟨i, w⟩ := p
    simp only [sdel]
    split
    · rename_i hk; subst hk
      by_cases hj : j = i
      · subst hj; simpa using ih
      · simp [ih, sget, hj, Ne.symm hj]
    · simp only [sget, ih]
      by_cases hj : i = j
      · subst hj; rename_i hk; simp [hk]
      · simp [hj]

theorem mem_sput {m : List (Nat × α)} {k : Nat} {v : α} {p : Nat × α} (h : p ∈ sput m k v) : p = (k, v) ∨ p ∈ m := by
  induction m with
  | nil => simpa [sput] using h
  | cons q m ih =>
    obtain ⟨j, w⟩ := q
    simp only [sput] at h
    split at h
    · simpa using h
    · split at h
      · rcases List.mem_cons.1 h with h | h
        · exact .inl h
        · exact .inr (List.mem_cons_of_mem _ h)
      · rcases List.mem_cons.1 h with h | h
        · exact .inr (h ▸ List.mem_cons_self ..)
        · rcases ih h with h | h
          · exact .inl h
          · exact .inr (List.mem_cons_of_mem _ h)

theorem mem_sdel {m : List (Nat × α)} {k : Nat} {p : Nat × α} (h : p ∈ sdel m k) : p ∈ m := by
  induction m with
  | nil => simp [sdel] at h
  | cons q m ih =>
    obtain ⟨j, w⟩ := q
    simp only [sdel] at h
    split at h
    · exact List.mem_cons_of_mem _ (ih h)
    · rcases List.mem_cons.1 h with h | h
      · exact h ▸ List.mem_cons_self ..
      · exact List.mem_cons_of_mem _ (ih h)

theorem srising_sput {m : List (Nat × α)} (h : srising none m = true) (k : Nat) (v : α) : srising none (sput m k v) = true := by
  induction m with
  | nil => simp [sput, srising]
  | cons q m ih =>
    obtain ⟨j, w⟩ := q
    obtain ⟨h1, h2⟩ := (srising_cons j w m).1 h
    simp only [sput]
    split
    · rename_i hk
      refine (srising_cons k v _).2 ⟨?_, h⟩
      intro p hp
      rcases List.mem_cons.1 hp with rfl | hp
      · exact hk
      · exact Nat.lt_trans hk (h1 p hp)
    · split
      · rename_i hk; subst hk
        exact (srising_cons k v _).2 ⟨h1, h2⟩
      · refine (srising_cons j w _).2 ⟨?_, ih h2⟩
        intro p hp
        rcases mem_sput hp with rfl | hp
        · show j < k; omega
        · exact h1 p hp

theorem srising_sdel {m : List (Nat × α)} (h : srising none m = true) (k : Nat) : srising none (sdel m k) = true := by
  induction m with
  | nil => simp [sdel, srising]
  | cons q m ih =>
    obtain ⟨j, w⟩ := q
    obtain ⟨h1, h2⟩ := (srising_cons j w m).1 h
    simp only [sdel]
    split
    · exact ih h2
    · exact (srising_cons j w _).2 ⟨fun p hp => h1 p (mem_sdel hp), ih h2⟩

/-- A read after a write: the value written there, what was read before elsewhere. -/
theorem sget_sset [DecidableEq α] (d : Nat → α) (m : List (Nat × α)) (k j : Nat) (v : α) :
    sget d (sset d m k v) j = if j = k then v else sget d m j := by
  simp only [sset]
  split
  · rename_i hv; rw [sget_sdel, hv]
  · exact sget_sput d m k j v

/-- A write keeps the canonical form. -/
theorem swf_sset [DecidableEq α] (d : Nat → α) {m : List (Nat × α)} (h : swf d m = true) (k : Nat) (v : α) :
    swf d (sset d m k v) = true := by
  simp only [swf, Bool.and_eq_true, List.all_eq_true, decide_eq_true_eq] at h ⊢
  simp only [sset]
  split
  · exact ⟨srising_sdel h.1 k, fun p hp => h.2 p (mem_sdel hp)⟩
  · rename_i hv
    refine ⟨srising_sput h.1 k v, fun p hp => ?_⟩
    rcases mem_sput hp with rfl | hp
    · exact hv
    · exact h.2 p hp

/-- Dropping entries keeps the canonical form. -/
theorem srising_filter {m : List (Nat × α)} (h : srising none m = true) (f : Nat × α → Bool) : srising none (m.filter f) = true := by
  induction m with
  | nil => simp [srising]
  | cons q m ih =>
    obtain ⟨j, w⟩ := q
    obtain ⟨h1, h2⟩ := (srising_cons j w m).1 h
    simp only [List.filter]
    split
    · exact (srising_cons j w _).2 ⟨fun p hp => h1 p (List.mem_filter.1 hp).1, ih h2⟩
    · exact ih h2

theorem swf_filter [DecidableEq α] (d : Nat → α) {m : List (Nat × α)} (h : swf d m = true) (f : Nat × α → Bool) :
    swf d (m.filter f) = true := by
  simp only [swf, Bool.and_eq_true, List.all_eq_true, decide_eq_true_eq] at h ⊢
  exact ⟨srising_filter h.1 f, fun p hp => h.2 p (List.mem_filter.1 hp).1⟩

/-- Two canonical maps that read alike are equal data. -/
theorem swf_ext [DecidableEq α] (d : Nat → α) {m n : List (Nat × α)} (hm : swf d m = true) (hn : swf d n = true)
    (h : ∀ k, sget d m k = sget d n k) : m = n := by
  induction m generalizing n with
  | nil =>
    cases n with
    | nil => rfl
    | cons q n =>
      obtain ⟨j, w⟩ := q
      have hw : w ≠ d j := by simp [swf] at hn; exact hn.2.1
      have := h j
      simp [sget] at this
      exact absurd this.symm hw
  | cons p m ih =>
    obtain ⟨i, v⟩ := p
    have hv : v ≠ d i := by simp [swf] at hm; exact hm.2.1
    cases n with
    | nil =>
      have := h i
      simp [sget] at this
      exact absurd this hv
    | cons q n =>
      obtain ⟨j, w⟩ := q
      have hw : w ≠ d j := by simp [swf] at hn; exact hn.2.1
      simp only [swf, Bool.and_eq_true, List.all_eq_true, decide_eq_true_eq, srising_cons] at hm hn
      have hij : i = j := by
        rcases Nat.lt_trichotomy i j with hlt | rfl | hgt
        · have h1 := h i
          have h2 : sget d ((j, w) :: n) i = d i := by
            apply sget_above
            intro p hp
            rcases List.mem_cons.1 hp with rfl | hp
            · exact hlt
            · exact Nat.lt_trans hlt (hn.1.1 p hp)
          rw [h2] at h1
          simp [sget] at h1
          exact absurd h1 hv
        · rfl
        · have h1 := h j
          have h2 : sget d ((i, v) :: m) j = d j := by
            apply sget_above
            intro p hp
            rcases List.mem_cons.1 hp with rfl | hp
            · exact hgt
            · exact Nat.lt_trans hgt (hm.1.1 p hp)
          rw [h2] at h1
          simp [sget] at h1
          exact absurd h1.symm hw
      subst hij
      have hvw : v = w := by have := h i; simpa [sget] using this
      subst hvw
      congr 1
      apply ih
      · simp only [swf, Bool.and_eq_true, List.all_eq_true, decide_eq_true_eq]
        exact ⟨hm.1.2, fun p hp => hm.2 p (List.mem_cons_of_mem _ hp)⟩
      · simp only [swf, Bool.and_eq_true, List.all_eq_true, decide_eq_true_eq]
        exact ⟨hn.1.2, fun p hp => hn.2 p (List.mem_cons_of_mem _ hp)⟩
      · intro k
        by_cases hk : k = i
        · subst hk
          rw [sget_above d hm.1.1, sget_above d hn.1.1]
        · have := h k
          simpa [sget, Ne.symm hk] using this

end Sys2Proof.Machine
end

