-- ==== Sys2Proof/Laws/State.lean ====
section
/-! SUPPORT. The fields of State after an update: what each named update leaves, and what it sets. -/

namespace Sys2Proof.Machine

variable (s : State)

/-! ### setReg -/

@[simp] theorem State.setReg_time (a : Nat) (v : Word) : (s.setReg a v).time = s.time := rfl
@[simp] theorem State.setReg_mem (a : Nat) (v : Word) : (s.setReg a v).mem = s.mem := rfl
@[simp] theorem State.setReg_fills (a : Nat) (v : Word) : (s.setReg a v).fills = s.fills := rfl
@[simp] theorem State.setReg_hostMem (a : Nat) (v : Word) : (s.setReg a v).hostMem = s.hostMem := rfl
@[simp] theorem State.setReg_busOut (a : Nat) (v : Word) : (s.setReg a v).busOut = s.busOut := rfl
@[simp] theorem State.setReg_spiOut (a : Nat) (v : Word) : (s.setReg a v).spiOut = s.spiOut := rfl
@[simp] theorem State.setReg_freeCtr (a : Nat) (v : Word) : (s.setReg a v).freeCtr = s.freeCtr := rfl
@[simp] theorem State.setReg_limits (a : Nat) (v : Word) : (s.setReg a v).limits = s.limits := rfl
@[simp] theorem State.setReg_cycle (a : Nat) (v : Word) : (s.setReg a v).cycle = s.cycle := rfl
@[simp] theorem State.setReg_grade (a : Nat) (v : Word) : (s.setReg a v).grade = s.grade := rfl
@[simp] theorem State.setReg_otp (a : Nat) (v : Word) : (s.setReg a v).otp = s.otp := rfl
@[simp] theorem State.setReg_sys (a : Nat) (v : Word) : (s.setReg a v).sys = s.sys := rfl
@[simp] theorem State.setReg_evc (a : Nat) (v : Word) : (s.setReg a v).evc = s.evc := rfl
@[simp] theorem State.setReg_cores (a : Nat) (v : Word) : (s.setReg a v).cores = s.cores := rfl
@[simp] theorem State.setReg_memu (a : Nat) (v : Word) : (s.setReg a v).memu = s.memu := rfl
@[simp] theorem State.setReg_key (a : Nat) (v : Word) : (s.setReg a v).key = s.key := rfl
@[simp] theorem State.setReg_crc (a : Nat) (v : Word) : (s.setReg a v).crc = s.crc := rfl
@[simp] theorem State.setReg_sec (a : Nat) (v : Word) : (s.setReg a v).sec = s.sec := rfl
@[simp] theorem State.setReg_uart (a : Nat) (v : Word) : (s.setReg a v).uart = s.uart := rfl
@[simp] theorem State.setReg_age (a : Nat) (v : Word) : (s.setReg a v).age = s.age := rfl
@[simp] theorem State.setReg_ulk (a : Nat) (v : Word) : (s.setReg a v).ulk = s.ulk := rfl
@[simp] theorem State.setReg_hif (a : Nat) (v : Word) : (s.setReg a v).hif = s.hif := rfl
@[simp] theorem State.setReg_lp (a : Nat) (v : Word) : (s.setReg a v).lp = s.lp := rfl
@[simp] theorem State.setReg_dmd (a : Nat) (v : Word) : (s.setReg a v).dmd = s.dmd := rfl
@[simp] theorem State.setReg_mac (a : Nat) (v : Word) : (s.setReg a v).mac = s.mac := rfl
@[simp] theorem State.setReg_lgr (a : Nat) (v : Word) : (s.setReg a v).lgr = s.lgr := rfl
@[simp] theorem State.setReg_pending (a : Nat) (v : Word) : (s.setReg a v).pending = s.pending := rfl

/-! ### setFld -/

@[simp] theorem State.setFld_time (f : Field) (v : Nat) : (s.setFld f v).time = s.time := rfl
@[simp] theorem State.setFld_mem (f : Field) (v : Nat) : (s.setFld f v).mem = s.mem := rfl
@[simp] theorem State.setFld_fills (f : Field) (v : Nat) : (s.setFld f v).fills = s.fills := rfl
@[simp] theorem State.setFld_hostMem (f : Field) (v : Nat) : (s.setFld f v).hostMem = s.hostMem := rfl
@[simp] theorem State.setFld_busOut (f : Field) (v : Nat) : (s.setFld f v).busOut = s.busOut := rfl
@[simp] theorem State.setFld_spiOut (f : Field) (v : Nat) : (s.setFld f v).spiOut = s.spiOut := rfl
@[simp] theorem State.setFld_freeCtr (f : Field) (v : Nat) : (s.setFld f v).freeCtr = s.freeCtr := rfl
@[simp] theorem State.setFld_limits (f : Field) (v : Nat) : (s.setFld f v).limits = s.limits := rfl
@[simp] theorem State.setFld_cycle (f : Field) (v : Nat) : (s.setFld f v).cycle = s.cycle := rfl
@[simp] theorem State.setFld_grade (f : Field) (v : Nat) : (s.setFld f v).grade = s.grade := rfl
@[simp] theorem State.setFld_otp (f : Field) (v : Nat) : (s.setFld f v).otp = s.otp := rfl
@[simp] theorem State.setFld_sys (f : Field) (v : Nat) : (s.setFld f v).sys = s.sys := rfl
@[simp] theorem State.setFld_evc (f : Field) (v : Nat) : (s.setFld f v).evc = s.evc := rfl
@[simp] theorem State.setFld_cores (f : Field) (v : Nat) : (s.setFld f v).cores = s.cores := rfl
@[simp] theorem State.setFld_memu (f : Field) (v : Nat) : (s.setFld f v).memu = s.memu := rfl
@[simp] theorem State.setFld_key (f : Field) (v : Nat) : (s.setFld f v).key = s.key := rfl
@[simp] theorem State.setFld_crc (f : Field) (v : Nat) : (s.setFld f v).crc = s.crc := rfl
@[simp] theorem State.setFld_sec (f : Field) (v : Nat) : (s.setFld f v).sec = s.sec := rfl
@[simp] theorem State.setFld_uart (f : Field) (v : Nat) : (s.setFld f v).uart = s.uart := rfl
@[simp] theorem State.setFld_age (f : Field) (v : Nat) : (s.setFld f v).age = s.age := rfl
@[simp] theorem State.setFld_ulk (f : Field) (v : Nat) : (s.setFld f v).ulk = s.ulk := rfl
@[simp] theorem State.setFld_hif (f : Field) (v : Nat) : (s.setFld f v).hif = s.hif := rfl
@[simp] theorem State.setFld_lp (f : Field) (v : Nat) : (s.setFld f v).lp = s.lp := rfl
@[simp] theorem State.setFld_dmd (f : Field) (v : Nat) : (s.setFld f v).dmd = s.dmd := rfl
@[simp] theorem State.setFld_mac (f : Field) (v : Nat) : (s.setFld f v).mac = s.mac := rfl
@[simp] theorem State.setFld_lgr (f : Field) (v : Nat) : (s.setFld f v).lgr = s.lgr := rfl
@[simp] theorem State.setFld_pending (f : Field) (v : Nat) : (s.setFld f v).pending = s.pending := rfl

/-! ### setOn -/

@[simp] theorem State.setOn_time (f : Field) (b : Bool) : (s.setOn f b).time = s.time := rfl
@[simp] theorem State.setOn_mem (f : Field) (b : Bool) : (s.setOn f b).mem = s.mem := rfl
@[simp] theorem State.setOn_fills (f : Field) (b : Bool) : (s.setOn f b).fills = s.fills := rfl
@[simp] theorem State.setOn_hostMem (f : Field) (b : Bool) : (s.setOn f b).hostMem = s.hostMem := rfl
@[simp] theorem State.setOn_busOut (f : Field) (b : Bool) : (s.setOn f b).busOut = s.busOut := rfl
@[simp] theorem State.setOn_spiOut (f : Field) (b : Bool) : (s.setOn f b).spiOut = s.spiOut := rfl
@[simp] theorem State.setOn_freeCtr (f : Field) (b : Bool) : (s.setOn f b).freeCtr = s.freeCtr := rfl
@[simp] theorem State.setOn_limits (f : Field) (b : Bool) : (s.setOn f b).limits = s.limits := rfl
@[simp] theorem State.setOn_cycle (f : Field) (b : Bool) : (s.setOn f b).cycle = s.cycle := rfl
@[simp] theorem State.setOn_grade (f : Field) (b : Bool) : (s.setOn f b).grade = s.grade := rfl
@[simp] theorem State.setOn_otp (f : Field) (b : Bool) : (s.setOn f b).otp = s.otp := rfl
@[simp] theorem State.setOn_sys (f : Field) (b : Bool) : (s.setOn f b).sys = s.sys := rfl
@[simp] theorem State.setOn_evc (f : Field) (b : Bool) : (s.setOn f b).evc = s.evc := rfl
@[simp] theorem State.setOn_cores (f : Field) (b : Bool) : (s.setOn f b).cores = s.cores := rfl
@[simp] theorem State.setOn_memu (f : Field) (b : Bool) : (s.setOn f b).memu = s.memu := rfl
@[simp] theorem State.setOn_key (f : Field) (b : Bool) : (s.setOn f b).key = s.key := rfl
@[simp] theorem State.setOn_crc (f : Field) (b : Bool) : (s.setOn f b).crc = s.crc := rfl
@[simp] theorem State.setOn_sec (f : Field) (b : Bool) : (s.setOn f b).sec = s.sec := rfl
@[simp] theorem State.setOn_uart (f : Field) (b : Bool) : (s.setOn f b).uart = s.uart := rfl
@[simp] theorem State.setOn_age (f : Field) (b : Bool) : (s.setOn f b).age = s.age := rfl
@[simp] theorem State.setOn_ulk (f : Field) (b : Bool) : (s.setOn f b).ulk = s.ulk := rfl
@[simp] theorem State.setOn_hif (f : Field) (b : Bool) : (s.setOn f b).hif = s.hif := rfl
@[simp] theorem State.setOn_lp (f : Field) (b : Bool) : (s.setOn f b).lp = s.lp := rfl
@[simp] theorem State.setOn_dmd (f : Field) (b : Bool) : (s.setOn f b).dmd = s.dmd := rfl
@[simp] theorem State.setOn_mac (f : Field) (b : Bool) : (s.setOn f b).mac = s.mac := rfl
@[simp] theorem State.setOn_lgr (f : Field) (b : Bool) : (s.setOn f b).lgr = s.lgr := rfl
@[simp] theorem State.setOn_pending (f : Field) (b : Bool) : (s.setOn f b).pending = s.pending := rfl

/-! ### flag -/

@[simp] theorem State.flag_time (f : Field) : (s.flag f).time = s.time := rfl
@[simp] theorem State.flag_mem (f : Field) : (s.flag f).mem = s.mem := rfl
@[simp] theorem State.flag_fills (f : Field) : (s.flag f).fills = s.fills := rfl
@[simp] theorem State.flag_hostMem (f : Field) : (s.flag f).hostMem = s.hostMem := rfl
@[simp] theorem State.flag_busOut (f : Field) : (s.flag f).busOut = s.busOut := rfl
@[simp] theorem State.flag_spiOut (f : Field) : (s.flag f).spiOut = s.spiOut := rfl
@[simp] theorem State.flag_freeCtr (f : Field) : (s.flag f).freeCtr = s.freeCtr := rfl
@[simp] theorem State.flag_limits (f : Field) : (s.flag f).limits = s.limits := rfl
@[simp] theorem State.flag_grade (f : Field) : (s.flag f).grade = s.grade := rfl
@[simp] theorem State.flag_otp (f : Field) : (s.flag f).otp = s.otp := rfl
@[simp] theorem State.flag_sys (f : Field) : (s.flag f).sys = s.sys := rfl
@[simp] theorem State.flag_evc (f : Field) : (s.flag f).evc = s.evc := rfl
@[simp] theorem State.flag_cores (f : Field) : (s.flag f).cores = s.cores := rfl
@[simp] theorem State.flag_memu (f : Field) : (s.flag f).memu = s.memu := rfl
@[simp] theorem State.flag_key (f : Field) : (s.flag f).key = s.key := rfl
@[simp] theorem State.flag_crc (f : Field) : (s.flag f).crc = s.crc := rfl
@[simp] theorem State.flag_sec (f : Field) : (s.flag f).sec = s.sec := rfl
@[simp] theorem State.flag_uart (f : Field) : (s.flag f).uart = s.uart := rfl
@[simp] theorem State.flag_age (f : Field) : (s.flag f).age = s.age := rfl
@[simp] theorem State.flag_ulk (f : Field) : (s.flag f).ulk = s.ulk := rfl
@[simp] theorem State.flag_hif (f : Field) : (s.flag f).hif = s.hif := rfl
@[simp] theorem State.flag_lp (f : Field) : (s.flag f).lp = s.lp := rfl
@[simp] theorem State.flag_dmd (f : Field) : (s.flag f).dmd = s.dmd := rfl
@[simp] theorem State.flag_mac (f : Field) : (s.flag f).mac = s.mac := rfl
@[simp] theorem State.flag_lgr (f : Field) : (s.flag f).lgr = s.lgr := rfl
@[simp] theorem State.flag_pending (f : Field) : (s.flag f).pending = s.pending := rfl

/-! ### flagBit -/

@[simp] theorem State.flagBit_time (f : Field) (i : Nat) : (s.flagBit f i).time = s.time := rfl
@[simp] theorem State.flagBit_mem (f : Field) (i : Nat) : (s.flagBit f i).mem = s.mem := rfl
@[simp] theorem State.flagBit_fills (f : Field) (i : Nat) : (s.flagBit f i).fills = s.fills := rfl
@[simp] theorem State.flagBit_hostMem (f : Field) (i : Nat) : (s.flagBit f i).hostMem = s.hostMem := rfl
@[simp] theorem State.flagBit_busOut (f : Field) (i : Nat) : (s.flagBit f i).busOut = s.busOut := rfl
@[simp] theorem State.flagBit_spiOut (f : Field) (i : Nat) : (s.flagBit f i).spiOut = s.spiOut := rfl
@[simp] theorem State.flagBit_freeCtr (f : Field) (i : Nat) : (s.flagBit f i).freeCtr = s.freeCtr := rfl
@[simp] theorem State.flagBit_limits (f : Field) (i : Nat) : (s.flagBit f i).limits = s.limits := rfl
@[simp] theorem State.flagBit_grade (f : Field) (i : Nat) : (s.flagBit f i).grade = s.grade := rfl
@[simp] theorem State.flagBit_otp (f : Field) (i : Nat) : (s.flagBit f i).otp = s.otp := rfl
@[simp] theorem State.flagBit_sys (f : Field) (i : Nat) : (s.flagBit f i).sys = s.sys := rfl
@[simp] theorem State.flagBit_evc (f : Field) (i : Nat) : (s.flagBit f i).evc = s.evc := rfl
@[simp] theorem State.flagBit_cores (f : Field) (i : Nat) : (s.flagBit f i).cores = s.cores := rfl
@[simp] theorem State.flagBit_memu (f : Field) (i : Nat) : (s.flagBit f i).memu = s.memu := rfl
@[simp] theorem State.flagBit_key (f : Field) (i : Nat) : (s.flagBit f i).key = s.key := rfl
@[simp] theorem State.flagBit_crc (f : Field) (i : Nat) : (s.flagBit f i).crc = s.crc := rfl
@[simp] theorem State.flagBit_sec (f : Field) (i : Nat) : (s.flagBit f i).sec = s.sec := rfl
@[simp] theorem State.flagBit_uart (f : Field) (i : Nat) : (s.flagBit f i).uart = s.uart := rfl
@[simp] theorem State.flagBit_age (f : Field) (i : Nat) : (s.flagBit f i).age = s.age := rfl
@[simp] theorem State.flagBit_ulk (f : Field) (i : Nat) : (s.flagBit f i).ulk = s.ulk := rfl
@[simp] theorem State.flagBit_hif (f : Field) (i : Nat) : (s.flagBit f i).hif = s.hif := rfl
@[simp] theorem State.flagBit_lp (f : Field) (i : Nat) : (s.flagBit f i).lp = s.lp := rfl
@[simp] theorem State.flagBit_dmd (f : Field) (i : Nat) : (s.flagBit f i).dmd = s.dmd := rfl
@[simp] theorem State.flagBit_mac (f : Field) (i : Nat) : (s.flagBit f i).mac = s.mac := rfl
@[simp] theorem State.flagBit_lgr (f : Field) (i : Nat) : (s.flagBit f i).lgr = s.lgr := rfl
@[simp] theorem State.flagBit_pending (f : Field) (i : Nat) : (s.flagBit f i).pending = s.pending := rfl

/-! ### bump -/

@[simp] theorem State.bump_time (a n : Nat) : (s.bump a n).time = s.time := rfl
@[simp] theorem State.bump_mem (a n : Nat) : (s.bump a n).mem = s.mem := rfl
@[simp] theorem State.bump_fills (a n : Nat) : (s.bump a n).fills = s.fills := rfl
@[simp] theorem State.bump_hostMem (a n : Nat) : (s.bump a n).hostMem = s.hostMem := rfl
@[simp] theorem State.bump_busOut (a n : Nat) : (s.bump a n).busOut = s.busOut := rfl
@[simp] theorem State.bump_spiOut (a n : Nat) : (s.bump a n).spiOut = s.spiOut := rfl
@[simp] theorem State.bump_freeCtr (a n : Nat) : (s.bump a n).freeCtr = s.freeCtr := rfl
@[simp] theorem State.bump_limits (a n : Nat) : (s.bump a n).limits = s.limits := rfl
@[simp] theorem State.bump_grade (a n : Nat) : (s.bump a n).grade = s.grade := rfl
@[simp] theorem State.bump_otp (a n : Nat) : (s.bump a n).otp = s.otp := rfl
@[simp] theorem State.bump_sys (a n : Nat) : (s.bump a n).sys = s.sys := rfl
@[simp] theorem State.bump_evc (a n : Nat) : (s.bump a n).evc = s.evc := rfl
@[simp] theorem State.bump_cores (a n : Nat) : (s.bump a n).cores = s.cores := rfl
@[simp] theorem State.bump_memu (a n : Nat) : (s.bump a n).memu = s.memu := rfl
@[simp] theorem State.bump_key (a n : Nat) : (s.bump a n).key = s.key := rfl
@[simp] theorem State.bump_crc (a n : Nat) : (s.bump a n).crc = s.crc := rfl
@[simp] theorem State.bump_sec (a n : Nat) : (s.bump a n).sec = s.sec := rfl
@[simp] theorem State.bump_uart (a n : Nat) : (s.bump a n).uart = s.uart := rfl
@[simp] theorem State.bump_age (a n : Nat) : (s.bump a n).age = s.age := rfl
@[simp] theorem State.bump_ulk (a n : Nat) : (s.bump a n).ulk = s.ulk := rfl
@[simp] theorem State.bump_hif (a n : Nat) : (s.bump a n).hif = s.hif := rfl
@[simp] theorem State.bump_lp (a n : Nat) : (s.bump a n).lp = s.lp := rfl
@[simp] theorem State.bump_dmd (a n : Nat) : (s.bump a n).dmd = s.dmd := rfl
@[simp] theorem State.bump_mac (a n : Nat) : (s.bump a n).mac = s.mac := rfl
@[simp] theorem State.bump_lgr (a n : Nat) : (s.bump a n).lgr = s.lgr := rfl
@[simp] theorem State.bump_pending (a n : Nat) : (s.bump a n).pending = s.pending := rfl

/-! ### tally -/

@[simp] theorem State.tally_time (i : Nat) : (s.tally i).time = s.time := rfl
@[simp] theorem State.tally_mem (i : Nat) : (s.tally i).mem = s.mem := rfl
@[simp] theorem State.tally_fills (i : Nat) : (s.tally i).fills = s.fills := rfl
@[simp] theorem State.tally_hostMem (i : Nat) : (s.tally i).hostMem = s.hostMem := rfl
@[simp] theorem State.tally_busOut (i : Nat) : (s.tally i).busOut = s.busOut := rfl
@[simp] theorem State.tally_spiOut (i : Nat) : (s.tally i).spiOut = s.spiOut := rfl
@[simp] theorem State.tally_freeCtr (i : Nat) : (s.tally i).freeCtr = s.freeCtr := rfl
@[simp] theorem State.tally_limits (i : Nat) : (s.tally i).limits = s.limits := rfl
@[simp] theorem State.tally_grade (i : Nat) : (s.tally i).grade = s.grade := rfl
@[simp] theorem State.tally_otp (i : Nat) : (s.tally i).otp = s.otp := rfl
@[simp] theorem State.tally_sys (i : Nat) : (s.tally i).sys = s.sys := rfl
@[simp] theorem State.tally_evc (i : Nat) : (s.tally i).evc = s.evc := rfl
@[simp] theorem State.tally_cores (i : Nat) : (s.tally i).cores = s.cores := rfl
@[simp] theorem State.tally_memu (i : Nat) : (s.tally i).memu = s.memu := rfl
@[simp] theorem State.tally_key (i : Nat) : (s.tally i).key = s.key := rfl
@[simp] theorem State.tally_crc (i : Nat) : (s.tally i).crc = s.crc := rfl
@[simp] theorem State.tally_sec (i : Nat) : (s.tally i).sec = s.sec := rfl
@[simp] theorem State.tally_uart (i : Nat) : (s.tally i).uart = s.uart := rfl
@[simp] theorem State.tally_age (i : Nat) : (s.tally i).age = s.age := rfl
@[simp] theorem State.tally_ulk (i : Nat) : (s.tally i).ulk = s.ulk := rfl
@[simp] theorem State.tally_hif (i : Nat) : (s.tally i).hif = s.hif := rfl
@[simp] theorem State.tally_lp (i : Nat) : (s.tally i).lp = s.lp := rfl
@[simp] theorem State.tally_dmd (i : Nat) : (s.tally i).dmd = s.dmd := rfl
@[simp] theorem State.tally_mac (i : Nat) : (s.tally i).mac = s.mac := rfl
@[simp] theorem State.tally_lgr (i : Nat) : (s.tally i).lgr = s.lgr := rfl
@[simp] theorem State.tally_pending (i : Nat) : (s.tally i).pending = s.pending := rfl

/-! ### setByte -/

@[simp] theorem State.setByte_time (a : Nat) (b : Byte) : (s.setByte a b).time = s.time := rfl
@[simp] theorem State.setByte_regs (a : Nat) (b : Byte) : (s.setByte a b).regs = s.regs := rfl
@[simp] theorem State.setByte_fills (a : Nat) (b : Byte) : (s.setByte a b).fills = s.fills := rfl
@[simp] theorem State.setByte_hostMem (a : Nat) (b : Byte) : (s.setByte a b).hostMem = s.hostMem := rfl
@[simp] theorem State.setByte_busOut (a : Nat) (b : Byte) : (s.setByte a b).busOut = s.busOut := rfl
@[simp] theorem State.setByte_spiOut (a : Nat) (b : Byte) : (s.setByte a b).spiOut = s.spiOut := rfl
@[simp] theorem State.setByte_freeCtr (a : Nat) (b : Byte) : (s.setByte a b).freeCtr = s.freeCtr := rfl
@[simp] theorem State.setByte_limits (a : Nat) (b : Byte) : (s.setByte a b).limits = s.limits := rfl
@[simp] theorem State.setByte_cycle (a : Nat) (b : Byte) : (s.setByte a b).cycle = s.cycle := rfl
@[simp] theorem State.setByte_grade (a : Nat) (b : Byte) : (s.setByte a b).grade = s.grade := rfl
@[simp] theorem State.setByte_otp (a : Nat) (b : Byte) : (s.setByte a b).otp = s.otp := rfl
@[simp] theorem State.setByte_sys (a : Nat) (b : Byte) : (s.setByte a b).sys = s.sys := rfl
@[simp] theorem State.setByte_evc (a : Nat) (b : Byte) : (s.setByte a b).evc = s.evc := rfl
@[simp] theorem State.setByte_cores (a : Nat) (b : Byte) : (s.setByte a b).cores = s.cores := rfl
@[simp] theorem State.setByte_memu (a : Nat) (b : Byte) : (s.setByte a b).memu = s.memu := rfl
@[simp] theorem State.setByte_key (a : Nat) (b : Byte) : (s.setByte a b).key = s.key := rfl
@[simp] theorem State.setByte_crc (a : Nat) (b : Byte) : (s.setByte a b).crc = s.crc := rfl
@[simp] theorem State.setByte_sec (a : Nat) (b : Byte) : (s.setByte a b).sec = s.sec := rfl
@[simp] theorem State.setByte_uart (a : Nat) (b : Byte) : (s.setByte a b).uart = s.uart := rfl
@[simp] theorem State.setByte_age (a : Nat) (b : Byte) : (s.setByte a b).age = s.age := rfl
@[simp] theorem State.setByte_ulk (a : Nat) (b : Byte) : (s.setByte a b).ulk = s.ulk := rfl
@[simp] theorem State.setByte_hif (a : Nat) (b : Byte) : (s.setByte a b).hif = s.hif := rfl
@[simp] theorem State.setByte_lp (a : Nat) (b : Byte) : (s.setByte a b).lp = s.lp := rfl
@[simp] theorem State.setByte_dmd (a : Nat) (b : Byte) : (s.setByte a b).dmd = s.dmd := rfl
@[simp] theorem State.setByte_mac (a : Nat) (b : Byte) : (s.setByte a b).mac = s.mac := rfl
@[simp] theorem State.setByte_lgr (a : Nat) (b : Byte) : (s.setByte a b).lgr = s.lgr := rfl
@[simp] theorem State.setByte_pending (a : Nat) (b : Byte) : (s.setByte a b).pending = s.pending := rfl

/-! ### setHostByte -/

@[simp] theorem State.setHostByte_time (a : Nat) (b : Byte) : (s.setHostByte a b).time = s.time := rfl
@[simp] theorem State.setHostByte_regs (a : Nat) (b : Byte) : (s.setHostByte a b).regs = s.regs := rfl
@[simp] theorem State.setHostByte_mem (a : Nat) (b : Byte) : (s.setHostByte a b).mem = s.mem := rfl
@[simp] theorem State.setHostByte_fills (a : Nat) (b : Byte) : (s.setHostByte a b).fills = s.fills := rfl
@[simp] theorem State.setHostByte_busOut (a : Nat) (b : Byte) : (s.setHostByte a b).busOut = s.busOut := rfl
@[simp] theorem State.setHostByte_spiOut (a : Nat) (b : Byte) : (s.setHostByte a b).spiOut = s.spiOut := rfl
@[simp] theorem State.setHostByte_freeCtr (a : Nat) (b : Byte) : (s.setHostByte a b).freeCtr = s.freeCtr := rfl
@[simp] theorem State.setHostByte_limits (a : Nat) (b : Byte) : (s.setHostByte a b).limits = s.limits := rfl
@[simp] theorem State.setHostByte_cycle (a : Nat) (b : Byte) : (s.setHostByte a b).cycle = s.cycle := rfl
@[simp] theorem State.setHostByte_grade (a : Nat) (b : Byte) : (s.setHostByte a b).grade = s.grade := rfl
@[simp] theorem State.setHostByte_otp (a : Nat) (b : Byte) : (s.setHostByte a b).otp = s.otp := rfl
@[simp] theorem State.setHostByte_sys (a : Nat) (b : Byte) : (s.setHostByte a b).sys = s.sys := rfl
@[simp] theorem State.setHostByte_evc (a : Nat) (b : Byte) : (s.setHostByte a b).evc = s.evc := rfl
@[simp] theorem State.setHostByte_cores (a : Nat) (b : Byte) : (s.setHostByte a b).cores = s.cores := rfl
@[simp] theorem State.setHostByte_memu (a : Nat) (b : Byte) : (s.setHostByte a b).memu = s.memu := rfl
@[simp] theorem State.setHostByte_key (a : Nat) (b : Byte) : (s.setHostByte a b).key = s.key := rfl
@[simp] theorem State.setHostByte_crc (a : Nat) (b : Byte) : (s.setHostByte a b).crc = s.crc := rfl
@[simp] theorem State.setHostByte_sec (a : Nat) (b : Byte) : (s.setHostByte a b).sec = s.sec := rfl
@[simp] theorem State.setHostByte_uart (a : Nat) (b : Byte) : (s.setHostByte a b).uart = s.uart := rfl
@[simp] theorem State.setHostByte_age (a : Nat) (b : Byte) : (s.setHostByte a b).age = s.age := rfl
@[simp] theorem State.setHostByte_ulk (a : Nat) (b : Byte) : (s.setHostByte a b).ulk = s.ulk := rfl
@[simp] theorem State.setHostByte_hif (a : Nat) (b : Byte) : (s.setHostByte a b).hif = s.hif := rfl
@[simp] theorem State.setHostByte_lp (a : Nat) (b : Byte) : (s.setHostByte a b).lp = s.lp := rfl
@[simp] theorem State.setHostByte_dmd (a : Nat) (b : Byte) : (s.setHostByte a b).dmd = s.dmd := rfl
@[simp] theorem State.setHostByte_mac (a : Nat) (b : Byte) : (s.setHostByte a b).mac = s.mac := rfl
@[simp] theorem State.setHostByte_lgr (a : Nat) (b : Byte) : (s.setHostByte a b).lgr = s.lgr := rfl
@[simp] theorem State.setHostByte_pending (a : Nat) (b : Byte) : (s.setHostByte a b).pending = s.pending := rfl

/-! ### clearRange -/

@[simp] theorem State.clearRange_time (lo hi : Nat) (fs : List Fill) : (s.clearRange lo hi fs).time = s.time := rfl
@[simp] theorem State.clearRange_regs (lo hi : Nat) (fs : List Fill) : (s.clearRange lo hi fs).regs = s.regs := rfl
@[simp] theorem State.clearRange_hostMem (lo hi : Nat) (fs : List Fill) : (s.clearRange lo hi fs).hostMem = s.hostMem := rfl
@[simp] theorem State.clearRange_busOut (lo hi : Nat) (fs : List Fill) : (s.clearRange lo hi fs).busOut = s.busOut := rfl
@[simp] theorem State.clearRange_spiOut (lo hi : Nat) (fs : List Fill) : (s.clearRange lo hi fs).spiOut = s.spiOut := rfl
@[simp] theorem State.clearRange_freeCtr (lo hi : Nat) (fs : List Fill) : (s.clearRange lo hi fs).freeCtr = s.freeCtr := rfl
@[simp] theorem State.clearRange_limits (lo hi : Nat) (fs : List Fill) : (s.clearRange lo hi fs).limits = s.limits := rfl
@[simp] theorem State.clearRange_cycle (lo hi : Nat) (fs : List Fill) : (s.clearRange lo hi fs).cycle = s.cycle := rfl
@[simp] theorem State.clearRange_grade (lo hi : Nat) (fs : List Fill) : (s.clearRange lo hi fs).grade = s.grade := rfl
@[simp] theorem State.clearRange_otp (lo hi : Nat) (fs : List Fill) : (s.clearRange lo hi fs).otp = s.otp := rfl
@[simp] theorem State.clearRange_sys (lo hi : Nat) (fs : List Fill) : (s.clearRange lo hi fs).sys = s.sys := rfl
@[simp] theorem State.clearRange_evc (lo hi : Nat) (fs : List Fill) : (s.clearRange lo hi fs).evc = s.evc := rfl
@[simp] theorem State.clearRange_cores (lo hi : Nat) (fs : List Fill) : (s.clearRange lo hi fs).cores = s.cores := rfl
@[simp] theorem State.clearRange_memu (lo hi : Nat) (fs : List Fill) : (s.clearRange lo hi fs).memu = s.memu := rfl
@[simp] theorem State.clearRange_key (lo hi : Nat) (fs : List Fill) : (s.clearRange lo hi fs).key = s.key := rfl
@[simp] theorem State.clearRange_crc (lo hi : Nat) (fs : List Fill) : (s.clearRange lo hi fs).crc = s.crc := rfl
@[simp] theorem State.clearRange_sec (lo hi : Nat) (fs : List Fill) : (s.clearRange lo hi fs).sec = s.sec := rfl
@[simp] theorem State.clearRange_uart (lo hi : Nat) (fs : List Fill) : (s.clearRange lo hi fs).uart = s.uart := rfl
@[simp] theorem State.clearRange_age (lo hi : Nat) (fs : List Fill) : (s.clearRange lo hi fs).age = s.age := rfl
@[simp] theorem State.clearRange_ulk (lo hi : Nat) (fs : List Fill) : (s.clearRange lo hi fs).ulk = s.ulk := rfl
@[simp] theorem State.clearRange_hif (lo hi : Nat) (fs : List Fill) : (s.clearRange lo hi fs).hif = s.hif := rfl
@[simp] theorem State.clearRange_lp (lo hi : Nat) (fs : List Fill) : (s.clearRange lo hi fs).lp = s.lp := rfl
@[simp] theorem State.clearRange_dmd (lo hi : Nat) (fs : List Fill) : (s.clearRange lo hi fs).dmd = s.dmd := rfl
@[simp] theorem State.clearRange_mac (lo hi : Nat) (fs : List Fill) : (s.clearRange lo hi fs).mac = s.mac := rfl
@[simp] theorem State.clearRange_lgr (lo hi : Nat) (fs : List Fill) : (s.clearRange lo hi fs).lgr = s.lgr := rfl
@[simp] theorem State.clearRange_pending (lo hi : Nat) (fs : List Fill) : (s.clearRange lo hi fs).pending = s.pending := rfl

/-! ### drawn -/

@[simp] theorem State.drawn_time (n : Nat) : (s.drawn n).time = s.time := rfl
@[simp] theorem State.drawn_regs (n : Nat) : (s.drawn n).regs = s.regs := rfl
@[simp] theorem State.drawn_mem (n : Nat) : (s.drawn n).mem = s.mem := rfl
@[simp] theorem State.drawn_fills (n : Nat) : (s.drawn n).fills = s.fills := rfl
@[simp] theorem State.drawn_hostMem (n : Nat) : (s.drawn n).hostMem = s.hostMem := rfl
@[simp] theorem State.drawn_busOut (n : Nat) : (s.drawn n).busOut = s.busOut := rfl
@[simp] theorem State.drawn_spiOut (n : Nat) : (s.drawn n).spiOut = s.spiOut := rfl
@[simp] theorem State.drawn_limits (n : Nat) : (s.drawn n).limits = s.limits := rfl
@[simp] theorem State.drawn_cycle (n : Nat) : (s.drawn n).cycle = s.cycle := rfl
@[simp] theorem State.drawn_grade (n : Nat) : (s.drawn n).grade = s.grade := rfl
@[simp] theorem State.drawn_otp (n : Nat) : (s.drawn n).otp = s.otp := rfl
@[simp] theorem State.drawn_sys (n : Nat) : (s.drawn n).sys = s.sys := rfl
@[simp] theorem State.drawn_evc (n : Nat) : (s.drawn n).evc = s.evc := rfl
@[simp] theorem State.drawn_cores (n : Nat) : (s.drawn n).cores = s.cores := rfl
@[simp] theorem State.drawn_memu (n : Nat) : (s.drawn n).memu = s.memu := rfl
@[simp] theorem State.drawn_key (n : Nat) : (s.drawn n).key = s.key := rfl
@[simp] theorem State.drawn_crc (n : Nat) : (s.drawn n).crc = s.crc := rfl
@[simp] theorem State.drawn_sec (n : Nat) : (s.drawn n).sec = s.sec := rfl
@[simp] theorem State.drawn_uart (n : Nat) : (s.drawn n).uart = s.uart := rfl
@[simp] theorem State.drawn_age (n : Nat) : (s.drawn n).age = s.age := rfl
@[simp] theorem State.drawn_ulk (n : Nat) : (s.drawn n).ulk = s.ulk := rfl
@[simp] theorem State.drawn_hif (n : Nat) : (s.drawn n).hif = s.hif := rfl
@[simp] theorem State.drawn_lp (n : Nat) : (s.drawn n).lp = s.lp := rfl
@[simp] theorem State.drawn_dmd (n : Nat) : (s.drawn n).dmd = s.dmd := rfl
@[simp] theorem State.drawn_mac (n : Nat) : (s.drawn n).mac = s.mac := rfl
@[simp] theorem State.drawn_lgr (n : Nat) : (s.drawn n).lgr = s.lgr := rfl
@[simp] theorem State.drawn_pending (n : Nat) : (s.drawn n).pending = s.pending := rfl

/-! ### modCore -/

@[simp] theorem State.modCore_time (k : CoreId) (f : Core → Core) : (s.modCore k f).time = s.time := rfl
@[simp] theorem State.modCore_regs (k : CoreId) (f : Core → Core) : (s.modCore k f).regs = s.regs := rfl
@[simp] theorem State.modCore_mem (k : CoreId) (f : Core → Core) : (s.modCore k f).mem = s.mem := rfl
@[simp] theorem State.modCore_fills (k : CoreId) (f : Core → Core) : (s.modCore k f).fills = s.fills := rfl
@[simp] theorem State.modCore_hostMem (k : CoreId) (f : Core → Core) : (s.modCore k f).hostMem = s.hostMem := rfl
@[simp] theorem State.modCore_busOut (k : CoreId) (f : Core → Core) : (s.modCore k f).busOut = s.busOut := rfl
@[simp] theorem State.modCore_spiOut (k : CoreId) (f : Core → Core) : (s.modCore k f).spiOut = s.spiOut := rfl
@[simp] theorem State.modCore_freeCtr (k : CoreId) (f : Core → Core) : (s.modCore k f).freeCtr = s.freeCtr := rfl
@[simp] theorem State.modCore_limits (k : CoreId) (f : Core → Core) : (s.modCore k f).limits = s.limits := rfl
@[simp] theorem State.modCore_cycle (k : CoreId) (f : Core → Core) : (s.modCore k f).cycle = s.cycle := rfl
@[simp] theorem State.modCore_grade (k : CoreId) (f : Core → Core) : (s.modCore k f).grade = s.grade := rfl
@[simp] theorem State.modCore_otp (k : CoreId) (f : Core → Core) : (s.modCore k f).otp = s.otp := rfl
@[simp] theorem State.modCore_sys (k : CoreId) (f : Core → Core) : (s.modCore k f).sys = s.sys := rfl
@[simp] theorem State.modCore_evc (k : CoreId) (f : Core → Core) : (s.modCore k f).evc = s.evc := rfl
@[simp] theorem State.modCore_memu (k : CoreId) (f : Core → Core) : (s.modCore k f).memu = s.memu := rfl
@[simp] theorem State.modCore_key (k : CoreId) (f : Core → Core) : (s.modCore k f).key = s.key := rfl
@[simp] theorem State.modCore_crc (k : CoreId) (f : Core → Core) : (s.modCore k f).crc = s.crc := rfl
@[simp] theorem State.modCore_sec (k : CoreId) (f : Core → Core) : (s.modCore k f).sec = s.sec := rfl
@[simp] theorem State.modCore_uart (k : CoreId) (f : Core → Core) : (s.modCore k f).uart = s.uart := rfl
@[simp] theorem State.modCore_age (k : CoreId) (f : Core → Core) : (s.modCore k f).age = s.age := rfl
@[simp] theorem State.modCore_ulk (k : CoreId) (f : Core → Core) : (s.modCore k f).ulk = s.ulk := rfl
@[simp] theorem State.modCore_hif (k : CoreId) (f : Core → Core) : (s.modCore k f).hif = s.hif := rfl
@[simp] theorem State.modCore_lp (k : CoreId) (f : Core → Core) : (s.modCore k f).lp = s.lp := rfl
@[simp] theorem State.modCore_dmd (k : CoreId) (f : Core → Core) : (s.modCore k f).dmd = s.dmd := rfl
@[simp] theorem State.modCore_mac (k : CoreId) (f : Core → Core) : (s.modCore k f).mac = s.mac := rfl
@[simp] theorem State.modCore_lgr (k : CoreId) (f : Core → Core) : (s.modCore k f).lgr = s.lgr := rfl
@[simp] theorem State.modCore_pending (k : CoreId) (f : Core → Core) : (s.modCore k f).pending = s.pending := rfl

/-! ### modMac -/

@[simp] theorem State.modMac_time (f : Mac → Mac) : (s.modMac f).time = s.time := rfl
@[simp] theorem State.modMac_regs (f : Mac → Mac) : (s.modMac f).regs = s.regs := rfl
@[simp] theorem State.modMac_mem (f : Mac → Mac) : (s.modMac f).mem = s.mem := rfl
@[simp] theorem State.modMac_fills (f : Mac → Mac) : (s.modMac f).fills = s.fills := rfl
@[simp] theorem State.modMac_hostMem (f : Mac → Mac) : (s.modMac f).hostMem = s.hostMem := rfl
@[simp] theorem State.modMac_busOut (f : Mac → Mac) : (s.modMac f).busOut = s.busOut := rfl
@[simp] theorem State.modMac_spiOut (f : Mac → Mac) : (s.modMac f).spiOut = s.spiOut := rfl
@[simp] theorem State.modMac_freeCtr (f : Mac → Mac) : (s.modMac f).freeCtr = s.freeCtr := rfl
@[simp] theorem State.modMac_limits (f : Mac → Mac) : (s.modMac f).limits = s.limits := rfl
@[simp] theorem State.modMac_cycle (f : Mac → Mac) : (s.modMac f).cycle = s.cycle := rfl
@[simp] theorem State.modMac_grade (f : Mac → Mac) : (s.modMac f).grade = s.grade := rfl
@[simp] theorem State.modMac_otp (f : Mac → Mac) : (s.modMac f).otp = s.otp := rfl
@[simp] theorem State.modMac_sys (f : Mac → Mac) : (s.modMac f).sys = s.sys := rfl
@[simp] theorem State.modMac_evc (f : Mac → Mac) : (s.modMac f).evc = s.evc := rfl
@[simp] theorem State.modMac_cores (f : Mac → Mac) : (s.modMac f).cores = s.cores := rfl
@[simp] theorem State.modMac_memu (f : Mac → Mac) : (s.modMac f).memu = s.memu := rfl
@[simp] theorem State.modMac_key (f : Mac → Mac) : (s.modMac f).key = s.key := rfl
@[simp] theorem State.modMac_crc (f : Mac → Mac) : (s.modMac f).crc = s.crc := rfl
@[simp] theorem State.modMac_sec (f : Mac → Mac) : (s.modMac f).sec = s.sec := rfl
@[simp] theorem State.modMac_uart (f : Mac → Mac) : (s.modMac f).uart = s.uart := rfl
@[simp] theorem State.modMac_age (f : Mac → Mac) : (s.modMac f).age = s.age := rfl
@[simp] theorem State.modMac_ulk (f : Mac → Mac) : (s.modMac f).ulk = s.ulk := rfl
@[simp] theorem State.modMac_hif (f : Mac → Mac) : (s.modMac f).hif = s.hif := rfl
@[simp] theorem State.modMac_lp (f : Mac → Mac) : (s.modMac f).lp = s.lp := rfl
@[simp] theorem State.modMac_dmd (f : Mac → Mac) : (s.modMac f).dmd = s.dmd := rfl
@[simp] theorem State.modMac_lgr (f : Mac → Mac) : (s.modMac f).lgr = s.lgr := rfl
@[simp] theorem State.modMac_pending (f : Mac → Mac) : (s.modMac f).pending = s.pending := rfl

/-! ### modDmd -/

@[simp] theorem State.modDmd_time (f : Dmd → Dmd) : (s.modDmd f).time = s.time := rfl
@[simp] theorem State.modDmd_regs (f : Dmd → Dmd) : (s.modDmd f).regs = s.regs := rfl
@[simp] theorem State.modDmd_mem (f : Dmd → Dmd) : (s.modDmd f).mem = s.mem := rfl
@[simp] theorem State.modDmd_fills (f : Dmd → Dmd) : (s.modDmd f).fills = s.fills := rfl
@[simp] theorem State.modDmd_hostMem (f : Dmd → Dmd) : (s.modDmd f).hostMem = s.hostMem := rfl
@[simp] theorem State.modDmd_busOut (f : Dmd → Dmd) : (s.modDmd f).busOut = s.busOut := rfl
@[simp] theorem State.modDmd_spiOut (f : Dmd → Dmd) : (s.modDmd f).spiOut = s.spiOut := rfl
@[simp] theorem State.modDmd_freeCtr (f : Dmd → Dmd) : (s.modDmd f).freeCtr = s.freeCtr := rfl
@[simp] theorem State.modDmd_limits (f : Dmd → Dmd) : (s.modDmd f).limits = s.limits := rfl
@[simp] theorem State.modDmd_cycle (f : Dmd → Dmd) : (s.modDmd f).cycle = s.cycle := rfl
@[simp] theorem State.modDmd_grade (f : Dmd → Dmd) : (s.modDmd f).grade = s.grade := rfl
@[simp] theorem State.modDmd_otp (f : Dmd → Dmd) : (s.modDmd f).otp = s.otp := rfl
@[simp] theorem State.modDmd_sys (f : Dmd → Dmd) : (s.modDmd f).sys = s.sys := rfl
@[simp] theorem State.modDmd_evc (f : Dmd → Dmd) : (s.modDmd f).evc = s.evc := rfl
@[simp] theorem State.modDmd_cores (f : Dmd → Dmd) : (s.modDmd f).cores = s.cores := rfl
@[simp] theorem State.modDmd_memu (f : Dmd → Dmd) : (s.modDmd f).memu = s.memu := rfl
@[simp] theorem State.modDmd_key (f : Dmd → Dmd) : (s.modDmd f).key = s.key := rfl
@[simp] theorem State.modDmd_crc (f : Dmd → Dmd) : (s.modDmd f).crc = s.crc := rfl
@[simp] theorem State.modDmd_sec (f : Dmd → Dmd) : (s.modDmd f).sec = s.sec := rfl
@[simp] theorem State.modDmd_uart (f : Dmd → Dmd) : (s.modDmd f).uart = s.uart := rfl
@[simp] theorem State.modDmd_age (f : Dmd → Dmd) : (s.modDmd f).age = s.age := rfl
@[simp] theorem State.modDmd_ulk (f : Dmd → Dmd) : (s.modDmd f).ulk = s.ulk := rfl
@[simp] theorem State.modDmd_hif (f : Dmd → Dmd) : (s.modDmd f).hif = s.hif := rfl
@[simp] theorem State.modDmd_lp (f : Dmd → Dmd) : (s.modDmd f).lp = s.lp := rfl
@[simp] theorem State.modDmd_mac (f : Dmd → Dmd) : (s.modDmd f).mac = s.mac := rfl
@[simp] theorem State.modDmd_lgr (f : Dmd → Dmd) : (s.modDmd f).lgr = s.lgr := rfl
@[simp] theorem State.modDmd_pending (f : Dmd → Dmd) : (s.modDmd f).pending = s.pending := rfl

/-! ### modLgr -/

@[simp] theorem State.modLgr_time (f : Ledger → Ledger) : (s.modLgr f).time = s.time := rfl
@[simp] theorem State.modLgr_regs (f : Ledger → Ledger) : (s.modLgr f).regs = s.regs := rfl
@[simp] theorem State.modLgr_mem (f : Ledger → Ledger) : (s.modLgr f).mem = s.mem := rfl
@[simp] theorem State.modLgr_fills (f : Ledger → Ledger) : (s.modLgr f).fills = s.fills := rfl
@[simp] theorem State.modLgr_hostMem (f : Ledger → Ledger) : (s.modLgr f).hostMem = s.hostMem := rfl
@[simp] theorem State.modLgr_busOut (f : Ledger → Ledger) : (s.modLgr f).busOut = s.busOut := rfl
@[simp] theorem State.modLgr_spiOut (f : Ledger → Ledger) : (s.modLgr f).spiOut = s.spiOut := rfl
@[simp] theorem State.modLgr_freeCtr (f : Ledger → Ledger) : (s.modLgr f).freeCtr = s.freeCtr := rfl
@[simp] theorem State.modLgr_limits (f : Ledger → Ledger) : (s.modLgr f).limits = s.limits := rfl
@[simp] theorem State.modLgr_cycle (f : Ledger → Ledger) : (s.modLgr f).cycle = s.cycle := rfl
@[simp] theorem State.modLgr_grade (f : Ledger → Ledger) : (s.modLgr f).grade = s.grade := rfl
@[simp] theorem State.modLgr_otp (f : Ledger → Ledger) : (s.modLgr f).otp = s.otp := rfl
@[simp] theorem State.modLgr_sys (f : Ledger → Ledger) : (s.modLgr f).sys = s.sys := rfl
@[simp] theorem State.modLgr_evc (f : Ledger → Ledger) : (s.modLgr f).evc = s.evc := rfl
@[simp] theorem State.modLgr_cores (f : Ledger → Ledger) : (s.modLgr f).cores = s.cores := rfl
@[simp] theorem State.modLgr_memu (f : Ledger → Ledger) : (s.modLgr f).memu = s.memu := rfl
@[simp] theorem State.modLgr_key (f : Ledger → Ledger) : (s.modLgr f).key = s.key := rfl
@[simp] theorem State.modLgr_crc (f : Ledger → Ledger) : (s.modLgr f).crc = s.crc := rfl
@[simp] theorem State.modLgr_sec (f : Ledger → Ledger) : (s.modLgr f).sec = s.sec := rfl
@[simp] theorem State.modLgr_uart (f : Ledger → Ledger) : (s.modLgr f).uart = s.uart := rfl
@[simp] theorem State.modLgr_age (f : Ledger → Ledger) : (s.modLgr f).age = s.age := rfl
@[simp] theorem State.modLgr_ulk (f : Ledger → Ledger) : (s.modLgr f).ulk = s.ulk := rfl
@[simp] theorem State.modLgr_hif (f : Ledger → Ledger) : (s.modLgr f).hif = s.hif := rfl
@[simp] theorem State.modLgr_lp (f : Ledger → Ledger) : (s.modLgr f).lp = s.lp := rfl
@[simp] theorem State.modLgr_dmd (f : Ledger → Ledger) : (s.modLgr f).dmd = s.dmd := rfl
@[simp] theorem State.modLgr_mac (f : Ledger → Ledger) : (s.modLgr f).mac = s.mac := rfl
@[simp] theorem State.modLgr_pending (f : Ledger → Ledger) : (s.modLgr f).pending = s.pending := rfl

/-! ### modLp -/

@[simp] theorem State.modLp_time (n : Port) (f : LpChain → LpChain) : (s.modLp n f).time = s.time := rfl
@[simp] theorem State.modLp_regs (n : Port) (f : LpChain → LpChain) : (s.modLp n f).regs = s.regs := rfl
@[simp] theorem State.modLp_mem (n : Port) (f : LpChain → LpChain) : (s.modLp n f).mem = s.mem := rfl
@[simp] theorem State.modLp_fills (n : Port) (f : LpChain → LpChain) : (s.modLp n f).fills = s.fills := rfl
@[simp] theorem State.modLp_hostMem (n : Port) (f : LpChain → LpChain) : (s.modLp n f).hostMem = s.hostMem := rfl
@[simp] theorem State.modLp_busOut (n : Port) (f : LpChain → LpChain) : (s.modLp n f).busOut = s.busOut := rfl
@[simp] theorem State.modLp_spiOut (n : Port) (f : LpChain → LpChain) : (s.modLp n f).spiOut = s.spiOut := rfl
@[simp] theorem State.modLp_freeCtr (n : Port) (f : LpChain → LpChain) : (s.modLp n f).freeCtr = s.freeCtr := rfl
@[simp] theorem State.modLp_limits (n : Port) (f : LpChain → LpChain) : (s.modLp n f).limits = s.limits := rfl
@[simp] theorem State.modLp_cycle (n : Port) (f : LpChain → LpChain) : (s.modLp n f).cycle = s.cycle := rfl
@[simp] theorem State.modLp_grade (n : Port) (f : LpChain → LpChain) : (s.modLp n f).grade = s.grade := rfl
@[simp] theorem State.modLp_otp (n : Port) (f : LpChain → LpChain) : (s.modLp n f).otp = s.otp := rfl
@[simp] theorem State.modLp_sys (n : Port) (f : LpChain → LpChain) : (s.modLp n f).sys = s.sys := rfl
@[simp] theorem State.modLp_evc (n : Port) (f : LpChain → LpChain) : (s.modLp n f).evc = s.evc := rfl
@[simp] theorem State.modLp_cores (n : Port) (f : LpChain → LpChain) : (s.modLp n f).cores = s.cores := rfl
@[simp] theorem State.modLp_memu (n : Port) (f : LpChain → LpChain) : (s.modLp n f).memu = s.memu := rfl
@[simp] theorem State.modLp_key (n : Port) (f : LpChain → LpChain) : (s.modLp n f).key = s.key := rfl
@[simp] theorem State.modLp_crc (n : Port) (f : LpChain → LpChain) : (s.modLp n f).crc = s.crc := rfl
@[simp] theorem State.modLp_sec (n : Port) (f : LpChain → LpChain) : (s.modLp n f).sec = s.sec := rfl
@[simp] theorem State.modLp_uart (n : Port) (f : LpChain → LpChain) : (s.modLp n f).uart = s.uart := rfl
@[simp] theorem State.modLp_age (n : Port) (f : LpChain → LpChain) : (s.modLp n f).age = s.age := rfl
@[simp] theorem State.modLp_ulk (n : Port) (f : LpChain → LpChain) : (s.modLp n f).ulk = s.ulk := rfl
@[simp] theorem State.modLp_hif (n : Port) (f : LpChain → LpChain) : (s.modLp n f).hif = s.hif := rfl
@[simp] theorem State.modLp_dmd (n : Port) (f : LpChain → LpChain) : (s.modLp n f).dmd = s.dmd := rfl
@[simp] theorem State.modLp_mac (n : Port) (f : LpChain → LpChain) : (s.modLp n f).mac = s.mac := rfl
@[simp] theorem State.modLp_lgr (n : Port) (f : LpChain → LpChain) : (s.modLp n f).lgr = s.lgr := rfl
@[simp] theorem State.modLp_pending (n : Port) (f : LpChain → LpChain) : (s.modLp n f).pending = s.pending := rfl

/-! ### modUlk -/

@[simp] theorem State.modUlk_time (f : Ulk → Ulk) : (s.modUlk f).time = s.time := rfl
@[simp] theorem State.modUlk_regs (f : Ulk → Ulk) : (s.modUlk f).regs = s.regs := rfl
@[simp] theorem State.modUlk_mem (f : Ulk → Ulk) : (s.modUlk f).mem = s.mem := rfl
@[simp] theorem State.modUlk_fills (f : Ulk → Ulk) : (s.modUlk f).fills = s.fills := rfl
@[simp] theorem State.modUlk_hostMem (f : Ulk → Ulk) : (s.modUlk f).hostMem = s.hostMem := rfl
@[simp] theorem State.modUlk_busOut (f : Ulk → Ulk) : (s.modUlk f).busOut = s.busOut := rfl
@[simp] theorem State.modUlk_spiOut (f : Ulk → Ulk) : (s.modUlk f).spiOut = s.spiOut := rfl
@[simp] theorem State.modUlk_freeCtr (f : Ulk → Ulk) : (s.modUlk f).freeCtr = s.freeCtr := rfl
@[simp] theorem State.modUlk_limits (f : Ulk → Ulk) : (s.modUlk f).limits = s.limits := rfl
@[simp] theorem State.modUlk_cycle (f : Ulk → Ulk) : (s.modUlk f).cycle = s.cycle := rfl
@[simp] theorem State.modUlk_grade (f : Ulk → Ulk) : (s.modUlk f).grade = s.grade := rfl
@[simp] theorem State.modUlk_otp (f : Ulk → Ulk) : (s.modUlk f).otp = s.otp := rfl
@[simp] theorem State.modUlk_sys (f : Ulk → Ulk) : (s.modUlk f).sys = s.sys := rfl
@[simp] theorem State.modUlk_evc (f : Ulk → Ulk) : (s.modUlk f).evc = s.evc := rfl
@[simp] theorem State.modUlk_cores (f : Ulk → Ulk) : (s.modUlk f).cores = s.cores := rfl
@[simp] theorem State.modUlk_memu (f : Ulk → Ulk) : (s.modUlk f).memu = s.memu := rfl
@[simp] theorem State.modUlk_key (f : Ulk → Ulk) : (s.modUlk f).key = s.key := rfl
@[simp] theorem State.modUlk_crc (f : Ulk → Ulk) : (s.modUlk f).crc = s.crc := rfl
@[simp] theorem State.modUlk_sec (f : Ulk → Ulk) : (s.modUlk f).sec = s.sec := rfl
@[simp] theorem State.modUlk_uart (f : Ulk → Ulk) : (s.modUlk f).uart = s.uart := rfl
@[simp] theorem State.modUlk_age (f : Ulk → Ulk) : (s.modUlk f).age = s.age := rfl
@[simp] theorem State.modUlk_hif (f : Ulk → Ulk) : (s.modUlk f).hif = s.hif := rfl
@[simp] theorem State.modUlk_lp (f : Ulk → Ulk) : (s.modUlk f).lp = s.lp := rfl
@[simp] theorem State.modUlk_dmd (f : Ulk → Ulk) : (s.modUlk f).dmd = s.dmd := rfl
@[simp] theorem State.modUlk_mac (f : Ulk → Ulk) : (s.modUlk f).mac = s.mac := rfl
@[simp] theorem State.modUlk_lgr (f : Ulk → Ulk) : (s.modUlk f).lgr = s.lgr := rfl
@[simp] theorem State.modUlk_pending (f : Ulk → Ulk) : (s.modUlk f).pending = s.pending := rfl

/-! ### modAge -/

@[simp] theorem State.modAge_time (f : Age → Age) : (s.modAge f).time = s.time := rfl
@[simp] theorem State.modAge_regs (f : Age → Age) : (s.modAge f).regs = s.regs := rfl
@[simp] theorem State.modAge_mem (f : Age → Age) : (s.modAge f).mem = s.mem := rfl
@[simp] theorem State.modAge_fills (f : Age → Age) : (s.modAge f).fills = s.fills := rfl
@[simp] theorem State.modAge_hostMem (f : Age → Age) : (s.modAge f).hostMem = s.hostMem := rfl
@[simp] theorem State.modAge_busOut (f : Age → Age) : (s.modAge f).busOut = s.busOut := rfl
@[simp] theorem State.modAge_spiOut (f : Age → Age) : (s.modAge f).spiOut = s.spiOut := rfl
@[simp] theorem State.modAge_freeCtr (f : Age → Age) : (s.modAge f).freeCtr = s.freeCtr := rfl
@[simp] theorem State.modAge_limits (f : Age → Age) : (s.modAge f).limits = s.limits := rfl
@[simp] theorem State.modAge_cycle (f : Age → Age) : (s.modAge f).cycle = s.cycle := rfl
@[simp] theorem State.modAge_grade (f : Age → Age) : (s.modAge f).grade = s.grade := rfl
@[simp] theorem State.modAge_otp (f : Age → Age) : (s.modAge f).otp = s.otp := rfl
@[simp] theorem State.modAge_sys (f : Age → Age) : (s.modAge f).sys = s.sys := rfl
@[simp] theorem State.modAge_evc (f : Age → Age) : (s.modAge f).evc = s.evc := rfl
@[simp] theorem State.modAge_cores (f : Age → Age) : (s.modAge f).cores = s.cores := rfl
@[simp] theorem State.modAge_memu (f : Age → Age) : (s.modAge f).memu = s.memu := rfl
@[simp] theorem State.modAge_key (f : Age → Age) : (s.modAge f).key = s.key := rfl
@[simp] theorem State.modAge_crc (f : Age → Age) : (s.modAge f).crc = s.crc := rfl
@[simp] theorem State.modAge_sec (f : Age → Age) : (s.modAge f).sec = s.sec := rfl
@[simp] theorem State.modAge_uart (f : Age → Age) : (s.modAge f).uart = s.uart := rfl
@[simp] theorem State.modAge_ulk (f : Age → Age) : (s.modAge f).ulk = s.ulk := rfl
@[simp] theorem State.modAge_hif (f : Age → Age) : (s.modAge f).hif = s.hif := rfl
@[simp] theorem State.modAge_lp (f : Age → Age) : (s.modAge f).lp = s.lp := rfl
@[simp] theorem State.modAge_dmd (f : Age → Age) : (s.modAge f).dmd = s.dmd := rfl
@[simp] theorem State.modAge_mac (f : Age → Age) : (s.modAge f).mac = s.mac := rfl
@[simp] theorem State.modAge_lgr (f : Age → Age) : (s.modAge f).lgr = s.lgr := rfl
@[simp] theorem State.modAge_pending (f : Age → Age) : (s.modAge f).pending = s.pending := rfl

/-! ### modSec -/

@[simp] theorem State.modSec_time (f : Sec → Sec) : (s.modSec f).time = s.time := rfl
@[simp] theorem State.modSec_regs (f : Sec → Sec) : (s.modSec f).regs = s.regs := rfl
@[simp] theorem State.modSec_mem (f : Sec → Sec) : (s.modSec f).mem = s.mem := rfl
@[simp] theorem State.modSec_fills (f : Sec → Sec) : (s.modSec f).fills = s.fills := rfl
@[simp] theorem State.modSec_hostMem (f : Sec → Sec) : (s.modSec f).hostMem = s.hostMem := rfl
@[simp] theorem State.modSec_busOut (f : Sec → Sec) : (s.modSec f).busOut = s.busOut := rfl
@[simp] theorem State.modSec_spiOut (f : Sec → Sec) : (s.modSec f).spiOut = s.spiOut := rfl
@[simp] theorem State.modSec_freeCtr (f : Sec → Sec) : (s.modSec f).freeCtr = s.freeCtr := rfl
@[simp] theorem State.modSec_limits (f : Sec → Sec) : (s.modSec f).limits = s.limits := rfl
@[simp] theorem State.modSec_cycle (f : Sec → Sec) : (s.modSec f).cycle = s.cycle := rfl
@[simp] theorem State.modSec_grade (f : Sec → Sec) : (s.modSec f).grade = s.grade := rfl
@[simp] theorem State.modSec_otp (f : Sec → Sec) : (s.modSec f).otp = s.otp := rfl
@[simp] theorem State.modSec_sys (f : Sec → Sec) : (s.modSec f).sys = s.sys := rfl
@[simp] theorem State.modSec_evc (f : Sec → Sec) : (s.modSec f).evc = s.evc := rfl
@[simp] theorem State.modSec_cores (f : Sec → Sec) : (s.modSec f).cores = s.cores := rfl
@[simp] theorem State.modSec_memu (f : Sec → Sec) : (s.modSec f).memu = s.memu := rfl
@[simp] theorem State.modSec_key (f : Sec → Sec) : (s.modSec f).key = s.key := rfl
@[simp] theorem State.modSec_crc (f : Sec → Sec) : (s.modSec f).crc = s.crc := rfl
@[simp] theorem State.modSec_uart (f : Sec → Sec) : (s.modSec f).uart = s.uart := rfl
@[simp] theorem State.modSec_age (f : Sec → Sec) : (s.modSec f).age = s.age := rfl
@[simp] theorem State.modSec_ulk (f : Sec → Sec) : (s.modSec f).ulk = s.ulk := rfl
@[simp] theorem State.modSec_hif (f : Sec → Sec) : (s.modSec f).hif = s.hif := rfl
@[simp] theorem State.modSec_lp (f : Sec → Sec) : (s.modSec f).lp = s.lp := rfl
@[simp] theorem State.modSec_dmd (f : Sec → Sec) : (s.modSec f).dmd = s.dmd := rfl
@[simp] theorem State.modSec_mac (f : Sec → Sec) : (s.modSec f).mac = s.mac := rfl
@[simp] theorem State.modSec_lgr (f : Sec → Sec) : (s.modSec f).lgr = s.lgr := rfl
@[simp] theorem State.modSec_pending (f : Sec → Sec) : (s.modSec f).pending = s.pending := rfl

/-! ### modSys -/

@[simp] theorem State.modSys_time (f : Sys → Sys) : (s.modSys f).time = s.time := rfl
@[simp] theorem State.modSys_regs (f : Sys → Sys) : (s.modSys f).regs = s.regs := rfl
@[simp] theorem State.modSys_mem (f : Sys → Sys) : (s.modSys f).mem = s.mem := rfl
@[simp] theorem State.modSys_fills (f : Sys → Sys) : (s.modSys f).fills = s.fills := rfl
@[simp] theorem State.modSys_hostMem (f : Sys → Sys) : (s.modSys f).hostMem = s.hostMem := rfl
@[simp] theorem State.modSys_busOut (f : Sys → Sys) : (s.modSys f).busOut = s.busOut := rfl
@[simp] theorem State.modSys_spiOut (f : Sys → Sys) : (s.modSys f).spiOut = s.spiOut := rfl
@[simp] theorem State.modSys_freeCtr (f : Sys → Sys) : (s.modSys f).freeCtr = s.freeCtr := rfl
@[simp] theorem State.modSys_limits (f : Sys → Sys) : (s.modSys f).limits = s.limits := rfl
@[simp] theorem State.modSys_cycle (f : Sys → Sys) : (s.modSys f).cycle = s.cycle := rfl
@[simp] theorem State.modSys_grade (f : Sys → Sys) : (s.modSys f).grade = s.grade := rfl
@[simp] theorem State.modSys_otp (f : Sys → Sys) : (s.modSys f).otp = s.otp := rfl
@[simp] theorem State.modSys_evc (f : Sys → Sys) : (s.modSys f).evc = s.evc := rfl
@[simp] theorem State.modSys_cores (f : Sys → Sys) : (s.modSys f).cores = s.cores := rfl
@[simp] theorem State.modSys_memu (f : Sys → Sys) : (s.modSys f).memu = s.memu := rfl
@[simp] theorem State.modSys_key (f : Sys → Sys) : (s.modSys f).key = s.key := rfl
@[simp] theorem State.modSys_crc (f : Sys → Sys) : (s.modSys f).crc = s.crc := rfl
@[simp] theorem State.modSys_sec (f : Sys → Sys) : (s.modSys f).sec = s.sec := rfl
@[simp] theorem State.modSys_uart (f : Sys → Sys) : (s.modSys f).uart = s.uart := rfl
@[simp] theorem State.modSys_age (f : Sys → Sys) : (s.modSys f).age = s.age := rfl
@[simp] theorem State.modSys_ulk (f : Sys → Sys) : (s.modSys f).ulk = s.ulk := rfl
@[simp] theorem State.modSys_hif (f : Sys → Sys) : (s.modSys f).hif = s.hif := rfl
@[simp] theorem State.modSys_lp (f : Sys → Sys) : (s.modSys f).lp = s.lp := rfl
@[simp] theorem State.modSys_dmd (f : Sys → Sys) : (s.modSys f).dmd = s.dmd := rfl
@[simp] theorem State.modSys_mac (f : Sys → Sys) : (s.modSys f).mac = s.mac := rfl
@[simp] theorem State.modSys_lgr (f : Sys → Sys) : (s.modSys f).lgr = s.lgr := rfl
@[simp] theorem State.modSys_pending (f : Sys → Sys) : (s.modSys f).pending = s.pending := rfl

/-! ### modKeyStore -/

@[simp] theorem State.modKeyStore_time (f : KeyStore → KeyStore) : (s.modKeyStore f).time = s.time := rfl
@[simp] theorem State.modKeyStore_regs (f : KeyStore → KeyStore) : (s.modKeyStore f).regs = s.regs := rfl
@[simp] theorem State.modKeyStore_mem (f : KeyStore → KeyStore) : (s.modKeyStore f).mem = s.mem := rfl
@[simp] theorem State.modKeyStore_fills (f : KeyStore → KeyStore) : (s.modKeyStore f).fills = s.fills := rfl
@[simp] theorem State.modKeyStore_hostMem (f : KeyStore → KeyStore) : (s.modKeyStore f).hostMem = s.hostMem := rfl
@[simp] theorem State.modKeyStore_busOut (f : KeyStore → KeyStore) : (s.modKeyStore f).busOut = s.busOut := rfl
@[simp] theorem State.modKeyStore_spiOut (f : KeyStore → KeyStore) : (s.modKeyStore f).spiOut = s.spiOut := rfl
@[simp] theorem State.modKeyStore_freeCtr (f : KeyStore → KeyStore) : (s.modKeyStore f).freeCtr = s.freeCtr := rfl
@[simp] theorem State.modKeyStore_limits (f : KeyStore → KeyStore) : (s.modKeyStore f).limits = s.limits := rfl
@[simp] theorem State.modKeyStore_cycle (f : KeyStore → KeyStore) : (s.modKeyStore f).cycle = s.cycle := rfl
@[simp] theorem State.modKeyStore_grade (f : KeyStore → KeyStore) : (s.modKeyStore f).grade = s.grade := rfl
@[simp] theorem State.modKeyStore_otp (f : KeyStore → KeyStore) : (s.modKeyStore f).otp = s.otp := rfl
@[simp] theorem State.modKeyStore_sys (f : KeyStore → KeyStore) : (s.modKeyStore f).sys = s.sys := rfl
@[simp] theorem State.modKeyStore_evc (f : KeyStore → KeyStore) : (s.modKeyStore f).evc = s.evc := rfl
@[simp] theorem State.modKeyStore_cores (f : KeyStore → KeyStore) : (s.modKeyStore f).cores = s.cores := rfl
@[simp] theorem State.modKeyStore_memu (f : KeyStore → KeyStore) : (s.modKeyStore f).memu = s.memu := rfl
@[simp] theorem State.modKeyStore_crc (f : KeyStore → KeyStore) : (s.modKeyStore f).crc = s.crc := rfl
@[simp] theorem State.modKeyStore_sec (f : KeyStore → KeyStore) : (s.modKeyStore f).sec = s.sec := rfl
@[simp] theorem State.modKeyStore_uart (f : KeyStore → KeyStore) : (s.modKeyStore f).uart = s.uart := rfl
@[simp] theorem State.modKeyStore_age (f : KeyStore → KeyStore) : (s.modKeyStore f).age = s.age := rfl
@[simp] theorem State.modKeyStore_ulk (f : KeyStore → KeyStore) : (s.modKeyStore f).ulk = s.ulk := rfl
@[simp] theorem State.modKeyStore_hif (f : KeyStore → KeyStore) : (s.modKeyStore f).hif = s.hif := rfl
@[simp] theorem State.modKeyStore_lp (f : KeyStore → KeyStore) : (s.modKeyStore f).lp = s.lp := rfl
@[simp] theorem State.modKeyStore_dmd (f : KeyStore → KeyStore) : (s.modKeyStore f).dmd = s.dmd := rfl
@[simp] theorem State.modKeyStore_mac (f : KeyStore → KeyStore) : (s.modKeyStore f).mac = s.mac := rfl
@[simp] theorem State.modKeyStore_lgr (f : KeyStore → KeyStore) : (s.modKeyStore f).lgr = s.lgr := rfl
@[simp] theorem State.modKeyStore_pending (f : KeyStore → KeyStore) : (s.modKeyStore f).pending = s.pending := rfl

/-! ### modUart -/

@[simp] theorem State.modUart_time (n : Fin 2) (f : Uart → Uart) : (s.modUart n f).time = s.time := rfl
@[simp] theorem State.modUart_regs (n : Fin 2) (f : Uart → Uart) : (s.modUart n f).regs = s.regs := rfl
@[simp] theorem State.modUart_mem (n : Fin 2) (f : Uart → Uart) : (s.modUart n f).mem = s.mem := rfl
@[simp] theorem State.modUart_fills (n : Fin 2) (f : Uart → Uart) : (s.modUart n f).fills = s.fills := rfl
@[simp] theorem State.modUart_hostMem (n : Fin 2) (f : Uart → Uart) : (s.modUart n f).hostMem = s.hostMem := rfl
@[simp] theorem State.modUart_busOut (n : Fin 2) (f : Uart → Uart) : (s.modUart n f).busOut = s.busOut := rfl
@[simp] theorem State.modUart_spiOut (n : Fin 2) (f : Uart → Uart) : (s.modUart n f).spiOut = s.spiOut := rfl
@[simp] theorem State.modUart_freeCtr (n : Fin 2) (f : Uart → Uart) : (s.modUart n f).freeCtr = s.freeCtr := rfl
@[simp] theorem State.modUart_limits (n : Fin 2) (f : Uart → Uart) : (s.modUart n f).limits = s.limits := rfl
@[simp] theorem State.modUart_cycle (n : Fin 2) (f : Uart → Uart) : (s.modUart n f).cycle = s.cycle := rfl
@[simp] theorem State.modUart_grade (n : Fin 2) (f : Uart → Uart) : (s.modUart n f).grade = s.grade := rfl
@[simp] theorem State.modUart_otp (n : Fin 2) (f : Uart → Uart) : (s.modUart n f).otp = s.otp := rfl
@[simp] theorem State.modUart_sys (n : Fin 2) (f : Uart → Uart) : (s.modUart n f).sys = s.sys := rfl
@[simp] theorem State.modUart_evc (n : Fin 2) (f : Uart → Uart) : (s.modUart n f).evc = s.evc := rfl
@[simp] theorem State.modUart_cores (n : Fin 2) (f : Uart → Uart) : (s.modUart n f).cores = s.cores := rfl
@[simp] theorem State.modUart_memu (n : Fin 2) (f : Uart → Uart) : (s.modUart n f).memu = s.memu := rfl
@[simp] theorem State.modUart_key (n : Fin 2) (f : Uart → Uart) : (s.modUart n f).key = s.key := rfl
@[simp] theorem State.modUart_crc (n : Fin 2) (f : Uart → Uart) : (s.modUart n f).crc = s.crc := rfl
@[simp] theorem State.modUart_sec (n : Fin 2) (f : Uart → Uart) : (s.modUart n f).sec = s.sec := rfl
@[simp] theorem State.modUart_age (n : Fin 2) (f : Uart → Uart) : (s.modUart n f).age = s.age := rfl
@[simp] theorem State.modUart_ulk (n : Fin 2) (f : Uart → Uart) : (s.modUart n f).ulk = s.ulk := rfl
@[simp] theorem State.modUart_hif (n : Fin 2) (f : Uart → Uart) : (s.modUart n f).hif = s.hif := rfl
@[simp] theorem State.modUart_lp (n : Fin 2) (f : Uart → Uart) : (s.modUart n f).lp = s.lp := rfl
@[simp] theorem State.modUart_dmd (n : Fin 2) (f : Uart → Uart) : (s.modUart n f).dmd = s.dmd := rfl
@[simp] theorem State.modUart_mac (n : Fin 2) (f : Uart → Uart) : (s.modUart n f).mac = s.mac := rfl
@[simp] theorem State.modUart_lgr (n : Fin 2) (f : Uart → Uart) : (s.modUart n f).lgr = s.lgr := rfl
@[simp] theorem State.modUart_pending (n : Fin 2) (f : Uart → Uart) : (s.modUart n f).pending = s.pending := rfl

/-! ### modRing -/

@[simp] theorem State.modRing_time (r : Fin 8) (f : Ring → Ring) : (s.modRing r f).time = s.time := rfl
@[simp] theorem State.modRing_regs (r : Fin 8) (f : Ring → Ring) : (s.modRing r f).regs = s.regs := rfl
@[simp] theorem State.modRing_mem (r : Fin 8) (f : Ring → Ring) : (s.modRing r f).mem = s.mem := rfl
@[simp] theorem State.modRing_fills (r : Fin 8) (f : Ring → Ring) : (s.modRing r f).fills = s.fills := rfl
@[simp] theorem State.modRing_hostMem (r : Fin 8) (f : Ring → Ring) : (s.modRing r f).hostMem = s.hostMem := rfl
@[simp] theorem State.modRing_busOut (r : Fin 8) (f : Ring → Ring) : (s.modRing r f).busOut = s.busOut := rfl
@[simp] theorem State.modRing_spiOut (r : Fin 8) (f : Ring → Ring) : (s.modRing r f).spiOut = s.spiOut := rfl
@[simp] theorem State.modRing_freeCtr (r : Fin 8) (f : Ring → Ring) : (s.modRing r f).freeCtr = s.freeCtr := rfl
@[simp] theorem State.modRing_limits (r : Fin 8) (f : Ring → Ring) : (s.modRing r f).limits = s.limits := rfl
@[simp] theorem State.modRing_cycle (r : Fin 8) (f : Ring → Ring) : (s.modRing r f).cycle = s.cycle := rfl
@[simp] theorem State.modRing_grade (r : Fin 8) (f : Ring → Ring) : (s.modRing r f).grade = s.grade := rfl
@[simp] theorem State.modRing_otp (r : Fin 8) (f : Ring → Ring) : (s.modRing r f).otp = s.otp := rfl
@[simp] theorem State.modRing_sys (r : Fin 8) (f : Ring → Ring) : (s.modRing r f).sys = s.sys := rfl
@[simp] theorem State.modRing_evc (r : Fin 8) (f : Ring → Ring) : (s.modRing r f).evc = s.evc := rfl
@[simp] theorem State.modRing_cores (r : Fin 8) (f : Ring → Ring) : (s.modRing r f).cores = s.cores := rfl
@[simp] theorem State.modRing_memu (r : Fin 8) (f : Ring → Ring) : (s.modRing r f).memu = s.memu := rfl
@[simp] theorem State.modRing_key (r : Fin 8) (f : Ring → Ring) : (s.modRing r f).key = s.key := rfl
@[simp] theorem State.modRing_crc (r : Fin 8) (f : Ring → Ring) : (s.modRing r f).crc = s.crc := rfl
@[simp] theorem State.modRing_sec (r : Fin 8) (f : Ring → Ring) : (s.modRing r f).sec = s.sec := rfl
@[simp] theorem State.modRing_uart (r : Fin 8) (f : Ring → Ring) : (s.modRing r f).uart = s.uart := rfl
@[simp] theorem State.modRing_age (r : Fin 8) (f : Ring → Ring) : (s.modRing r f).age = s.age := rfl
@[simp] theorem State.modRing_ulk (r : Fin 8) (f : Ring → Ring) : (s.modRing r f).ulk = s.ulk := rfl
@[simp] theorem State.modRing_lp (r : Fin 8) (f : Ring → Ring) : (s.modRing r f).lp = s.lp := rfl
@[simp] theorem State.modRing_dmd (r : Fin 8) (f : Ring → Ring) : (s.modRing r f).dmd = s.dmd := rfl
@[simp] theorem State.modRing_mac (r : Fin 8) (f : Ring → Ring) : (s.modRing r f).mac = s.mac := rfl
@[simp] theorem State.modRing_lgr (r : Fin 8) (f : Ring → Ring) : (s.modRing r f).lgr = s.lgr := rfl
@[simp] theorem State.modRing_pending (r : Fin 8) (f : Ring → Ring) : (s.modRing r f).pending = s.pending := rfl

/-! ### setSnoop -/

@[simp] theorem State.setSnoop_time (n : Fin 4) (p : Snoop) : (s.setSnoop n p).time = s.time := rfl
@[simp] theorem State.setSnoop_mem (n : Fin 4) (p : Snoop) : (s.setSnoop n p).mem = s.mem := rfl
@[simp] theorem State.setSnoop_fills (n : Fin 4) (p : Snoop) : (s.setSnoop n p).fills = s.fills := rfl
@[simp] theorem State.setSnoop_hostMem (n : Fin 4) (p : Snoop) : (s.setSnoop n p).hostMem = s.hostMem := rfl
@[simp] theorem State.setSnoop_busOut (n : Fin 4) (p : Snoop) : (s.setSnoop n p).busOut = s.busOut := rfl
@[simp] theorem State.setSnoop_spiOut (n : Fin 4) (p : Snoop) : (s.setSnoop n p).spiOut = s.spiOut := rfl
@[simp] theorem State.setSnoop_freeCtr (n : Fin 4) (p : Snoop) : (s.setSnoop n p).freeCtr = s.freeCtr := rfl
@[simp] theorem State.setSnoop_limits (n : Fin 4) (p : Snoop) : (s.setSnoop n p).limits = s.limits := rfl
@[simp] theorem State.setSnoop_cycle (n : Fin 4) (p : Snoop) : (s.setSnoop n p).cycle = s.cycle := rfl
@[simp] theorem State.setSnoop_grade (n : Fin 4) (p : Snoop) : (s.setSnoop n p).grade = s.grade := rfl
@[simp] theorem State.setSnoop_otp (n : Fin 4) (p : Snoop) : (s.setSnoop n p).otp = s.otp := rfl
@[simp] theorem State.setSnoop_sys (n : Fin 4) (p : Snoop) : (s.setSnoop n p).sys = s.sys := rfl
@[simp] theorem State.setSnoop_evc (n : Fin 4) (p : Snoop) : (s.setSnoop n p).evc = s.evc := rfl
@[simp] theorem State.setSnoop_cores (n : Fin 4) (p : Snoop) : (s.setSnoop n p).cores = s.cores := rfl
@[simp] theorem State.setSnoop_memu (n : Fin 4) (p : Snoop) : (s.setSnoop n p).memu = s.memu := rfl
@[simp] theorem State.setSnoop_key (n : Fin 4) (p : Snoop) : (s.setSnoop n p).key = s.key := rfl
@[simp] theorem State.setSnoop_sec (n : Fin 4) (p : Snoop) : (s.setSnoop n p).sec = s.sec := rfl
@[simp] theorem State.setSnoop_uart (n : Fin 4) (p : Snoop) : (s.setSnoop n p).uart = s.uart := rfl
@[simp] theorem State.setSnoop_age (n : Fin 4) (p : Snoop) : (s.setSnoop n p).age = s.age := rfl
@[simp] theorem State.setSnoop_ulk (n : Fin 4) (p : Snoop) : (s.setSnoop n p).ulk = s.ulk := rfl
@[simp] theorem State.setSnoop_hif (n : Fin 4) (p : Snoop) : (s.setSnoop n p).hif = s.hif := rfl
@[simp] theorem State.setSnoop_lp (n : Fin 4) (p : Snoop) : (s.setSnoop n p).lp = s.lp := rfl
@[simp] theorem State.setSnoop_dmd (n : Fin 4) (p : Snoop) : (s.setSnoop n p).dmd = s.dmd := rfl
@[simp] theorem State.setSnoop_mac (n : Fin 4) (p : Snoop) : (s.setSnoop n p).mac = s.mac := rfl
@[simp] theorem State.setSnoop_lgr (n : Fin 4) (p : Snoop) : (s.setSnoop n p).lgr = s.lgr := rfl
@[simp] theorem State.setSnoop_pending (n : Fin 4) (p : Snoop) : (s.setSnoop n p).pending = s.pending := rfl

/-! ### What is set -/

@[simp] theorem State.clearRange_fills (lo hi : Nat) (fs : List Fill) : (s.clearRange lo hi fs).fills = fs := rfl
@[simp] theorem State.drawn_freeCtr (n : Nat) : (s.drawn n).freeCtr = s.freeCtr + n := rfl
@[simp] theorem State.modCore_cores (k : CoreId) (f : Core → Core) : (s.modCore k f).cores = s.cores.set k (f s.cores[k]) := rfl
@[simp] theorem State.modMac_mac (f : Mac → Mac) : (s.modMac f).mac = f s.mac := rfl
@[simp] theorem State.modDmd_dmd (f : Dmd → Dmd) : (s.modDmd f).dmd = f s.dmd := rfl
@[simp] theorem State.modLgr_lgr (f : Ledger → Ledger) : (s.modLgr f).lgr = f s.lgr := rfl
@[simp] theorem State.modLp_lp (n : Port) (f : LpChain → LpChain) : (s.modLp n f).lp = s.lp.set n (f s.lp[n]) := rfl
@[simp] theorem State.modUlk_ulk (f : Ulk → Ulk) : (s.modUlk f).ulk = f s.ulk := rfl
@[simp] theorem State.modAge_age (f : Age → Age) : (s.modAge f).age = f s.age := rfl
@[simp] theorem State.modSec_sec (f : Sec → Sec) : (s.modSec f).sec = f s.sec := rfl
@[simp] theorem State.modSys_sys (f : Sys → Sys) : (s.modSys f).sys = f s.sys := rfl
@[simp] theorem State.modKeyStore_key (f : KeyStore → KeyStore) : (s.modKeyStore f).key = f s.key := rfl
@[simp] theorem State.modUart_uart (n : Fin 2) (f : Uart → Uart) : (s.modUart n f).uart = s.uart.set n (f s.uart[n]) := rfl

/-! ### Raising an event -/

@[simp] theorem State.holdEvent_time (e : Event) : (s.holdEvent e).time = s.time := by unfold State.holdEvent; split <;> rfl
@[simp] theorem State.holdEvent_mem (e : Event) : (s.holdEvent e).mem = s.mem := by unfold State.holdEvent; split <;> rfl
@[simp] theorem State.holdEvent_fills (e : Event) : (s.holdEvent e).fills = s.fills := by unfold State.holdEvent; split <;> rfl
@[simp] theorem State.holdEvent_hostMem (e : Event) : (s.holdEvent e).hostMem = s.hostMem := by unfold State.holdEvent; split <;> rfl
@[simp] theorem State.holdEvent_busOut (e : Event) : (s.holdEvent e).busOut = s.busOut := by unfold State.holdEvent; split <;> rfl
@[simp] theorem State.holdEvent_spiOut (e : Event) : (s.holdEvent e).spiOut = s.spiOut := by unfold State.holdEvent; split <;> rfl
@[simp] theorem State.holdEvent_freeCtr (e : Event) : (s.holdEvent e).freeCtr = s.freeCtr := by unfold State.holdEvent; split <;> rfl
@[simp] theorem State.holdEvent_limits (e : Event) : (s.holdEvent e).limits = s.limits := by unfold State.holdEvent; split <;> rfl
@[simp] theorem State.holdEvent_grade (e : Event) : (s.holdEvent e).grade = s.grade := by unfold State.holdEvent; split <;> rfl
@[simp] theorem State.holdEvent_otp (e : Event) : (s.holdEvent e).otp = s.otp := by unfold State.holdEvent; split <;> rfl
@[simp] theorem State.holdEvent_sys (e : Event) : (s.holdEvent e).sys = s.sys := by unfold State.holdEvent; split <;> rfl
@[simp] theorem State.holdEvent_cores (e : Event) : (s.holdEvent e).cores = s.cores := by unfold State.holdEvent; split <;> rfl
@[simp] theorem State.holdEvent_memu (e : Event) : (s.holdEvent e).memu = s.memu := by unfold State.holdEvent; split <;> rfl
@[simp] theorem State.holdEvent_key (e : Event) : (s.holdEvent e).key = s.key := by unfold State.holdEvent; split <;> rfl
@[simp] theorem State.holdEvent_crc (e : Event) : (s.holdEvent e).crc = s.crc := by unfold State.holdEvent; split <;> rfl
@[simp] theorem State.holdEvent_sec (e : Event) : (s.holdEvent e).sec = s.sec := by unfold State.holdEvent; split <;> rfl
@[simp] theorem State.holdEvent_uart (e : Event) : (s.holdEvent e).uart = s.uart := by unfold State.holdEvent; split <;> rfl
@[simp] theorem State.holdEvent_age (e : Event) : (s.holdEvent e).age = s.age := by unfold State.holdEvent; split <;> rfl
@[simp] theorem State.holdEvent_ulk (e : Event) : (s.holdEvent e).ulk = s.ulk := by unfold State.holdEvent; split <;> rfl
@[simp] theorem State.holdEvent_hif (e : Event) : (s.holdEvent e).hif = s.hif := by unfold State.holdEvent; split <;> rfl
@[simp] theorem State.holdEvent_lp (e : Event) : (s.holdEvent e).lp = s.lp := by unfold State.holdEvent; split <;> rfl
@[simp] theorem State.holdEvent_dmd (e : Event) : (s.holdEvent e).dmd = s.dmd := by unfold State.holdEvent; split <;> rfl
@[simp] theorem State.holdEvent_mac (e : Event) : (s.holdEvent e).mac = s.mac := by unfold State.holdEvent; split <;> rfl
@[simp] theorem State.holdEvent_lgr (e : Event) : (s.holdEvent e).lgr = s.lgr := by unfold State.holdEvent; split <;> rfl
@[simp] theorem State.holdEvent_pending (e : Event) : (s.holdEvent e).pending = s.pending := by unfold State.holdEvent; split <;> rfl

@[simp] theorem State.raise_time (c : BitVec 12) (src : Nat) (x : Word) (aux : Nat) : (s.raise c src x aux).time = s.time := by simp [State.raise, State.tallyEvent]
@[simp] theorem State.raise_mem (c : BitVec 12) (src : Nat) (x : Word) (aux : Nat) : (s.raise c src x aux).mem = s.mem := by simp [State.raise, State.tallyEvent]
@[simp] theorem State.raise_fills (c : BitVec 12) (src : Nat) (x : Word) (aux : Nat) : (s.raise c src x aux).fills = s.fills := by simp [State.raise, State.tallyEvent]
@[simp] theorem State.raise_hostMem (c : BitVec 12) (src : Nat) (x : Word) (aux : Nat) : (s.raise c src x aux).hostMem = s.hostMem := by simp [State.raise, State.tallyEvent]
@[simp] theorem State.raise_busOut (c : BitVec 12) (src : Nat) (x : Word) (aux : Nat) : (s.raise c src x aux).busOut = s.busOut := by simp [State.raise, State.tallyEvent]
@[simp] theorem State.raise_spiOut (c : BitVec 12) (src : Nat) (x : Word) (aux : Nat) : (s.raise c src x aux).spiOut = s.spiOut := by simp [State.raise, State.tallyEvent]
@[simp] theorem State.raise_freeCtr (c : BitVec 12) (src : Nat) (x : Word) (aux : Nat) : (s.raise c src x aux).freeCtr = s.freeCtr := by simp [State.raise, State.tallyEvent]
@[simp] theorem State.raise_limits (c : BitVec 12) (src : Nat) (x : Word) (aux : Nat) : (s.raise c src x aux).limits = s.limits := by simp [State.raise, State.tallyEvent]
@[simp] theorem State.raise_grade (c : BitVec 12) (src : Nat) (x : Word) (aux : Nat) : (s.raise c src x aux).grade = s.grade := by simp [State.raise, State.tallyEvent]
@[simp] theorem State.raise_otp (c : BitVec 12) (src : Nat) (x : Word) (aux : Nat) : (s.raise c src x aux).otp = s.otp := by simp [State.raise, State.tallyEvent]
@[simp] theorem State.raise_sys (c : BitVec 12) (src : Nat) (x : Word) (aux : Nat) : (s.raise c src x aux).sys = s.sys := by simp [State.raise, State.tallyEvent]
@[simp] theorem State.raise_cores (c : BitVec 12) (src : Nat) (x : Word) (aux : Nat) : (s.raise c src x aux).cores = s.cores := by simp [State.raise, State.tallyEvent]
@[simp] theorem State.raise_memu (c : BitVec 12) (src : Nat) (x : Word) (aux : Nat) : (s.raise c src x aux).memu = s.memu := by simp [State.raise, State.tallyEvent]
@[simp] theorem State.raise_key (c : BitVec 12) (src : Nat) (x : Word) (aux : Nat) : (s.raise c src x aux).key = s.key := by simp [State.raise, State.tallyEvent]
@[simp] theorem State.raise_crc (c : BitVec 12) (src : Nat) (x : Word) (aux : Nat) : (s.raise c src x aux).crc = s.crc := by simp [State.raise, State.tallyEvent]
@[simp] theorem State.raise_sec (c : BitVec 12) (src : Nat) (x : Word) (aux : Nat) : (s.raise c src x aux).sec = s.sec := by simp [State.raise, State.tallyEvent]
@[simp] theorem State.raise_uart (c : BitVec 12) (src : Nat) (x : Word) (aux : Nat) : (s.raise c src x aux).uart = s.uart := by simp [State.raise, State.tallyEvent]
@[simp] theorem State.raise_age (c : BitVec 12) (src : Nat) (x : Word) (aux : Nat) : (s.raise c src x aux).age = s.age := by simp [State.raise, State.tallyEvent]
@[simp] theorem State.raise_ulk (c : BitVec 12) (src : Nat) (x : Word) (aux : Nat) : (s.raise c src x aux).ulk = s.ulk := by simp [State.raise, State.tallyEvent]
@[simp] theorem State.raise_hif (c : BitVec 12) (src : Nat) (x : Word) (aux : Nat) : (s.raise c src x aux).hif = s.hif := by simp [State.raise, State.tallyEvent]
@[simp] theorem State.raise_lp (c : BitVec 12) (src : Nat) (x : Word) (aux : Nat) : (s.raise c src x aux).lp = s.lp := by simp [State.raise, State.tallyEvent]
@[simp] theorem State.raise_dmd (c : BitVec 12) (src : Nat) (x : Word) (aux : Nat) : (s.raise c src x aux).dmd = s.dmd := by simp [State.raise, State.tallyEvent]
@[simp] theorem State.raise_mac (c : BitVec 12) (src : Nat) (x : Word) (aux : Nat) : (s.raise c src x aux).mac = s.mac := by simp [State.raise, State.tallyEvent]
@[simp] theorem State.raise_lgr (c : BitVec 12) (src : Nat) (x : Word) (aux : Nat) : (s.raise c src x aux).lgr = s.lgr := by simp [State.raise, State.tallyEvent]
@[simp] theorem State.raise_pending (c : BitVec 12) (src : Nat) (x : Word) (aux : Nat) : (s.raise c src x aux).pending = s.pending := by simp [State.raise, State.tallyEvent]

@[simp] theorem State.raiseTo_time (c : BitVec 12) (src : Nat) (x : Word) (aux : Nat) (m : BitVec 8) (t : BitVec 48) : (s.raiseTo c src x aux m t).time = s.time := by simp [State.raiseTo, State.tallyEvent]
@[simp] theorem State.raiseTo_mem (c : BitVec 12) (src : Nat) (x : Word) (aux : Nat) (m : BitVec 8) (t : BitVec 48) : (s.raiseTo c src x aux m t).mem = s.mem := by simp [State.raiseTo, State.tallyEvent]
@[simp] theorem State.raiseTo_fills (c : BitVec 12) (src : Nat) (x : Word) (aux : Nat) (m : BitVec 8) (t : BitVec 48) : (s.raiseTo c src x aux m t).fills = s.fills := by simp [State.raiseTo, State.tallyEvent]
@[simp] theorem State.raiseTo_hostMem (c : BitVec 12) (src : Nat) (x : Word) (aux : Nat) (m : BitVec 8) (t : BitVec 48) : (s.raiseTo c src x aux m t).hostMem = s.hostMem := by simp [State.raiseTo, State.tallyEvent]
@[simp] theorem State.raiseTo_busOut (c : BitVec 12) (src : Nat) (x : Word) (aux : Nat) (m : BitVec 8) (t : BitVec 48) : (s.raiseTo c src x aux m t).busOut = s.busOut := by simp [State.raiseTo, State.tallyEvent]
@[simp] theorem State.raiseTo_spiOut (c : BitVec 12) (src : Nat) (x : Word) (aux : Nat) (m : BitVec 8) (t : BitVec 48) : (s.raiseTo c src x aux m t).spiOut = s.spiOut := by simp [State.raiseTo, State.tallyEvent]
@[simp] theorem State.raiseTo_freeCtr (c : BitVec 12) (src : Nat) (x : Word) (aux : Nat) (m : BitVec 8) (t : BitVec 48) : (s.raiseTo c src x aux m t).freeCtr = s.freeCtr := by simp [State.raiseTo, State.tallyEvent]
@[simp] theorem State.raiseTo_limits (c : BitVec 12) (src : Nat) (x : Word) (aux : Nat) (m : BitVec 8) (t : BitVec 48) : (s.raiseTo c src x aux m t).limits = s.limits := by simp [State.raiseTo, State.tallyEvent]
@[simp] theorem State.raiseTo_grade (c : BitVec 12) (src : Nat) (x : Word) (aux : Nat) (m : BitVec 8) (t : BitVec 48) : (s.raiseTo c src x aux m t).grade = s.grade := by simp [State.raiseTo, State.tallyEvent]
@[simp] theorem State.raiseTo_otp (c : BitVec 12) (src : Nat) (x : Word) (aux : Nat) (m : BitVec 8) (t : BitVec 48) : (s.raiseTo c src x aux m t).otp = s.otp := by simp [State.raiseTo, State.tallyEvent]
@[simp] theorem State.raiseTo_sys (c : BitVec 12) (src : Nat) (x : Word) (aux : Nat) (m : BitVec 8) (t : BitVec 48) : (s.raiseTo c src x aux m t).sys = s.sys := by simp [State.raiseTo, State.tallyEvent]
@[simp] theorem State.raiseTo_cores (c : BitVec 12) (src : Nat) (x : Word) (aux : Nat) (m : BitVec 8) (t : BitVec 48) : (s.raiseTo c src x aux m t).cores = s.cores := by simp [State.raiseTo, State.tallyEvent]
@[simp] theorem State.raiseTo_memu (c : BitVec 12) (src : Nat) (x : Word) (aux : Nat) (m : BitVec 8) (t : BitVec 48) : (s.raiseTo c src x aux m t).memu = s.memu := by simp [State.raiseTo, State.tallyEvent]
@[simp] theorem State.raiseTo_key (c : BitVec 12) (src : Nat) (x : Word) (aux : Nat) (m : BitVec 8) (t : BitVec 48) : (s.raiseTo c src x aux m t).key = s.key := by simp [State.raiseTo, State.tallyEvent]
@[simp] theorem State.raiseTo_crc (c : BitVec 12) (src : Nat) (x : Word) (aux : Nat) (m : BitVec 8) (t : BitVec 48) : (s.raiseTo c src x aux m t).crc = s.crc := by simp [State.raiseTo, State.tallyEvent]
@[simp] theorem State.raiseTo_sec (c : BitVec 12) (src : Nat) (x : Word) (aux : Nat) (m : BitVec 8) (t : BitVec 48) : (s.raiseTo c src x aux m t).sec = s.sec := by simp [State.raiseTo, State.tallyEvent]
@[simp] theorem State.raiseTo_uart (c : BitVec 12) (src : Nat) (x : Word) (aux : Nat) (m : BitVec 8) (t : BitVec 48) : (s.raiseTo c src x aux m t).uart = s.uart := by simp [State.raiseTo, State.tallyEvent]
@[simp] theorem State.raiseTo_age (c : BitVec 12) (src : Nat) (x : Word) (aux : Nat) (m : BitVec 8) (t : BitVec 48) : (s.raiseTo c src x aux m t).age = s.age := by simp [State.raiseTo, State.tallyEvent]
@[simp] theorem State.raiseTo_ulk (c : BitVec 12) (src : Nat) (x : Word) (aux : Nat) (m : BitVec 8) (t : BitVec 48) : (s.raiseTo c src x aux m t).ulk = s.ulk := by simp [State.raiseTo, State.tallyEvent]
@[simp] theorem State.raiseTo_hif (c : BitVec 12) (src : Nat) (x : Word) (aux : Nat) (m : BitVec 8) (t : BitVec 48) : (s.raiseTo c src x aux m t).hif = s.hif := by simp [State.raiseTo, State.tallyEvent]
@[simp] theorem State.raiseTo_lp (c : BitVec 12) (src : Nat) (x : Word) (aux : Nat) (m : BitVec 8) (t : BitVec 48) : (s.raiseTo c src x aux m t).lp = s.lp := by simp [State.raiseTo, State.tallyEvent]
@[simp] theorem State.raiseTo_dmd (c : BitVec 12) (src : Nat) (x : Word) (aux : Nat) (m : BitVec 8) (t : BitVec 48) : (s.raiseTo c src x aux m t).dmd = s.dmd := by simp [State.raiseTo, State.tallyEvent]
@[simp] theorem State.raiseTo_mac (c : BitVec 12) (src : Nat) (x : Word) (aux : Nat) (m : BitVec 8) (t : BitVec 48) : (s.raiseTo c src x aux m t).mac = s.mac := by simp [State.raiseTo, State.tallyEvent]
@[simp] theorem State.raiseTo_lgr (c : BitVec 12) (src : Nat) (x : Word) (aux : Nat) (m : BitVec 8) (t : BitVec 48) : (s.raiseTo c src x aux m t).lgr = s.lgr := by simp [State.raiseTo, State.tallyEvent]
@[simp] theorem State.raiseTo_pending (c : BitVec 12) (src : Nat) (x : Word) (aux : Nat) (m : BitVec 8) (t : BitVec 48) : (s.raiseTo c src x aux m t).pending = s.pending := by simp [State.raiseTo, State.tallyEvent]

/-! ### Bytes -/

@[simp] theorem State.setBytes_time (a : Nat) (bs : List Byte) : (s.setBytes a bs).time = s.time := by
  induction bs generalizing s a with
  | nil => rfl
  | cons b bs ih => simp [State.setBytes, ih]
@[simp] theorem State.setBytes_regs (a : Nat) (bs : List Byte) : (s.setBytes a bs).regs = s.regs := by
  induction bs generalizing s a with
  | nil => rfl
  | cons b bs ih => simp [State.setBytes, ih]
@[simp] theorem State.setBytes_fills (a : Nat) (bs : List Byte) : (s.setBytes a bs).fills = s.fills := by
  induction bs generalizing s a with
  | nil => rfl
  | cons b bs ih => simp [State.setBytes, ih]
@[simp] theorem State.setBytes_hostMem (a : Nat) (bs : List Byte) : (s.setBytes a bs).hostMem = s.hostMem := by
  induction bs generalizing s a with
  | nil => rfl
  | cons b bs ih => simp [State.setBytes, ih]
@[simp] theorem State.setBytes_busOut (a : Nat) (bs : List Byte) : (s.setBytes a bs).busOut = s.busOut := by
  induction bs generalizing s a with
  | nil => rfl
  | cons b bs ih => simp [State.setBytes, ih]
@[simp] theorem State.setBytes_spiOut (a : Nat) (bs : List Byte) : (s.setBytes a bs).spiOut = s.spiOut := by
  induction bs generalizing s a with
  | nil => rfl
  | cons b bs ih => simp [State.setBytes, ih]
@[simp] theorem State.setBytes_freeCtr (a : Nat) (bs : List Byte) : (s.setBytes a bs).freeCtr = s.freeCtr := by
  induction bs generalizing s a with
  | nil => rfl
  | cons b bs ih => simp [State.setBytes, ih]
@[simp] theorem State.setBytes_limits (a : Nat) (bs : List Byte) : (s.setBytes a bs).limits = s.limits := by
  induction bs generalizing s a with
  | nil => rfl
  | cons b bs ih => simp [State.setBytes, ih]
@[simp] theorem State.setBytes_cycle (a : Nat) (bs : List Byte) : (s.setBytes a bs).cycle = s.cycle := by
  induction bs generalizing s a with
  | nil => rfl
  | cons b bs ih => simp [State.setBytes, ih]
@[simp] theorem State.setBytes_grade (a : Nat) (bs : List Byte) : (s.setBytes a bs).grade = s.grade := by
  induction bs generalizing s a with
  | nil => rfl
  | cons b bs ih => simp [State.setBytes, ih]
@[simp] theorem State.setBytes_otp (a : Nat) (bs : List Byte) : (s.setBytes a bs).otp = s.otp := by
  induction bs generalizing s a with
  | nil => rfl
  | cons b bs ih => simp [State.setBytes, ih]
@[simp] theorem State.setBytes_sys (a : Nat) (bs : List Byte) : (s.setBytes a bs).sys = s.sys := by
  induction bs generalizing s a with
  | nil => rfl
  | cons b bs ih => simp [State.setBytes, ih]
@[simp] theorem State.setBytes_evc (a : Nat) (bs : List Byte) : (s.setBytes a bs).evc = s.evc := by
  induction bs generalizing s a with
  | nil => rfl
  | cons b bs ih => simp [State.setBytes, ih]
@[simp] theorem State.setBytes_cores (a : Nat) (bs : List Byte) : (s.setBytes a bs).cores = s.cores := by
  induction bs generalizing s a with
  | nil => rfl
  | cons b bs ih => simp [State.setBytes, ih]
@[simp] theorem State.setBytes_memu (a : Nat) (bs : List Byte) : (s.setBytes a bs).memu = s.memu := by
  induction bs generalizing s a with
  | nil => rfl
  | cons b bs ih => simp [State.setBytes, ih]
@[simp] theorem State.setBytes_key (a : Nat) (bs : List Byte) : (s.setBytes a bs).key = s.key := by
  induction bs generalizing s a with
  | nil => rfl
  | cons b bs ih => simp [State.setBytes, ih]
@[simp] theorem State.setBytes_crc (a : Nat) (bs : List Byte) : (s.setBytes a bs).crc = s.crc := by
  induction bs generalizing s a with
  | nil => rfl
  | cons b bs ih => simp [State.setBytes, ih]
@[simp] theorem State.setBytes_sec (a : Nat) (bs : List Byte) : (s.setBytes a bs).sec = s.sec := by
  induction bs generalizing s a with
  | nil => rfl
  | cons b bs ih => simp [State.setBytes, ih]
@[simp] theorem State.setBytes_uart (a : Nat) (bs : List Byte) : (s.setBytes a bs).uart = s.uart := by
  induction bs generalizing s a with
  | nil => rfl
  | cons b bs ih => simp [State.setBytes, ih]
@[simp] theorem State.setBytes_age (a : Nat) (bs : List Byte) : (s.setBytes a bs).age = s.age := by
  induction bs generalizing s a with
  | nil => rfl
  | cons b bs ih => simp [State.setBytes, ih]
@[simp] theorem State.setBytes_ulk (a : Nat) (bs : List Byte) : (s.setBytes a bs).ulk = s.ulk := by
  induction bs generalizing s a with
  | nil => rfl
  | cons b bs ih => simp [State.setBytes, ih]
@[simp] theorem State.setBytes_hif (a : Nat) (bs : List Byte) : (s.setBytes a bs).hif = s.hif := by
  induction bs generalizing s a with
  | nil => rfl
  | cons b bs ih => simp [State.setBytes, ih]
@[simp] theorem State.setBytes_lp (a : Nat) (bs : List Byte) : (s.setBytes a bs).lp = s.lp := by
  induction bs generalizing s a with
  | nil => rfl
  | cons b bs ih => simp [State.setBytes, ih]
@[simp] theorem State.setBytes_dmd (a : Nat) (bs : List Byte) : (s.setBytes a bs).dmd = s.dmd := by
  induction bs generalizing s a with
  | nil => rfl
  | cons b bs ih => simp [State.setBytes, ih]
@[simp] theorem State.setBytes_mac (a : Nat) (bs : List Byte) : (s.setBytes a bs).mac = s.mac := by
  induction bs generalizing s a with
  | nil => rfl
  | cons b bs ih => simp [State.setBytes, ih]
@[simp] theorem State.setBytes_lgr (a : Nat) (bs : List Byte) : (s.setBytes a bs).lgr = s.lgr := by
  induction bs generalizing s a with
  | nil => rfl
  | cons b bs ih => simp [State.setBytes, ih]
@[simp] theorem State.setBytes_pending (a : Nat) (bs : List Byte) : (s.setBytes a bs).pending = s.pending := by
  induction bs generalizing s a with
  | nil => rfl
  | cons b bs ih => simp [State.setBytes, ih]

@[simp] theorem State.setHostBytes_time (a : Nat) (bs : List Byte) : (s.setHostBytes a bs).time = s.time := by
  induction bs generalizing s a with
  | nil => rfl
  | cons b bs ih => simp [State.setHostBytes, ih]
@[simp] theorem State.setHostBytes_regs (a : Nat) (bs : List Byte) : (s.setHostBytes a bs).regs = s.regs := by
  induction bs generalizing s a with
  | nil => rfl
  | cons b bs ih => simp [State.setHostBytes, ih]
@[simp] theorem State.setHostBytes_mem (a : Nat) (bs : List Byte) : (s.setHostBytes a bs).mem = s.mem := by
  induction bs generalizing s a with
  | nil => rfl
  | cons b bs ih => simp [State.setHostBytes, ih]
@[simp] theorem State.setHostBytes_fills (a : Nat) (bs : List Byte) : (s.setHostBytes a bs).fills = s.fills := by
  induction bs generalizing s a with
  | nil => rfl
  | cons b bs ih => simp [State.setHostBytes, ih]
@[simp] theorem State.setHostBytes_busOut (a : Nat) (bs : List Byte) : (s.setHostBytes a bs).busOut = s.busOut := by
  induction bs generalizing s a with
  | nil => rfl
  | cons b bs ih => simp [State.setHostBytes, ih]
@[simp] theorem State.setHostBytes_spiOut (a : Nat) (bs : List Byte) : (s.setHostBytes a bs).spiOut = s.spiOut := by
  induction bs generalizing s a with
  | nil => rfl
  | cons b bs ih => simp [State.setHostBytes, ih]
@[simp] theorem State.setHostBytes_freeCtr (a : Nat) (bs : List Byte) : (s.setHostBytes a bs).freeCtr = s.freeCtr := by
  induction bs generalizing s a with
  | nil => rfl
  | cons b bs ih => simp [State.setHostBytes, ih]
@[simp] theorem State.setHostBytes_limits (a : Nat) (bs : List Byte) : (s.setHostBytes a bs).limits = s.limits := by
  induction bs generalizing s a with
  | nil => rfl
  | cons b bs ih => simp [State.setHostBytes, ih]
@[simp] theorem State.setHostBytes_cycle (a : Nat) (bs : List Byte) : (s.setHostBytes a bs).cycle = s.cycle := by
  induction bs generalizing s a with
  | nil => rfl
  | cons b bs ih => simp [State.setHostBytes, ih]
@[simp] theorem State.setHostBytes_grade (a : Nat) (bs : List Byte) : (s.setHostBytes a bs).grade = s.grade := by
  induction bs generalizing s a with
  | nil => rfl
  | cons b bs ih => simp [State.setHostBytes, ih]
@[simp] theorem State.setHostBytes_otp (a : Nat) (bs : List Byte) : (s.setHostBytes a bs).otp = s.otp := by
  induction bs generalizing s a with
  | nil => rfl
  | cons b bs ih => simp [State.setHostBytes, ih]
@[simp] theorem State.setHostBytes_sys (a : Nat) (bs : List Byte) : (s.setHostBytes a bs).sys = s.sys := by
  induction bs generalizing s a with
  | nil => rfl
  | cons b bs ih => simp [State.setHostBytes, ih]
@[simp] theorem State.setHostBytes_evc (a : Nat) (bs : List Byte) : (s.setHostBytes a bs).evc = s.evc := by
  induction bs generalizing s a with
  | nil => rfl
  | cons b bs ih => simp [State.setHostBytes, ih]
@[simp] theorem State.setHostBytes_cores (a : Nat) (bs : List Byte) : (s.setHostBytes a bs).cores = s.cores := by
  induction bs generalizing s a with
  | nil => rfl
  | cons b bs ih => simp [State.setHostBytes, ih]
@[simp] theorem State.setHostBytes_memu (a : Nat) (bs : List Byte) : (s.setHostBytes a bs).memu = s.memu := by
  induction bs generalizing s a with
  | nil => rfl
  | cons b bs ih => simp [State.setHostBytes, ih]
@[simp] theorem State.setHostBytes_key (a : Nat) (bs : List Byte) : (s.setHostBytes a bs).key = s.key := by
  induction bs generalizing s a with
  | nil => rfl
  | cons b bs ih => simp [State.setHostBytes, ih]
@[simp] theorem State.setHostBytes_crc (a : Nat) (bs : List Byte) : (s.setHostBytes a bs).crc = s.crc := by
  induction bs generalizing s a with
  | nil => rfl
  | cons b bs ih => simp [State.setHostBytes, ih]
@[simp] theorem State.setHostBytes_sec (a : Nat) (bs : List Byte) : (s.setHostBytes a bs).sec = s.sec := by
  induction bs generalizing s a with
  | nil => rfl
  | cons b bs ih => simp [State.setHostBytes, ih]
@[simp] theorem State.setHostBytes_uart (a : Nat) (bs : List Byte) : (s.setHostBytes a bs).uart = s.uart := by
  induction bs generalizing s a with
  | nil => rfl
  | cons b bs ih => simp [State.setHostBytes, ih]
@[simp] theorem State.setHostBytes_age (a : Nat) (bs : List Byte) : (s.setHostBytes a bs).age = s.age := by
  induction bs generalizing s a with
  | nil => rfl
  | cons b bs ih => simp [State.setHostBytes, ih]
@[simp] theorem State.setHostBytes_ulk (a : Nat) (bs : List Byte) : (s.setHostBytes a bs).ulk = s.ulk := by
  induction bs generalizing s a with
  | nil => rfl
  | cons b bs ih => simp [State.setHostBytes, ih]
@[simp] theorem State.setHostBytes_hif (a : Nat) (bs : List Byte) : (s.setHostBytes a bs).hif = s.hif := by
  induction bs generalizing s a with
  | nil => rfl
  | cons b bs ih => simp [State.setHostBytes, ih]
@[simp] theorem State.setHostBytes_lp (a : Nat) (bs : List Byte) : (s.setHostBytes a bs).lp = s.lp := by
  induction bs generalizing s a with
  | nil => rfl
  | cons b bs ih => simp [State.setHostBytes, ih]
@[simp] theorem State.setHostBytes_dmd (a : Nat) (bs : List Byte) : (s.setHostBytes a bs).dmd = s.dmd := by
  induction bs generalizing s a with
  | nil => rfl
  | cons b bs ih => simp [State.setHostBytes, ih]
@[simp] theorem State.setHostBytes_mac (a : Nat) (bs : List Byte) : (s.setHostBytes a bs).mac = s.mac := by
  induction bs generalizing s a with
  | nil => rfl
  | cons b bs ih => simp [State.setHostBytes, ih]
@[simp] theorem State.setHostBytes_lgr (a : Nat) (bs : List Byte) : (s.setHostBytes a bs).lgr = s.lgr := by
  induction bs generalizing s a with
  | nil => rfl
  | cons b bs ih => simp [State.setHostBytes, ih]
@[simp] theorem State.setHostBytes_pending (a : Nat) (bs : List Byte) : (s.setHostBytes a bs).pending = s.pending := by
  induction bs generalizing s a with
  | nil => rfl
  | cons b bs ih => simp [State.setHostBytes, ih]

end Sys2Proof.Machine
end

