-- ==== Sys2Proof/Laws/Ops.lean ====
section
/-! SUPPORT. Laws of the shared operations on registers, fields and memory. -/

namespace Sys2Proof.Machine

/-! ### Registers -/

theorem State.reg_setReg (s : State) (a b : Nat) (v : Word) : (s.setReg a v).reg b = if b = a then v else s.reg b :=
  sget_sset regReset s.regs a b v

@[simp] theorem State.reg_setReg_same (s : State) (a : Nat) (v : Word) : (s.setReg a v).reg a = v := by
  simp [State.reg_setReg]

theorem State.reg_setReg_ne (s : State) {a b : Nat} (v : Word) (h : b ≠ a) : (s.setReg a v).reg b = s.reg b := by
  simp [State.reg_setReg, h]

theorem State.regsWf_setReg {s : State} (h : s.regsWf = true) (a : Nat) (v : Word) : (s.setReg a v).regsWf = true :=
  swf_sset regReset h a v

@[simp] theorem State.reg_setFld_same (s : State) (f : Field) (v : Nat) :
    (s.setFld f v).reg f.addr = putBits (s.reg f.addr) f.hi f.lo v := by simp [State.setFld]

theorem State.reg_setFld_ne (s : State) {f : Field} {a : Nat} (v : Nat) (h : a ≠ f.addr) : (s.setFld f v).reg a = s.reg a := by
  simp [State.setFld, State.reg_setReg, h]

/-- A field of a register that is not written keeps its value. -/
theorem State.fld_setReg_ne (s : State) {f : Field} {a : Nat} (v : Word) (h : f.addr ≠ a) : (s.setReg a v).fld f = s.fld f := by
  simp [State.fld, State.reg_setReg, h]

theorem State.fld_setFld_ne (s : State) {f g : Field} (v : Nat) (h : f.addr ≠ g.addr) : (s.setFld g v).fld f = s.fld f := by
  simp [State.fld, State.reg_setFld_ne s v h]

theorem State.fld_setReg_same (s : State) (f : Field) (v : Word) : (s.setReg f.addr v).fld f = natBits v.toNat f.hi f.lo := by
  simp [State.fld]

/-! ### Memory -/

theorem State.byte_setByte (s : State) (a x : Nat) (b : Byte) : (s.setByte a b).byte x = if x = a then b else s.byte x :=
  sget_sset (memDefault s.fills) s.mem a x b

/-- Bytes outside those stored are unchanged. -/
theorem State.byte_setBytes_out (s : State) (a x : Nat) (bs : List Byte) (h : x < a ∨ a + bs.length ≤ x) :
    (s.setBytes a bs).byte x = s.byte x := by
  induction bs generalizing s a with
  | nil => rfl
  | cons b bs ih =>
    simp only [List.length_cons] at h
    have hx : x ≠ a := by omega
    rw [State.setBytes, ih, State.byte_setByte]
    · simp [hx]
    · omega

/-- A stored byte reads back. -/
theorem State.byte_setBytes_in (s : State) (a i : Nat) (bs : List Byte) (h : i < bs.length) :
    (s.setBytes a bs).byte (a + i) = bs[i] := by
  induction bs generalizing s a i with
  | nil => simp at h
  | cons b bs ih =>
    cases i with
    | zero =>
      rw [State.setBytes, State.byte_setBytes_out _ _ _ _ (by omega), State.byte_setByte]
      simp
    | succ i =>
      have := ih (s.setByte a b) (a + 1) i (by simpa using h)
      simp only [State.setBytes, List.getElem_cons_succ]
      rw [← this]
      congr 1
      omega

/-- Every memory operation keeps the canonical form. -/
theorem Memory.wf_setByte {s : State} (h : Memory.wf s.fills s.mem = true) (a : Nat) (b : Byte) :
    Memory.wf (s.setByte a b).fills (s.setByte a b).mem = true := swf_sset _ h a b

theorem Memory.wf_setBytes {s : State} (h : Memory.wf s.fills s.mem = true) (a : Nat) (bs : List Byte) :
    Memory.wf (s.setBytes a bs).fills (s.setBytes a bs).mem = true := by
  induction bs generalizing s a with
  | nil => exact h
  | cons b bs ih => exact ih (Memory.wf_setByte h a b) (a + 1)

theorem Memory.wf_clearRange {s : State} (h : Memory.wf s.fills s.mem = true) (lo hi : Nat) :
    Memory.wf (s.clearRange lo hi s.fills).fills (s.clearRange lo hi s.fills).mem = true := swf_filter _ h _

/-- Under a new list of zero-filled ranges the form is kept where no listed byte outside the range cleared changes what it would read
as unlisted. -/
theorem Memory.wf_clearRange_fills {s : State} (h : Memory.wf s.fills s.mem = true) (lo hi : Nat) (fs : List Fill)
    (hd : ∀ a, (a < lo ∨ hi ≤ a) → memDefault fs a = memDefault s.fills a) :
    Memory.wf (s.clearRange lo hi fs).fills (s.clearRange lo hi fs).mem = true := by
  simp only [Memory.wf, swf, Bool.and_eq_true, List.all_eq_true] at h
  show swf (memDefault fs) (s.mem.filter fun p => decide (p.1 < lo ∨ hi ≤ p.1)) = true
  simp only [swf, Bool.and_eq_true, List.all_eq_true]
  refine ⟨srising_filter h.1 _, fun p hp => ?_⟩
  obtain ⟨h1, h2⟩ := List.mem_filter.1 hp
  simp only [hd p.1 (by simpa using h2)]
  exact h.2 p h1

theorem Memory.hostWf_setHostByte {s : State} (h : Memory.hostWf s.hostMem = true) (a : Nat) (b : Byte) :
    Memory.hostWf (s.setHostByte a b).hostMem = true := swf_sset _ h a b

theorem Memory.hostWf_setHostBytes {s : State} (h : Memory.hostWf s.hostMem = true) (a : Nat) (bs : List Byte) :
    Memory.hostWf (s.setHostBytes a bs).hostMem = true := by
  induction bs generalizing s a with
  | nil => exact h
  | cons b bs ih => exact ih (Memory.hostWf_setHostByte h a b) (a + 1)

theorem Memory.wf_reset : Memory.wf State.reset.fills State.reset.mem = true := rfl

/-! ### Cores -/

@[simp] theorem State.g_zero (s : State) (k : CoreId) : s.g k 0 = 0 := rfl

theorem State.g_setG (s : State) (k : CoreId) (r q : GReg) (v : Word) :
    (s.setG k r v).g k q = if r ≠ 0 ∧ q = r then v else s.g k q := by
  by_cases hr : r = 0
  · subst hr; simp [State.setG]
  · by_cases hq : q = 0
    · subst hq; simp [Ne.symm hr]
    · by_cases h : q = r
      · subst h; simp [State.setG, State.g, State.modCore, hq]
      · have hv : (r : Nat) ≠ q := fun e => h (Fin.ext e.symm)
        simp [State.setG, State.g, State.modCore, hr, hq, h, hv]

end Sys2Proof.Machine
end

