-- ==== Sys2Proof/Laws/Issue.lean ====
section
/-! SUPPORT. What issuing an instruction of a core does (R339, R348, R366): the lemmas every statement on an Orrery instruction goes
through. -/

namespace Sys2Proof.Machine

/-- An instruction of a core that can issue has its effect. -/
theorem State.issue_of_canIssue {s : State} {k : CoreId} (h : CanIssue s k) (f : State → State) : s.issue k f = .next (f s) := by
  obtain ⟨h1, h2, h3, -⟩ := h
  simp [State.issue, State.coreReady, h1, h2, h3, -Fin.getElem_fin]

theorem State.modCore_modCore (s : State) (k : CoreId) (f g : Core → Core) :
    (s.modCore k f).modCore k g = s.modCore k (fun c => g (f c)) := by simp [State.modCore]

theorem State.cores_modCore (s : State) (k j : CoreId) (f : Core → Core) :
    (s.modCore k f).cores[j] = if j = k then f s.cores[k] else s.cores[j] := by
  by_cases h : j = k
  · subst h; simp [State.modCore]
  · have hv : (k : Nat) ≠ j := fun e => h (Fin.ext e.symm)
    simp [State.modCore, h, hv]

@[simp] theorem State.cores_modCore_same (s : State) (k : CoreId) (f : Core → Core) : (s.modCore k f).cores[k] = f s.cores[k] := by
  simp [State.modCore]

/-- Leaving a core as it is changes nothing. -/
theorem State.modCore_self (s : State) (k : CoreId) : (s.modCore k fun c => c) = s := by
  simp [State.modCore]

theorem State.setG_eq (s : State) (k : CoreId) (r : GReg) (v : Word) :
    s.setG k r v = s.modCore k fun c => { c with g := if r = 0 then c.g else c.g.set r v } := by
  by_cases h : r = 0
  · simp only [State.setG, h, if_pos]; exact (State.modCore_self s k).symm
  · simp [State.setG, State.modCore, h]

/-- An instruction that completes with no stop waiting. -/
theorem State.retireTo_eq {s : State} {k : CoreId} (h : s.cores[k].stepping = false) (pc : Word) :
    s.retireTo k pc = s.modCore k fun c => { c with pc := pc, instret := c.instret + 1 } := by
  simp only [State.retireTo, State.cores_modCore_same, h]
  rfl

theorem State.setG_retireTo_eq {s : State} {k : CoreId} (h : s.cores[k].stepping = false) (rd : GReg) (v pc : Word) :
    (s.setG k rd v).retireTo k pc =
      s.modCore k fun c => { c with g := if rd = 0 then c.g else c.g.set rd v, pc := pc, instret := c.instret + 1 } := by
  rw [State.setG_eq, State.retireTo_eq (by simpa using h), State.modCore_modCore]

theorem State.finish_eq (s : State) (k : CoreId) (rd : GReg) (v : Word) :
    s.finish k rd v = (s.setG k rd v).retireTo k (s.cores[k].pc + 4) := by
  simp [State.finish, State.retire, State.setG_eq, State.modCore]

/-- A register as an instruction leaves it. -/
theorem State.g_modCore_set (s : State) (k : CoreId) (rd r : GReg) (v pc n : Word) :
    (s.modCore k fun c => { c with g := if rd = 0 then c.g else c.g.set rd v, pc := pc, instret := n }).g k r =
      if r = rd ∧ r ≠ 0 then v else s.g k r := by
  by_cases hr : r = 0
  · simp [State.g, hr]
  · by_cases hd : rd = 0
    · have : r ≠ rd := hd ▸ hr
      simp [State.g, hr, hd, State.modCore]
    · by_cases h : r = rd
      · subst h; simp [State.g, hr, State.modCore]
      · have hv : (rd : Nat) ≠ r := fun e => h (Fin.ext e.symm)
        simp [State.g, hr, hd, h, State.modCore, hv]

/-- An instruction whose effect is to write rd and go on to `pc` computes. -/
theorem computes_of_setG {c : Instr} {s : State} {k : CoreId} {rd : GReg} {v pc : Word} (h : CanIssue s k)
    (hc : exec c s = .next ((s.setG k rd v).retireTo k pc)) : Computes c s k rd v pc := by
  rw [State.setG_retireTo_eq h.2.2.2] at hc
  refine ⟨_, hc, fun r => State.g_modCore_set s k rd r v pc _, ?_⟩
  simp [State.modCore]

theorem computes_of_finish {c : Instr} {s : State} {k : CoreId} {rd : GReg} {v : Word} (h : CanIssue s k)
    (hc : exec c s = .next (s.finish k rd v)) : Computes c s k rd v (s.cores[k].pc + 4) :=
  computes_of_setG h (by rw [hc, State.finish_eq])

/-- An instruction whose only effect is to go to `pc`. -/
theorem moves_of_retireTo {c : Instr} {s : State} {k : CoreId} {pc : Word} (h : CanIssue s k)
    (hc : exec c s = .next (s.retireTo k pc)) : Moves c s k pc := ⟨_, hc, State.retireTo_eq h.2.2.2 pc⟩

end Sys2Proof.Machine
end

