-- ==== Sys2Proof/Tests/Slice0.lean ====
section
/-! SUPPORT. Tests of the model: the spec's worked examples, ill-formed commands, and for each statement with hypotheses a state that meets them. -/

section SliceTests

open Sys2Proof Sys2Proof.Machine

set_option Elab.async false

/-! ### The spec's worked examples -/

/-- Chapter 12: `add g3, g4, g5` is 0x0005_20C1, `lw g1, 0x1C(g10)` 0x001C_5050, `bgeu g7, g1, +2` 0x0002_09E5. -/
theorem test_words_of_the_spec :
    decodeOrrery 0 0x000520C1 = some (.add 0 3 4 5) ∧ decodeOrrery 0 0x001C5050 = some (.lw 0 1 10 0x1C) ∧
    decodeOrrery 0 0x000209E5 = some (.bgeu 0 7 1 2) ∧ encodeOrrery (.add 0 3 4 5) = some 0x000520C1 := by decide +kernel

/-- R345, R347: words of zeros and of ones, an fn not listed, a non-zero field that must be zero, and a bit field past bit 31 are illegal. -/
theorem test_illegal_words :
    decodeOrrery 0 0 = none ∧ decodeOrrery 0 0xFFFFFFFF = none ∧ decodeOrrery 0 0x01C00001 = none ∧ decodeOrrery 0 0x0181000C = none ∧
    decodeOrrery 0 (formatA 0x02 0x3E1 1 2 0) = none := by decide +kernel

/-- Words written from the table of R346: JAL -1, AMOSWAP, FENCE io, WAITT E, MFS 0x0C, LSST, CRCB, SRAI by 31, BFI of 8 bits at 24. -/
theorem test_words_by_table :
    decodeOrrery 2 0xFFFFFFE6 = some (.jal 2 0x3FFFFFF) ∧ decodeOrrery 0 0x00231070 = some (.amoswap 0 1 2 3) ∧
    decodeOrrery 0 0x00200031 = some (.fenceIo 0) ∧ decodeOrrery 0 0x001F008E = some (.srai 0 2 0 31) ∧
    decodeOrrery 0 (0x1F800000 ||| 0x0843#32) = none ∧ decodeOrrery 0 (0x1F000000 ||| 0x0843#32) = some (.bfi 0 1 1 24 8) := by decide +kernel

/-- Chapter 3's short uplink frame: HCS, FCS, token and ACK body; 8 symbols of header and 3 of payload on 28 tones. -/
theorem test_short_uplink_frame :
    hcsOf [0x41, 0x03, 0x70, 0xC1, 0x00] = 0xA6 ∧ fcsOf [0x41, 0x03, 0x70, 0xC1, 0x00, 0xA6] [0x3A] = [0x4C, 0xD1, 0x08] ∧
    tokenOf [0x41, 0x03, 0x70, 0xC1, 0x00, 0xA6] none = 0xD979 ∧ ackBody 0xD979 0 = [0x92, 0x97, 0x0D] ∧
    pseed 0xA6 0x5C = 0x699C ∧ headerSyms true 28 = 8 ∧ payloadSyms 4 1 28 = 3 := by decide +kernel

theorem test_short_header_fields :
    (let h := parseShort [0x41, 0x03, 0x70, 0xC1, 0x00, 0xA6];
     h.ft = 1 ∧ h.mc = 4 ∧ h.sec = false ∧ h.ackreq = true ∧ h.len = 1 ∧ h.src = 0x5C ∧ h.miss = 0 ∧ h.batt = 3) := by decide +kernel

/-- Chapter 3's beacon: header, payload bytes 0-30 and its 349 symbols. -/
theorem test_beacon :
    (let b : Beacon := ⟨0x1B3D, 0x04D2, 384, 0x00032A9C8000, 0x2C00, 2, 1, 2 ^ 16 + 2 ^ 48, [0x2075C, 0x31A]⟩;
     b.header [0, 1, 2] = [0x00, 0x0E, 0x00, 0xE0, 0x04, 0xFF, 0xFF, 0x03, 0x00, 0xD0, 0x03, 0x90] ∧
     b.body = [0x3D, 0x1B, 0xD2, 0x04, 0x80, 0x01, 0x00, 0x80, 0x9C, 0x2A, 0x03, 0x00, 0x00, 0x2C, 0x02, 0x01, 0x02,
       0x00, 0x00, 0x01, 0x00, 0x00, 0x00, 0x01, 0x00, 0x5C, 0x07, 0x02, 0x1A, 0x03, 0x00] ∧
     beaconSyms 0 [0, 1, 2] 2 = 349) := by decide +kernel

/-- Chapter 3's nonce and first CCM counter block. -/
theorem test_ccm_nonce :
    ccmNonce 0x2075C 0x1B3D 0xA41 1 = [0x5C, 0x07, 0x02, 0x3D, 0x1B, 0x41, 0x0A, 0, 0, 1, 0, 0, 0] ∧
    ccmCtr (ccmNonce 0x2075C 0x1B3D 0xA41 1) 1 = [0x01, 0x5C, 0x07, 0x02, 0x3D, 0x1B, 0x41, 0x0A, 0, 0, 1, 0, 0, 0, 0, 1] := by decide +kernel

/-- Chapter 2's ACK body: scrambling, encoding and the data tones of its first symbol on lot 5. -/
theorem test_ack_body_symbol :
    scramble hseed [false, true, false, false, true, true, false] = [false, false, true, true, false, true, true] ∧
    convEncode .half 0 0 [false, false, true, true, false, true, true] =
      [false, false, false, false, true, true, true, false, true, false, true, true, false, true] ∧
    (codeBlock hseed .half 2 14 (ackBody 3 0)).headD [] =
      [false, true, true, true, false, true, true, false, true, false, false, false, true, false] ∧
    refPhase 89 = 0 ∧ refPhase 90 = 2 ∧ refPhase 91 = 1 ∧ refPhase 95 = 3 := by decide +kernel

/-- R330: CRC-32C over "123456789". -/
theorem test_crc32c : crcStored .crc32c [0x31, 0x32, 0x33, 0x34, 0x35, 0x36, 0x37, 0x38, 0x39] = leBytes 4 0xE3069283 := by decide +kernel

/-- Chapter 9's replay window, steps 1 to 7. -/
theorem test_replay_window :
    replayCheck true 0xA41 0xF 0xA43 = .new ∧ replayUpdate true 0xA41 0xF 0xA43 = (0xA43, 0x3E) ∧
    replayCheck true 0xA43 0x3E 0xA42 = .new ∧ replayUpdate true 0xA43 0x3E 0xA42 = (0xA43, 0x3F) ∧
    replayCheck true 0xA43 0x3F 0xA42 = .dup ∧ replayCheck true 0xA43 0x3F 0xA43 = .dup ∧ replayCheck true 0xA43 0x3F 0x9E0 = .old ∧
    replayUpdate true 0xA43 0x3F 0xA03 = (0xA43, 0x800000000000003F) ∧ replayUpdate true 0xA43 0x800000000000003F 0xA90 = (0xA90, 0) := by
  decide +kernel

/-- Chapter 8's sleeping sensor: V becomes -300.73 ppb (-330656 to the nearest 2^-40 of its digits) and SV 53.23 ppb. -/
theorem test_ephemeris :
    (let e := (Eph.mk 30 (-329853) 25 60 5 0 0).update ⟨3, 3, 3, 3, 20, 1⟩ (-110838) 362487398400 1;
     e.x = 30 ∧ -330670 ≤ e.v ∧ e.v ≤ -330640 ∧ e.sv = 53 ∧ e.nmeas = 6) := by decide +kernel

/-! ### Ill-formed commands -/

theorem test_wf_refuses_bit_fields :
    (Instr.bfx 0 1 2 false 30 3).wf = false ∧ (Instr.bfi 0 1 2 0 0).wf = false ∧ (Instr.bfx 0 1 2 true 0 32).wf = true := by decide +kernel

theorem test_wf_refuses_addresses :
    (Instr.mramWriteLimitRelease 0x18000002).wf = false ∧ (Instr.mramWriteComplete 0x19000000 .verified).wf = false ∧
    (Instr.mramScrub 0x17FFFFFC .good).wf = false ∧ (Instr.writeBackComplete 262144).wf = false := by decide +kernel

/-- A hop takes 64 samples at most, a guard window exactly 1,024, a pulse 1 to 8 bits, a fault something seen. -/
theorem test_wf_refuses_measurements :
    (Instr.fftHop 0 (List.replicate 65 default) []).wf = false ∧ (Instr.fftHop 0 [] (List.replicate 257 default)).wf = false ∧
    (Instr.guardSymbol 0 []).wf = false ∧ (Instr.txCalDone 0 [[0]]).wf = false ∧ (Instr.sealPulse 0 0).wf = false ∧
    (Instr.sealPulse 9 0).wf = false ∧ (Instr.uartCharReceived 0 0 []).wf = false ∧ (Instr.uartCharReceived 0 0 [(false, 1), (false, 1)]).wf = false ∧ (Instr.tamperFire (.supply false 0 (-1))).wf = false ∧
    (Instr.tamperFire (.clock true (-1))).wf = false ∧ (Instr.laneFault false 0).wf = false := by decide +kernel

theorem test_wf_refuses_readings :
    (Instr.startUp ⟨[0], [], true, [], [], []⟩).wf = false ∧ (Instr.startUp ⟨[], [], true, [], [], [(0x17FFFFFC, .good)]⟩).wf = false ∧
    (Instr.lgrRebuild [(0x18000002, .good)]).wf = false ∧ (Instr.regLoRead 0 [(0x17FFFFFC, .weak)]).wf = false ∧ (Instr.spiRead 0 0 0 [(0x19000000, .weak)]).wf = false ∧
    (Instr.replan ⟨List.replicate 7 (0, 0), [], none, 0, []⟩).wf = false ∧
    (Instr.replan ⟨List.replicate 8 (0, 0), [], none, 32, []⟩).wf = false := by decide +kernel

theorem test_wf_refuses_packets :
    (Instr.ulirDisc 0 (List.replicate 257 0)).wf = false ∧ (Instr.ulirTime 0 []).wf = false ∧
    (Instr.ulirBcnReq 1 0 (List.replicate 257 0) 0).wf = false ∧ (Instr.ulirBcnTag 0 (some [])).wf = false ∧
    (Instr.ulirSeg 1 0 0 (List.replicate 257 0)).wf = false ∧ (Instr.illegalInstruction 0 0x000520C1).wf = false := by decide +kernel

/-! ### States that meet the hypotheses of the statements -/

namespace Tests

/-- The state after reset with some registers set. -/
def st (l : List (Nat × Word)) : State := l.foldl (fun s p => s.setReg p.1 p.2) State.reset

/-- The same with the device running in a mode. -/
def inMode (m : Mode) (l : List (Nat × Word)) : State := { st l with sys := { (st l).sys with mode := m, phase := .running } }

/-- Core 0 running from reset with a value in g1. -/
def core (v : Word) (l : List (Nat × Word)) : State := (st l).modCore 0 fun c => { c with g := c.g.set 1 v }

/-- Whether a command answers a next state. -/
def answers : Out → Bool
  | .next _ => true
  | _ => false

/-- The state a command answers. -/
def after (o : Out) : State :=
  match o with
  | .next t => t
  | _ => State.reset

/-- A record in the ledger's stall 0, with COLD_EN = 0: address 5, index 0. -/
def ledger (m : Mode) (l : List (Nat × Word)) : State :=
  let s := inMode m (l ++ [(R.LGR_CTL, 1)])
  (s.setBytes 0x10000000 [5, 0, 0, 0, 1]).setBytes 0x18100000 [5, 0, 0, 0] |> fun s =>
    { s with lgr := { s.lgr with hot := [(0, ⟨0, false, false⟩)], order := [0] } }

/-- A reception of port 0 on lot 1, its header and payload decoded. -/
def rx : Rx :=
  { rxid := 3, port := 0, pair := false, thr := [], passed := true, caps := [], lots := [1], ctxs := [], lead := 0, qctx := 0, tB := 0
    tau0 := 0, p6 := 0, next := 0, track := [], chan := [], erased := [], short := false, armed := [], settled := none, syms := [], lastSym := 0
    hdrSyms := 0, tried := 0, badLots := false, hdr := some ⟨false, 1, 4, false, true, 2, 1, 0, 7, 0x3D, 0, 0, 0, List.replicate 12 0⟩
    src := 5, stall := none, paging := false, tones := some [24], mask := none, sechdr := [], block := [], fcsOk := true, bound := none
    tagOk := none, plain := [], surv := [], snr := [(1, 10)], level := 0, ring := none, sent := 0, ack := none, late := false
    decision := none, turn := 0, ackst := 0, record := none, waits := [], undo := [], asked := false, marked := false }

end Tests

open Tests

/-- StepKeepsInvariant: a state that meets the invariant with a command that answers. -/
theorem test_hyp_StepKeepsInvariant :
    ({ State.reset with pending := [.addi 0 1 0 5] } : State).Inv ∧ answers (step { State.reset with pending := [.addi 0 1 0 5] }) = true := by
  unfold State.Inv; decide +kernel

/-- Reset is held; a device running, on its reference, slewing and on the AO clock; a packet that leaves and one that the lane keeps. -/
theorem test_hyp_IdleStepPassesOneTick :
    (let s := inMode .head [];
     let w : Waiting := ⟨5, 0x1F, 0, []⟩;
     let p := fun (x : Nat) => ({ s with ulk := { s.ulk with waiting := [w], laneEnd := x } } : State);
     let t := after (step (p 0));
     let ao : State := { s with sys := { s.sys with onAo := true } };
     let far : State := { s with ulk := { s.ulk with slew := 25, phase := 9999995 } };
     State.reset.pending = [] ∧ State.reset.sys.phase = .reset ∧ State.reset.sys.kind = .powerOn ∧ s.pending = [] ∧ s.sys.phase ≠ .reset ∧
     s.sys.mode ≠ .dormant ∧ s.sys.onAo = false ∧ s.ulk.slew = 0 ∧ s.ulk.phase.natAbs < 10000000 ∧ t.ulk.waiting = [] ∧ t.ulk.sent.length = 1 ∧
     15625 * ((p 15626).now + 1) < (p 15626).ulk.laneEnd ∧ (after (step (p 15626))).ulk.waiting = [w] ∧ (after (step ao)).now = 750 ∧
     (after (step far)).now = 0 ∧ (after (step far)).ulk.slew = 15) := by decide +kernel

/-- StepKeepsBounds and StepOnlyProgramsOtp: a state within its bounds whose step programs OTP. -/
theorem test_hyp_StepKeepsBounds :
    (let s := inMode .head [];
     let c : SecCmd := ⟨0, none, [.revoke 1], none, false⟩;
     let t : State := { s with sec := { s.sec with cmd := some c }, pending := [.secCmdComplete] };
     t.Bounded ∧ answers (step t) = true ∧ (after (step t)).otp.revoke = 2) := by
  unfold State.Bounded Core.Bounded; decide +kernel

theorem test_hyp_OrreryWordsRoundTrip :
    encodeOrrery (.crcb 7 31 31 31) = some 0x001FFFFE ∧ encodeOrrery (.bfx 0 31 31 true 31 1) = some 0x83E0FFC2 ∧
    decodeOrrery 7 0x001FFFFE = some (.crcb 7 31 31 31) := by decide +kernel

/-- ArithmeticInstructions, ControlTransfer, SpecialRegisters, BadAccessesAndInstructionsFault, WaitsBeginAndEnd: a core that can issue, and
bit fields at the word's ends. -/
theorem test_hyp_CanIssue : CanIssue State.reset 0 ∧ (1 ≤ 1 ∧ 31 + 1 ≤ 32) ∧ (1 ≤ 32 ∧ 0 + 32 ≤ 32) := by
  unfold CanIssue; decide +kernel

theorem test_hyp_LoadsFromDtcmAndElsewhere :
    CanIssue (core 0x20117FFC []) 0 ∧ ownDtcm 0 0x20117FFC = true ∧ ownDtcm 0 0x20010000 = true ∧ ownDtcm 0 0x1023FFFC = false ∧
    (core 0x1023FFFC []).loadable 0 0x1023FFFC 4 = true := by
  unfold CanIssue; decide +kernel

/-- Each target of a load outstanding; a word written through the other port in the same cycle; an error in MRAM, corrected or not. -/
theorem test_hyp_LoadCompleteDelivers :
    (let s := fun (a : Word) => (core 0 []).modCore 0 fun c => { c with load := some ⟨a, 4, false, 2⟩ };
     let d : DualWrite := ⟨false, 0x10140000 / 4, 0x10140000, 4, [7, 0, 0, 0]⟩;
     let u : State := { s 0x10140000 with memu := { (s 0x10140000).memu with dual := [d] } };
     let m := after (exec (.loadComplete 0 .corrected) (s 0x18400000));
     answers (exec (.loadComplete 0 .good) (s 0x10140000)) = true ∧ (s 0x10140000).dualNow = [] ∧
     (u.dualNow.find? fun d => d.word == 0x10140000 / 4 && !d.portA) = some d ∧ inShared 0x10140000 = true ∧
     inMram 0x18400000 = true ∧ m.fld F.MEM_MRAM_STAT_CORR = 1 ∧ m.memu.mramPend.length = 1 ∧
     (after (exec (.loadComplete 0 .uncorrectable) (s 0x18400000))).reg (R.OCC_CAUSEk 0) = 5 ∧ (s 0x10140000).cores[(0 : Fin 8)].stepping = false ∧
     inQueues 0x10320000 = true ∧ inRegs 0x40170000 = true ∧ (s 0x40170000).storesVisible 0 = true ∧ inExt 0x80000000 = true ∧
     ((s 0x80000000).extRead 0x80000000 4).2 = none) := by decide +kernel

theorem test_hyp_StoresEnterAndLeaveTheBuffer :
    CanIssue (core 0x1023FFFC []) 0 ∧ (core 0x1023FFFC []).cores[(0 : Fin 8)].storeBuf.length < 4 ∧ storable 0 0x1023FFFC 4 = true ∧
    (let s := (core 0 []).modCore 0 fun c => { c with storeBuf := [⟨0x1023FFFC, 4, 7⟩, ⟨0x18400000, 4, 9⟩] };
     s.mramBusy 0 = false ∧ inShared 0x1023FFFC = true ∧ s.bankDown (bankOf 0x1023FFFC) = false ∧ s.dualNow = [] ∧ bankOf 0x200F7FFC = 19 ∧
     (after (exec (.storeBufferDrain 0) s)).bytes 0x1023FFFC 4 = [7, 0, 0, 0] ∧
     inMram (globalAddr 0 (0x18400000 : Word).toNat) = true) := by
  unfold CanIssue; decide +kernel

theorem test_hyp_AtomicsAndFences :
    CanIssue (core 0x10140000 []) 0 ∧ (core 0x10140000 []).storesVisible 0 = true ∧ inShared 0x10140000 = true ∧
    (core 0x10140000 []).bankDown (bankOf 0x10140000) = false ∧ (core 0 []).bankDown (bankOf 0x200F7FFC) = false ∧ inDtcm 0x200F7FFC = true ∧
    (let s := { core 0 [] with memu := { (core 0 []).memu with mramPend := [⟨0x18400000, [], .core 0, true⟩] } };
     (s.drainAll 0).storesVisible 0 = false ∧ s.cores[(0 : Fin 8)].run = .running) := by
  unfold CanIssue; decide +kernel

theorem test_hyp_BadAccessesAndInstructionsFault :
    (core 0 []).loadable 0 0x10000000 4 = false ∧ storable 0 0x10000000 4 = false ∧ decodeOrrery 0 0 = none ∧ 32 < 31 + 2 ∧
    (let s := (core 0 []).modCore 0 fun c => { c with pc := 0x20000 };
     s.fetchable 0 0x20000 = false ∧ decodeOrrery 0 0x000520C1 = some (.add 0 3 4 5) ∧ answers (exec (.add 0 3 4 5) s) = true ∧
     (after (exec (.add 0 3 4 5) s)).reg (R.OCC_CAUSEk 0) = 2) := by decide +kernel

/-- WaitsBeginAndEnd: a permitted event and a time to come; a wait whose time is reached at this instant, with the event queued before it and
without; a wait for an event; with E = 0 and with E = 1. -/
theorem test_hyp_WaitsBeginAndEnd :
    (let e : Record := ⟨⟨0x001, 0, 0, 0, 0, 0, none⟩, 0, 8⟩;
     let s : State := { core 9 [] with evc := { (core 9 []).evc with queues := (core 9 []).evc.queues.set 0 [e] } };
     let w := fun (x : CoreWait) (now : Time) => { s.modCore 0 fun c => { c with run := .waiting x } with time := now };
     (∃ r ∈ s.evc.queues[(0 : Fin 8)], s.cores[(0 : Fin 8)].evmask.getLsbD (r.ev.code.toNat / 256) = true) ∧ s.now < 9 ∧ 0 ≤ s.now ∧
     (after (exec (.waittTimeReached 0) (w (.time 9 true 2) 9))).g 0 2 = 2 ∧ (after (exec (.waittTimeReached 0) (w (.time 8 true 2) 8))).g 0 2 = 0 ∧
     (after (exec (.waitEventResume 0) (w (.time 9 true 2) 8))).g 0 2 = 2 ∧ (after (exec (.waittTimeReached 0) (w (.time 9 false 2) 8))).g 0 2 = 0 ∧
     (after (exec (.waitEventResume 0) (w (.event 2) 8))).g 0 2 = 1) := by
  decide +kernel

theorem test_hyp_EvpopTakesTheOldestEvent :
    (let e : Record := ⟨⟨0x001, 0, 0, 0, 0, 0, none⟩, 0, 0⟩;
     let s : State := { core 0x20110000 [] with evc := { (core 0x20110000 []).evc with queues := (core 0 []).evc.queues.set 0 [e] } };
     s.storesVisible 0 = true ∧ ownDtcm 0 (s.g 0 1).toNat = true ∧ s.bankDown (bankOf (globalAddr 0 (s.g 0 1).toNat)) = false ∧ s.g 0 1 % 16 = 0 ∧ s.cores[(0 : Fin 8)].run = .running ∧
     (after (exec (.evpop 0 2 1) s)).g 0 2 = 1 ∧ ownDtcm 0 0x20120000 = false) := by decide +kernel

theorem test_hyp_TransmitQueueInstructions :
    (let s := (core 0x10140000 []).setBytes 0x10140000 [5, 0, 0, 0, 0, 0, 0, 0, 2, 0, 1, 7, 0, 0, 0, 0];
     s.storesVisible 0 = true ∧ s.descLoadable 0 0x10140000 16 = true ∧ (s.coreLoad 0 0x10140000 16).2 = some 0x070100020000000000000005 ∧
     (parseAction 0x070100020000000000000005).kind = 2 ∧ s.freeEntry 126 130 = some 126 ∧
     (after (exec (.tqadd 0 2 1) s)).g 0 2 = 0x17E) ∧
    (let e : EvAction := ⟨126, 5, 0, 1, 7, none⟩;
     let s : State := { core 0x17E [] with mac := { (core 0 []).mac with events := [e], gens := [(126, 1)] } };
     kget? s.mac.gens 126 = some 1 ∧ e ∈ s.mac.events ∧ (after (exec (.tqcan 0 2 1) s)).mac.events = [] ∧
     kget? s.mac.gens 127 ≠ some 1 ∧ (125 : Nat) < 126) := by decide +kernel

/-- Transmit actions: in time, too late, and with every entry taken; TQCAN of a core's, a host's and a deferred one, and of one on the air. -/
theorem test_hyp_TimedTransmissions :
    (let desc := List.replicate 17 0 ++ [1, 0, 0, 0, 0, 0, 0, 6, 0, 0, 0, 2] ++ List.replicate 35 0;
     let c := (inMode .head [(R.TXP_CTL, 0xFFFFFFFF)]).modCore 0 fun c => { c with g := c.g.set 1 0x10140000 };
     let s := (c.setBytes 0x10140000 [0, 0, 1, 0, 0, 0, 0, 0, 1, 0, 0, 0, 0, 0, 0x15, 0x10]).setBytes 0x10150000 desc;
     let full : State := { s with mac := { s.mac with ops := (List.range 130).map fun i => { TxOp.blank with index := 126 + i, inQueue := true } } };
     let late : State := { s with time := 65536 - 6143 };
     let x : SubDesc := { parseSub desc with port := 0 };
     let v := fun (k : TxKind) (st : TxStage) => ({ core 0x17E [] with mac := { (core 0 []).mac with
       ops := [{ TxOp.blank with kind := k, index := 126, inQueue := true, stage := st }], gens := [(126, 1)] } } : State);
     (s.coreLoad 0 0x10140000 16).2.map (fun v => (parseAction v).kind) = some 1 ∧ (s.unitRead 0x10150000 64).2 = some desc ∧ s.descBad x false = false ∧
     (s.toward (netAddr s.domain x.dst) (s.plan (s.txPort 0)) (lotsOf x.lots) 65536).2 = ([1], none) ∧ s.fldBit F.TXP_CTL_PORT_EN (s.txPort 0) = true ∧
     (s.readPlain x).2 = .ok [] ∧ s.now + 6144 ≤ 65536 ∧ s.freeEntry 126 130 = some 126 ∧ (after (exec (.tqadd 0 2 1) s)).g 0 2 = 0x17E ∧
     late.now < 65536 ∧ 65536 < late.now + 6144 ∧ (after (exec (.tqadd 0 2 1) late)).g 0 2 = 0x80000002 ∧
     full.freeEntry 126 130 = none ∧ (after (exec (.tqadd 0 2 1) full)).g 0 2 = 0x80000001 ∧
     ((v (.core 0 0) .queued).mac.ops.find? fun o => o.inQueue && o.index == 126).isSome ∧ (after (exec (.tqcan 0 2 1) (v (.core 0 0) .queued))).mac.ops = [] ∧
     (after (exec (.tqcan 0 2 1) (v (.host 4 0) .queued))).mac.ops = [] ∧ (after (exec (.tqcan 0 2 1) (v (.deferred 0) .queued))).mac.ops = [] ∧
     (after (exec (.tqcan 0 2 1) (v (.core 0 0) (.onAir 0)))).g 0 2 = 1) := by decide +kernel

theorem test_hyp_LedgerWordsThroughTheCores :
    (let s := (ledger .head []).modCore 0 fun c => { c with g := c.g.set 1 5 };
     let u := s.modCore 0 fun c => { c with locks := [⟨0, 5, 0⟩] };
     (s.coreStall 5).2 = .stall 0 ∧ (s.coreStall 6).2 = .absent ∧ (s.coreStall 5).1.cores = s.cores ∧ s.on F.LGR_CTL_EN = true ∧
     s.cores[(0 : Fin 8)].locks = [] ∧ u.lockOf 0 5 = some ⟨0, 5, 0⟩ ∧ u.bankDown 0 = false ∧ ¬ (126 % 4 = 0 ∧ 126 ≤ 124) ∧
     (let n : State := { u with dmd := { u.dmd with rx := [{ rx with stall := some 0, asked := true, turn := 1 }] } };
      let f := n.modCore 0 fun c => { c with locks := [] };
      f.commitLocked 0 = false ∧ f.coreLocked 0 = false ∧ (f.nextAsked 0).map (·.rxid) = some 3 ∧
      ((after (exec (.lsunl 0 1) n)).dmd.rx.map (·.decision)) = [some .new]) ∧
     (after (exec (.lsst 0 1 1 100) u)).cores[(0 : Fin 8)].lsres = 0 ∧ (after (exec (.lsst 0 1 1 100) u)).byte (0x10000000 + 100) = 5) := by
  decide +kernel

theorem test_hyp_StallLocks :
    (let s := (ledger .head []).modCore 0 fun c => { c with g := c.g.set 1 5 };
     let t := after (exec (.lslock 0 2 1) s);
     let w := s.modCore 1 fun c => { c with locks := [⟨0, 5, 0⟩] };
     let z := s.modCore 0 fun c => { c with run := .waiting (.lock 5 2) };
     (s.coreStall 5).2 = .stall 0 ∧ s.coreLocked 0 = false ∧ s.commitLocked 0 = false ∧ t.cores[(0 : Fin 8)].locks = [⟨0, 5, 0⟩] ∧
     t.g 0 2 = 0 ∧ w.coreLocked 0 = true ∧ (after (exec (.lslock 0 2 1) w)).g 0 2 = 0x80000002 ∧
     s.lockAsked 0 = false ∧ { s with dmd := { s.dmd with rx := [{ rx with stall := some 0, asked := true }] } }.lockAsked 0 = true ∧
     (after (exec (.lslock 0 2 1) t)).cores[(0 : Fin 8)].lsres = 0 ∧ (s.coreStall 9).2 = .absent ∧
     (let five := s.modCore 0 fun c => { c with locks := [⟨1, 1, 0⟩, ⟨2, 2, 0⟩, ⟨3, 3, 0⟩, ⟨4, 4, 0⟩] };
      (after (exec (.lslock 0 2 1) five)).g 0 2 = 0x80000003 ∧ five.coreLocked 0 = false) ∧
     (let held : State := { s with dmd := { s.dmd with rx := [{ rx with stall := some 0, decision := some .new }] } };
      held.commitLocked 0 = true ∧ (after (exec (.lslock 0 2 1) held)).cores[(0 : Fin 8)].run = .waiting (.lock 5 2)) ∧
     z.lowerWaits 0 5 = false ∧ (after (exec (.lslockGrant 0) z)).cores[(0 : Fin 8)].run = .running) := by decide +kernel

theorem test_hyp_CipherJobsAndCheckValues :
    CanIssue (core 0x10140000 [(R.CPH_CTL, 0xFFFFFFFF)]) 0 ∧ (core 0x10140000 [(R.CPH_CTL, 0xFFFFFFFF)]).on F.CPH_CTL_CJOB_EN = true ∧
    cjobRegion 0x10140000 32 = true ∧ (core 0x10140000 []).storesVisible 0 = true ∧ cjobRegion 0x1023FFE1 32 = false ∧ State.reset.key.jobs.length < 32 ∧
    (core 0 []).fld (F.CRC_CTXn_CTL_SRC 0) = 0 ∧ (core 0 [(R.CRC_CTXn_CTL 0, 0x10)]).fld (F.CRC_CTXn_CTL_SRC 0) ≠ 0 := by
  unfold CanIssue; decide +kernel

theorem test_hyp_CoresStartAndStop :
    (let h := st [(R.OCC_CFG, 1)];
     h.on F.OCC_CFG_HOST_CTL = true ∧ (st [(R.OCC_CFG, 0)]).on F.OCC_CFG_HOST_CTL = false ∧ h.cores[(1 : Fin 8)].run = .stopped ∧
     (after (exec (.coreStart .host 2) h)).cores[(1 : Fin 8)].run = .running ∧
     (after (exec (.coreStop .host 1) h)).cores[(0 : Fin 8)].run = .stopped) := by decide +kernel

theorem test_hyp_ItcmLockAndOverruns :
    (let s := st [(R.OCC_CFG, 1)];
     let u : State := { s.modCore 0 fun c => { c with locks := [⟨3, 5, 0⟩], wdog := 1 } with time := 492 };
     s.cores[(7 : Fin 8)].run = .stopped ∧ s.bankDown 15 = false ∧ (after (exec (.itcmWrite .host 7 0x3FFF 9) s)).byte 0x200EFFFC = 9 ∧
     s.cores[(0 : Fin 8)].run ≠ .stopped ∧ s.on F.OCC_CFG_LOCK = false ∧ (st [(R.OCC_CFG, 2)]).on F.OCC_CFG_LOCK = true ∧
     (∃ l ∈ u.cores[(0 : Fin 8)].locks, l.stall = 3 ∧ l.since.toNat + 492 ≤ u.now) ∧ (after (exec (.lockOverrun 0 3) u)).on F.OCC_FLAGS_LOCK_LONG = true ∧
     (after (exec (.watchdogExpire 0) u)).reg (R.OCC_CAUSEk 0) = 6) := by decide +kernel

theorem test_hyp_PowerOnResetClears :
    State.reset.Inv ∧ State.reset.fills = [] ∧ answers (exec (.powerOnReset ⟨2, true, 31⟩) State.reset) = true := by
  unfold State.Inv; decide +kernel

theorem test_hyp_SystemResetKeeps :
    (let s := inMode .survey [];
     s.sys.mode ≠ .lastgasp ∧ s.sys.mode ≠ .dormant ∧ s.memu.mramPend = [] ∧ (0xD101 : Word).toNat / 256 % 256 = 0xD1 ∧ s.otp.lc = .maker ∧
     (after (exec (.systemReset .host 0xD101) s)).sys.phase = .reset ∧ (after (exec .testModeEntry s)).sec.testMode = true) := by decide +kernel

theorem test_hyp_StartUpRuns :
    (let s : State := { State.reset with sys := { State.reset.sys with phase := .starting, booted := true } };
     State.reset.sys.phase = .reset ∧
     (let w := { State.reset with sys := { State.reset.sys with phase := .railSettle }, time := 49152 };
      w.sys.railAt.toNat + usDticks (100 * w.fld F.SYS_DORM_CTL_RAIL) ≤ w.now ∧
        w.now - 1 < w.sys.railAt.toNat + usDticks (100 * w.fld F.SYS_DORM_CTL_RAIL)) ∧ State.reset.sec.testMode = false ∧ State.reset.otp.lc ≠ .ended ∧ s.sys.phase = .starting ∧
     s.sys.booted = true ∧ s.sys.heldEdges = [] ∧ (after (exec .startUpEnd s)).sys.phase = .running ∧
     (after (exec .startUpEnd { s with sys := { s.sys with heldEdges := [some false] } })).sys.mode = .lastgasp) := by decide +kernel

/-- The states of ModeRequestsAndTransitions: HEAD may be asked for with a beacon key, SUBORDINATE with the ring aligned, SERVICE with presence. -/
theorem test_hyp_ModeRequestsAndTransitions :
    (let s := inMode .survey [];
     let k : KeySlot := ⟨2, 0, true, true, 1, List.replicate 16 0, 0, 0, 0⟩;
     let h : State := { s with key := { s.key with named := [(s.fld F.MAC_BCN_CTL_KEYSLOT, k)] } };
     let b : State := { inMode .survey [(R.ULK_STAT, 0x80000000)] with sys := { s.sys with straps := ⟨0, false, 1⟩ } };
     let p : State := { s with sec := { s.sec with windowEnd := some 1 } };
     (h.beaconBound (h.fld F.MAC_BCN_CTL_KEYSLOT)).isSome = true ∧ (after (exec (.modeRequest .host 0) h)).sys.pend = some .head ∧
     b.on F.ULK_STAT_ALIGNED = true ∧ (after (exec (.modeRequest .host 3) b)).sys.pend = some .subordinate ∧
     p.present = true ∧ (after (exec (.modeRequest .host 7) p)).sys.mode = .service ∧ s.beaconBound (s.fld F.MAC_BCN_CTL_KEYSLOT) = none ∧
     (let t : State := { s with sys := { s.sys with pend := some .head } };
      t.now = t.mac.cur.start ∧ (after (exec .modeTransition t)).sys.mode = .head) ∧
     (let t : State := { inMode .head [] with sys := { s.sys with mode := .head, pend := some .survey } };
      (∀ o ∈ t.mac.ops, o.stage = .queued) ∧ t.mac.cur.start ≤ t.now ∧ (t.now - t.mac.cur.start) % (18432 * t.mac.cur.slotlen) = 0 ∧ (after (exec .modeTransition t)).sys.mode = .survey)) := by decide +kernel

/-- FOLLOW may be asked for once the master's beacon was verified. -/
theorem test_hyp_FollowRequest :
    (let s := inMode .survey [(R.MAC_FOLLOW, 0x10000)];
     let f := { Follow.reset with slotlen := 384, heard := 384, length := 349 * 18432, seen := true };
     let t : State := { s with mac := { s.mac with follow := f } };
     t.fld F.MAC_FOLLOW_BCN_OFS ≠ 0 ∧ t.mayFollow = true ∧ (after (exec (.modeRequest .host 1) t)).sys.pend = some .follow) := by decide +kernel

theorem test_hyp_MainsEdgesAndOutage :
    (let s := inMode .head [];
     let g : Outage := ⟨7, false, .head, 1, 0, 0, 0, 0, false⟩;
     let z : State := { inMode .survey [(R.SYS_MAINS_CTL, 0xFFFFFFFF), (R.LPn_ZC_CTL 0, 1)] with lp := s.lp };
     let l : State := { inMode .lastgasp [] with sys := { s.sys with mode := .lastgasp, outage := some g } };
     let o := { TxOp.blank with kind := .lastgasp, encr := .waiting, bound := some ⟨1, 0, List.replicate 16 0⟩ };
     let q : State := { l with mac := { l.mac with ops := [o] } };
     (after (exec (.mainsLoss false) s)).sys.mode = .lastgasp ∧ z.on F.SYS_MAINS_CTL_ZC_LASTGASP = true ∧ z.zcAllLost = true ∧
     l.sys.mramFrozen = false ∧ (after (exec .lastgaspFlush l)).memu.mramPend.flatMap (fun w => w.bytes.take 1) =
       ([0, 0x04, 0x08, 0x0C, 0x10, 0x14, 0x18, 0x1C, 0].zip [0, 7, 0, 1, 0, 0, 0, 0, 0x4F]).map (fun p => (0x18320000 + p.1, p.2)) ∧
     (q.mac.ops.find? fun o => o.kind == .lastgasp && o.stage == .queued) = some o) := by decide +kernel

theorem test_hyp_DormantWakeSuppliesAndClocks :
    (let s : State := { inMode .survey [] with sys := { (inMode .survey []).sys with dormReq := true } };
     let d : State := { inMode .dormant [(R.UARTn_CTL 0, 0x40)] with time := 5 };
     s.mayDorm = true ∧ s.memu.mramPend = [] ∧ s.sec.windowEnd = none ∧ s.fills = [] ∧ (after (exec .dormantEntry s)).sys.mode = .dormant ∧
     (1 : BitVec 6) &&& d.wakeEnabled ≠ 0 ∧ (2 : BitVec 6) &&& d.wakeEnabled = 0 ∧ (after (exec (.wakeSource 1) d)).sys.phase = .railSettle ∧
     d.memu.mramPend = [] ∧ d.fills = [] ∧ Memory.wf d.fills d.mem = true ∧ Memory.hostWf d.hostMem = true ∧ d.regsWf = true ∧
     (∀ k : CoreId, d.cores[k].g[(0 : Fin 32)] = 0) ∧
     s.sys.mode ≠ .dormant ∧ State.reset.sys.phase = .reset ∧ s.sys.onAo = false ∧ Domain.ulir ≠ .ao) ∧
    (let f : State := { inMode .survey [] with sys := { (inMode .survey []).sys with mramFrozen := true, onAo := true } };
     f.sec.heldLog = [] ∧ (after (exec .mramFreezeLift f)).sys.mramFrozen = false ∧ (after (exec .refclkReturn f)).sys.onAo = false) := by
  decide +kernel

/-! ### States with transmissions and receptions -/

namespace Tests

/-- HEAD with one transmission under way. -/
def tx (l : List (Nat × Word)) (o : TxOp) : State := { inMode .head l with mac := { (inMode .head l).mac with ops := [o], nextId := 1 } }

/-- A mode with one reception. -/
def recv (m : Mode) (l : List (Nat × Word)) (r : Rx) : State :=
  { inMode m l with dmd := { (inMode m l).dmd with rx := [r], used := [3] } }

end Tests

theorem test_hyp_TransmissionsAreSealed :
    (let h : Hdr := ⟨false, 1, 4, true, false, 2, 1, 0, 7, 0x3D, 0, 0, 0, List.replicate 12 0⟩;
     let k : KeySlot := ⟨1, 0, true, true, 1, List.replicate 16 0, 4, 5, 2⟩;
     let o := { TxOp.blank with hdr := h, encr := .waiting, ksel := 16, kind := .host 4 0 };
     let s : State := { tx [] o with key := { (tx [] o).key with named := [(16, k)] } };
     let q := { o with encr := .running, bound := some ⟨16, 2, k.key⟩, fc := some 4 };
     s.findOp 0 = some o ∧ s.namedKey 16 = some k ∧ k.txfc < k.ceil ∧ (after (exec (.txCcmStart 0) s)).findOp 0 = some q ∧
     (tx [] q).findOp 0 = some q ∧
     (after (exec (.txCcmStart 0) { s with key := { s.key with named := [(16, { k with txfc := 5 })] } })).memu.mramPend.length = 1 ∧
     (after (exec (.txCcmStart 0) { s with key := { s.key with named := [(16, { k with txfc := 0xFFFFFFFF })] } })).mac.ops = []) ∧
    (let h : Hdr := ⟨false, 1, 4, true, false, 2, 1, 0, 7, 0x3D, 0, 0, 0, List.replicate 12 0⟩;
     let s := ledger .head [];
     let p : State := { s with mac := { s.mac with ops := [{ TxOp.blank with hdr := h, encr := .waiting, addr := 5 }] } };
     (p.recordOf 5).2 = some (0, true) ∧ p.txHolds < 32 ∧ (p.pageInNow 5).2 = some 0 ∧ (p.recordOf 6).2 = none) := by decide +kernel

theorem test_hyp_TransmissionsLaunchAndEnd :
    (let o := { TxOp.blank with lots := [1], kind := .host 4 0, hdr := ⟨false, 1, 4, false, false, 2, 1, 0, 7, 0x3D, 0, 0, 0, List.replicate 12 0⟩, payload := [1, 2, 3, 4], tones := dataTones 0 [1], time := 100000, mc := 4 };
     let s := tx [(R.TXP_CTL, 1), (R.TXP_PnCTL 0, 0)] o;
     let t := { o with stage := .taken 0 };
     let a := { o with stage := .onAir 0 };
     let l : State := { tx [] o with mac := { (tx [] o).mac with ops := [], lag := [some 0, none, none, none, none, none] } };
     s.findOp 0 = some o ∧ (s.refreshed o) = o ∧ s.streamRefusal o true = none ∧ (tx [] o).streamRefusal o true = some 2 ∧ answers (exec (.streamTake 0) s) = true ∧ o.txen = [] ∧
     s.fldBit F.TXP_CTL_PORT_EN 0 = true ∧ (after (exec (.txenAssert 0) s)).txenOn 0 = true ∧
     (tx [] t).findOp 0 = some t ∧ (tx [] a).findOp 0 = some a ∧ (after (exec (.txEnd 0) (tx [] a))).mac.ops = [] ∧
     l.mac.lag.getD 0 none = some 0 ∧ l.mac.cal = [] ∧ l.mac.lag.length = 6 ∧ a.cut = none ∧ answers (exec (.txEnd 0) (tx [] { a with cut := some 3 })) = true ∧
     (tx [] t).maySend t = true ∧ (tx [] { t with encr := .waiting }).maySend t = true ∧ (inMode .survey []).maySend t = false ∧ t.encr = .done ∧ State.reset.txhAt 0 0 = false ∧ State.reset.partner 0 = none) := by
  decide +kernel

/-- A port that sends with its guard on; an idle port, whose calibration starts and, its symbols played, ends. -/
theorem test_hyp_MaskGuardSettingsAndCalibration :
    (let a := { TxOp.blank with stage := .onAir 0 };
     let s := tx [(R.TXP_PnGUARD 0, 0xFFFFFFFF)] a;
     let i := inMode .head [(R.TXP_CTL, 1)];
     let b := after (exec (.txCalStart 0x1000) i);
     let e : State := { b with time := 20000 };
     s.on (F.TXP_PnGUARD_EN 0) = true ∧ 0 ∈ s.outPorts 0 ∧ State.reset.txenOn 0 = false ∧ (0x100 : Word).toNat % 8 = 0 ∧
     i.fldBit F.TXP_CTL_PORT_EN 0 = true ∧ i.mac.ops = [] ∧ i.mac.cal = [] ∧ i.txMode = true ∧
     ((after (exec (.txCalStart 0x100) i)).mac.cal.map fun c => (c.port, c.drv, c.cut)) = [(0, true, false)] ∧
     (after (exec (.txCalStart 1) i)).on F.TXP_FLAGS_CAL_REFUSED = true ∧ (b.mac.cal.map fun c => (c.port, c.drv, c.cut)) = [(0, false, false)] ∧
     (e.mac.cal.find? fun c => c.port == 0 && decide (c.frame.ends ≤ e.now)).isSome ∧ e.sys.mode ≠ .lastgasp ∧
     (b.mac.cal.find? fun c => c.port == 0 && decide (c.frame.ends ≤ b.now)).isNone ∧ planLot (i.plan (i.txPort 0)) 1 = true ∧
     ratioDb 1 = 0 ∧ (after (exec (.txCalDone 0 []) { e with mac := { e.mac with line := [], cal := e.mac.cal.map fun c => { c with cut := true } } })).mac.cal = []) := by decide +kernel

theorem test_hyp_LinePortControl :
    (let s := st [(R.LPn_CTL 0, 1)];
     let r : State := { s with dmd := { s.dmd with rx := [rx], used := [3], ctx := lmod s.dmd.ctx 2 fun c => { c with rxid := some 3 } } };
     let t := after (exec (.lpSyncRst 0) r);
     (∃ p ∈ r.pairOf 0, r.usesPort 3 p = true) ∧ t.dmd.rx = [] ∧ (t.ctx 2).rxid = none ∧ t.reg (R.TAL_SQn 14) = 1 ∧
     s.dmd.used = [] ∧ s.lpOn 0 = true ∧ s.lpOn 1 = false ∧ s.dmd.ctx.length = 240 ∧ s.preset 0 ≠ (3 : BitVec 2).toNat ∧
     (after (exec (.lpPortEnable 1) s)).lpOn 1 = true ∧ (after (exec (.lpPortDisable 0) s)).lpOn 0 = false) := by decide +kernel

/-- An overload's start and end, an attack at the limit and below it, a decay window due at this instant, a swap and the end of a fade. -/
theorem test_hyp_GainNotchesAndFilter :
    (let l := { LpChain.reset with settle := 0, decCnt := 1 };
     let s : State := { st [(R.LPn_CTL 0, 1), (R.LPn_AGC_CTL 0, 0xFF01), (R.LPn_FIR_CTL 0, 0)] with lp := State.reset.lp.set 0 l, time := 10000000 };
     let f : State := { s with lp := s.lp.set 0 { l with fade := some ⟨true, 5, 5⟩, queued := some false } };
     let w : State := { s with lp := s.lp.set 0 { l with fade := some ⟨true, 4, 5⟩ } };
     let o := after (exec (.adcOverload 0 true) s);
     let wait := usDticks (max 1 (s.fld (F.LPn_AGC_TIME_DECAY_US 0)));
     s.agcActive 0 = true ∧ s.agcActive 1 = false ∧ l.holdUntil.toNat ≤ s.now ∧ l.decayAt.toNat + wait ≤ s.now ∧
     ¬ ((0 : Time).toNat + wait ≤ wait - 1) ∧ l.fade = none ∧ l.bank = false ∧ l.overs = [] ∧
     o.lp[(0 : Fin 6)].overs = [(10000000, none)] ∧ (after (exec (.adcOverload 0 false) o)).lp[(0 : Fin 6)].overs.length = 1 ∧
     s.fld (F.LPn_AGC_LIM_PK_HI 0) = 1 ∧ dbGe 1 1 (-4) = true ∧ dbGe 0 1 (-4) = false ∧
     (0x03050000 : Word).getLsbD 25 = true ∧ (0x03050000 : Word).getLsbD 24 = true ∧
     (after (exec (.firSwapRequest 0 0x03050000) s)).lp[(0 : Fin 6)].fade = some ⟨true, 0, 5⟩ ∧
     (after (exec (.firFadeEnd 0) f)).lp[(0 : Fin 6)].bank = false ∧ (after (exec (.firFadeEnd 0) f)).lp[(0 : Fin 6)].fade = none ∧
     (after (exec (.firFadeEnd 0) w)).lp[(0 : Fin 6)].fade = some ⟨true, 4, 5⟩) := by decide +kernel

theorem test_hyp_FirCoefficientWrites :
    State.reset.lp[(0 : Fin 6)].fade = none ∧ State.reset.lp[(0 : Fin 6)].bank = false ∧
    (after (exec (.firCoefWrite 0 true 95 0x2FFFF) State.reset)).reg (R.LPn_FIRB1_Tt 0 95) = 0x2FFFF ∧
    (after (exec (.firCoefWrite 0 false 0 5) State.reset)).on (F.LPn_FLAGS_BANK_BUSY 0) = true ∧
    kget? State.reset.mac.latches (R.LPn_FIRB1_Tt 0 95) = none ∧ State.reset.sys.mode ≠ .dormant := by decide +kernel

/-- An interval of 378,092 dticks is an edge and one dtick less is not; a level held for exactly the glitch time counts. -/
theorem test_hyp_DetectorsAndMains :
    (let s : State := { st [(R.LPn_ZC_CTL 0, 1), (R.LPn_CTL 0, 1), (R.LPn_NMAP_CTL 0, 1)] with time := 378092 };
     let k : State := { s with lp := s.lp.set 0 { s.lp[(0 : Fin 6)] with zcLock := true, rmsDone := some (1, 2, 1) } };
     let g := { st [(R.LPn_ZC_CTL 0, 0x101)] with time := 16 * (st [(R.LPn_ZC_CTL 0, 0x101)]).fld (F.LPn_ZC_CTL_GLITCH 0) };
     s.on (F.LPn_ZC_CTL_EN 0) = true ∧ s.on (F.LPn_ZC_CTL_POL 0) = false ∧ s.fld (F.LPn_ZC_CTL_GLITCH 0) = 0 ∧
     (s.now : Int) - ((s.lp[(0 : Fin 6)].zcLast.getD 0).toNat : Int) = 378092 ∧ s.lp[(0 : Fin 6)].zcLevel = false ∧
     (0 : Time).toNat + 16 * g.fld (F.LPn_ZC_CTL_GLITCH 0) ≤ g.now ∧ k.lp[(0 : Fin 6)].rmsDone = some (1, 2, 1) ∧
     s.on (F.LPn_NMAP_CTL_EN 0) = true ∧ s.on (F.LPn_NMAP_CTL_FREEZE 0) = false ∧ k.lpOn 0 = true ∧
     (after (exec (.zcEdge 0 true 378092) s)).lp[(0 : Fin 6)].zcOk = 1 ∧ (after (exec (.zcEdge 0 true 378091) s)).on (F.LPn_FLAGS_ZC_JUMP 0) = true ∧
     (after (exec (.zcTimeout 0) k)).lp[(0 : Fin 6)].zcLock = false ∧ answers (exec (.noiseMapUpdate 0) k) = true) := by decide +kernel

theorem test_hyp_HopsAndDirectedWindows :
    (let s := st [(R.LPn_CTL 0, 1)];
     let q : Qual := ⟨0, [], none, 0, [], [], 0, 100, none, none, none, 0, none, []⟩;
     let c : Ctx := ⟨.qualify, false, some 3, some q⟩;
     let n : State := { s with dmd := { s.dmd with ctx := s.dmd.ctx.set 0 c } };
     let o := { TxOp.blank with port := 0 };
     let w : DirWin := ⟨9, o, 1, 0, 0xD979, none, []⟩;
     let d : State := { s with mac := { s.mac with dirs := [w] }, dmd := { s.dmd with ctx := s.dmd.ctx.map fun x => { x with state := .idle } } };
     let e : State := { d with mac := { s.mac with dirs := [{ w with ctx := some 2 }] },
                               dmd := { d.dmd with ctx := d.dmd.ctx.set 2 ⟨.directed, false, none, none⟩ } };
     let seen := fun (h : Nat) => (⟨h, false, false, [], none, lmod (List.replicate 320 Cplx.zero) 0 fun _ => ⟨100, 0⟩⟩ : Transform);
     let b := st [(R.LPn_CTL 0, 1), (R.DMD_TRIG, 0x200)];
     let g : State := { b with lp := b.lp.set 0 { b.lp[(0 : Fin 6)] with trans := [seen 18, seen 0], idle := List.replicate 320 1, idleCnt := List.replicate 20 4096 }
                               dmd := { b.dmd with ctx := b.dmd.ctx.map fun x => { x with state := .idle } } };
     (∀ p ∈ g.rxPorts 0, 2 ^ Thr.ntc g.thrNow ≤ g.lp[p].idleCnt.getD 0 0) ∧ (g.ctx (g.activeCtx 0 0)).state = .idle ∧
     g.trigMet (g.activeCtx 0 0) (g.rxPorts 0) (lotTones (g.plan 0) 0) 18 = true ∧ g.dmd.ctx.length = 240 ∧
     ((g.huntLot 0 (g.rxPorts 0) 18 0).ctx (g.activeCtx 0 0)).rxid = some 0 ∧ g.dmd.last + 1 + BitVec.ofNat 8 0 ∉ g.dmd.used ∧
     s.lpOn 0 = true ∧ s.lpOn 1 = false ∧ s.detecting = false ∧ s.hopIndex 0 < 15 ∧ s.transAt 0 0 = none ∧
     (n.ctx 0).rxid = some 3 ∧ (n.ctx 0).qual = some q ∧ n.findRx 3 = none ∧ q.tB = none ∧ Thr.bWait q.thr ≤ q.cnt ∧
     (d.mac.dirs.find? fun w => w.id == 9) = some w ∧ d.claimable 0 1 = some 2 ∧ s.claimable 0 1 = none ∧
     (e.ctx 2).state = .directed ∧ e.dirBody { w with ctx := some 2 } = none ∧ answers (exec (.directedWindowEnd 9) e) = true) := by
  decide +kernel

/-- A reception with too few symbols for a header; one whose page-in is outstanding; a secured one without a key. That a header or a security
header decodes to bytes is shown by no closed state: a tie of the decoder is a free value (log entry 11). -/
theorem test_hyp_ReceptionsAreDecoded :
    (let w := { rx with hdr := none, snr := [], tones := none };
     let p := { rx with snr := [], paging := true };
     let t := { rx with hdr := some ⟨false, 1, 4, true, true, 2, 1, 0, 7, 0x3D, 0, 0, 0, List.replicate 12 0⟩ };
     let s := recv .head [] w;
     s.findRx 3 = some w ∧ w.syms.length < 8 * headerSyms false (dataTones (s.plan w.port) w.lots).length ∧
     w.tried = w.syms.length ∧ (recv .head [] p).findRx 3 = some p ∧ p.hdr.isSome = true ∧ p.ctxs = [] ∧ p.capWaits = false ∧ { p with caps := [(1, .header)] }.capWaits = true ∧
     (recv .head [] rx).collects = false ∧ (recv .head [] t).findRx 3 = some t ∧ t.bound = none ∧ t.tagOk = none ∧ t.snr ≠ [] ∧
     answers (exec (.viterbiDecode 3) s) = true ∧ (after (exec (.tagResult 3) (recv .head [] t))).findRx 3 = none) := by decide +kernel

namespace Tests

/-- HEAD with receptions, their stall 0 the record of address 5 with flags, high-water mark and window. -/
def heard (flags hwm bitmap : Byte) (rs : List Rx) : State :=
  let s := (ledger .head []).setBytes 0x10000000 [5, 0, 0, 0, flags, 0, 0, 0, hwm, 0, 0, 0, bitmap]
  { s with dmd := { s.dmd with rx := rs, used := rs.map (·.rxid) } }

/-- A secured reception of stall 0, its tag verified, with FC 5. -/
def sealedRx : Rx :=
  { rx with hdr := some ⟨false, 1, 4, true, true, 2, 1, 0, 7, 0x3D, 0, 0, 0, List.replicate 12 0⟩, stall := some 0, tagOk := some true
            sechdr := [0, 5, 0, 0, 0], block := [0, 5, 0, 0, 0] }

end Tests

/-- Decisions with a stall: waiting for the lock, with a write of the mark on its way; old, a duplicate with its ACK, new with and without a write of
the mark, and a new neighbour's. -/
theorem test_hyp_AcksOfStalls :
    (let r := sealedRx;
     let old := heard 0x09 100 0 [r];
     let dup := heard 0x09 5 0 [r];
     let high := heard 0x09 9 0 [r];
     let new := heard 0x01 0 0 [r];
     let o := { TxOp.blank with kind := .ack 3, gate := some 3, addr := 5, payload := [0, 0, 0] };
     let ack : State := { dup with mac := { dup.mac with ops := [o] } };
     let first := { r with rxid := 4, decision := some .new, turn := 1, waits := [hwmWord 0] };
     let late := heard 0x01 0 0 [r, first];
     let w : MramWrite := ⟨0x18000000, [(0x18000000, 3), (0x18000001, 0), (0x18000002, 0), (0x18000003, 0)], .commit [4], false⟩;
     let both : State := { late with memu := { late.memu with mramPend := [w] } };
     let t := after (exec (.ackDecision 3) both);
     let lend := heard 0x21 0 0 [{ rx with stall := some 0 }];
     old.replayOf 0 5 = .old ∧ (after (exec (.ackDecision 3) old)).dmd.rx = [] ∧ dup.replayOf 0 5 = .dup ∧ dup.ackOp 3 = none ∧
     ack.ackOp 3 = some o ∧ ack.twinAck r o = false ∧ ((after (exec (.ackDecision 3) ack)).mac.ops.map fun o => (o.status, o.payload)) = [(some 1, [0, 0, 0x10])] ∧
     high.replayOf 0 5 = .new ∧ high.raisesMark 0 5 = false ∧ new.replayOf 0 5 = .new ∧ new.raisesMark 0 5 = true ∧ new.stallFlag 0 5 = false ∧
     new.hotInfo 0 = some ⟨0, false, false⟩ ∧ ((after (exec (.ackDecision 3) new)).memu.mramPend.map fun w => w.addr) = [0x18000000] ∧
     late.commitLocked 0 = true ∧ r.asked = false ∧ both.markWord 0 = some 0x18000000 ∧ (∃ w ∈ both.memu.mramPend, w.waitsFor 0x18000000 = true) ∧
     (t.findRx 3).map (fun x => (x.asked, x.marked, x.turn)) = some (true, true, 2) ∧ (t.memu.mramPend.map fun w => w.bytes.map (·.2)) = [[5, 0, 0, 0]] ∧
     ((after (exec (.ackDecision 3) t)).findRx 3).map (·.asked) = some true ∧
     lend.stallFlag 0 5 = true ∧ lend.indexFor 0 = some 0 ∧ ((after (exec (.ackDecision 3) lend)).memu.mramPend.map fun w => w.addr) = [0x18100000]) := by
  decide +kernel

theorem test_hyp_AcksAndHorizons :
    (let s := recv .head [] rx;
     let o := { TxOp.blank with kind := .ack 3, gate := some 3, hdr := ⟨false, 2, 0, false, false, 0, 0, 0, 0, 0, 0, 0, 0, []⟩ };
     let a : State := { recv .head [] { rx with ack := some 0 } with mac := { s.mac with ops := [o], nextId := 1 } };
     let e : EvAction := ⟨126, 5, 0, 1, 7, some 3⟩;
     let g : State := { s with mac := { s.mac with events := [e] } };
     s.findRx 3 = some rx ∧ s.txMode = true ∧ rx.ack = none ∧ s.freeEntry 0 120 = some 0 ∧ s.ackOp 3 = none ∧
     (after (exec (.ackDecision 3) s)).findRx 3 = some { rx with decision := some .new, ackst := 0 } ∧
     a.ackOp 3 = some o ∧ a.followOn rx ⟨false, 1, 4, false, true, 2, 1, 0, 7, 0x3D, 0, 0, 0, List.replicate 12 0⟩ = none ∧
     (after (exec (.ackCommitHorizon 3) a)).mac.ops = [] ∧ (g.mac.events.find? fun e => e.index == 126 && e.gate.isSome) = some e ∧
     (after (exec (.gateHorizon 126) g)).mac.events = [] ∧ (after (exec (.ackBooking 3) s)).mac.ops.length = 1) := by decide +kernel

theorem test_hyp_CommitMakesVisible :
    (let r := { rx with decision := some .new, turn := 1 };
     let w := { r with waits := [0x18000000] };
     let s := recv .head [] r;
     let c := { sealedRx with decision := some .new, snr := [(1, 10)] };
     let x := { rx with rxid := 4, stall := some 0, asked := true, turn := 1 };
     let b := heard 0x09 3 0 [c];
     let n := heard 0x09 3 0 [c, x];
     let e := { r with ring := some 4 };
     let sec : Hdr := ⟨false, 1, 4, true, true, 2, 1, 0, 7, 0x3D, 0, 0, 0, List.replicate 12 0⟩;
     let plain : Hdr := { sec with sec := false };
     let g : State := { recv .head [(R.HIF_CTL, 0xFFFFFFFF), (R.HIF_RINGr_CFG 4, 0x401), (R.HIF_RINGr_BASE_LO 4, 0x1000)] e with
       hif := { s.hif with pci := ⟨true, false⟩, rings := s.hif.rings.set 4 ⟨[⟨0, 1, .rx 3, .prov, [2]⟩], [], 0⟩ } };
     (recv .head [] w).findRx 3 = some w ∧ s.findRx 3 = some r ∧ r.stall = none ∧
     n.nextAsked 0 = some x ∧ n.coreLocked 0 = false ∧ (n.commitStall c sec .new).2 = true ∧
     ((after (exec (.commit 3) n)).dmd.rx.map fun y => (y.rxid, y.decision)) = [(4, some .new)] ∧
     b.lockAsked 0 = false ∧ b.bankDown 0 = false ∧ (∀ p ∈ c.snr, p.1 < 20) ∧ b.replayOf 0 c.fc = .new ∧ (after (exec (.commit 3) b)).stallLe 0 Rec.hwm 4 = 5 ∧
     (g.commitStall e plain .new).2 = true ∧ ((g.hif.rings[(4 : Fin 8)].resv.map fun v => (v.owner, v.status, v.k)) = [(.rx 3, .prov, 1)]) ∧
     g.ringSecure 4 = false ∧ g.ringErr 4 = false ∧ g.pair (R.HIF_RINGr_WB_LO 4) (R.HIF_RINGr_WB_HI 4) = 0 ∧
     g.hostAddr (g.entryAddr 4 0 + 12) 52 = .bus (0x1000 + 12) ∧ g.hostAddr (g.entryAddr 4 0 + 8) 4 = .bus (0x1000 + 8) ∧
     (after (exec (.commit 3) g)).fld (F.HIF_RINGr_HEAD_COUNT 4) = 1 ∧
     (s.commitStall r plain .new).2 = true ∧
     (after (exec (.commit 3) s)).findRx 3 = none ∧ (after (exec (.commit 3) s)).reg (R.TAL_CNTi 0) = 1) := by decide +kernel

namespace Tests

/-- A state with page-ins and records waiting to be written back. -/
def paging (p : List PageIn) (w : List (Nat × List Byte)) (l : List (Nat × Word)) : State :=
  let s := inMode .head l
  { s with lgr := { s.lgr with pages := p, wb := w } }

/-- The cold store and its directory in SRAM, SALT such that address 7 falls in lines 0 and 1; the directory gives it record 3. -/
def cold (p : List PageIn) (w : List (Nat × List Byte)) (base : Word) : State :=
  (paging p w [(R.LGR_CTL, 3), (R.LGR_COLD_BASE, base), (R.LGR_DIR_BASE, 0x10140000), (R.LGR_DIR_SALT, 7)]).setBytes 0x10140000 (dirEntry 7 3 true)

/-- The first n stalls are lent, with COLD_EN = 0. -/
def noStalls (n : Nat) : State :=
  { paging [⟨7, 3, none⟩] [] [(R.LGR_CTL, 1)] with lgr := { (paging [⟨7, 3, none⟩] [] []).lgr with hot := (List.range n).map fun i => (i, ⟨i, false, false⟩) } }

end Tests

theorem test_stall_taken (i n : Nat) (h : i < n) : ((noStalls n).hotInfo i).isNone = false := by
  have key : ∀ (l : List Nat), i ∈ l → (kget? (l.map fun i => (i, (⟨i, false, false⟩ : HotStall))) i).isNone = false := by
    intro l
    induction l with
    | nil => intro h; cases h
    | cons a l ih =>
      intro h
      simp only [List.map_cons, kget?]
      by_cases e : a = i
      · simp [e]
      · simp only [if_neg e]; exact ih ((List.mem_cons.1 h).resolve_left fun x => e x.symm)
  exact key _ (List.mem_range.2 h)

theorem test_hyp_PageInFindsNoStall :
    (noStalls 4096).freeStall = none ∧ (noStalls 4096).victim = none ∧ (noStalls 4096).on F.LGR_CTL_EN = true := by
  refine ⟨?_, rfl, rfl⟩
  rw [State.freeStall, List.find?_eq_none]
  intro i hi
  simp [test_stall_taken i 4096 (List.mem_range.1 hi)]

/-- A page-in starts; it ends from the write-back buffer, and fails on a line external memory cannot give; write-backs, rebuild and sweep. -/
theorem test_hyp_PageInsWriteBacksAndRebuild :
    (let p := cold [⟨7, 3, none⟩] [(3, 7 :: List.replicate 127 0)] 0x10150000;
     let q := cold [⟨7, 3, some 0⟩] [(3, 7 :: List.replicate 127 0)] 0x10150000;
     let e := cold [⟨7, 3, some 0⟩] [] 0xC0000000;
     let joined : State := { q with lgr := { q.lgr with hot := [(4, ⟨3, false, false⟩)] } }.setBytes (stallBase 4) [7];
     let none_ := fun (s : State) => { s with lgr := { s.lgr with pages := [] } };
     (p.lgr.pages.any fun p => p.addr == 7 && p.stall.isNone) = true ∧ p.on F.LGR_CTL_EN = true ∧ p.hotFind 7 = none ∧ p.takeStall.2 = some 0 ∧
     (p.setReg R.LGR_CTL 2).on F.LGR_CTL_EN = false ∧ joined.hotFind 7 = some 4 ∧ (after (exec (.pageInComplete 7 .good) joined)).lgr.pages = [] ∧
     (q.lgr.pages.find? fun p => p.addr == 7) = some ⟨7, 3, some 0⟩ ∧ ((none_ q).recordOf 7).2 = some (3, true) ∧ ((none_ q).finishPageIn 7 0 3).2 = true ∧
     (after (exec (.pageInComplete 7 .weak) q)).hotFind 7 = some 0 ∧ (after (exec (.pageInComplete 7 .uncorrectable) q)).on F.LGR_FLAGS_INTEGRITY = true ∧
     ((none_ e).recordOf 7).2 = some (3, true) ∧ ((none_ e).finishPageIn 7 0 3).2 = false ∧ (p.lgr.wb.find? fun p => p.1 == 3) = some (3, 7 :: List.replicate 127 0) ∧
     State.reset.lgr.wb = [] ∧ (inMode .head [(R.LGR_CTL, 1)]).on F.LGR_CTL_EN = true ∧ State.reset.lgr.rebuild = none ∧
     (let r : State := { State.reset with lgr := { State.reset.lgr with rebuild := some 5 } };
      r.lgr.rebuild = some 5 ∧ (after (exec .rebuildDone r)).fld F.LGR_REBUILD_STAT_FOUND = 5) ∧
     State.reset.on F.LGR_STAT_SWEEP_BUSY = false ∧ (after (exec .lgrSweep State.reset)).on F.LGR_STAT_SWEEP_BUSY = true ∧
     (st [(R.LGR_CTL, 0)]).failingLines 0 = [] ∧ (st [(R.LGR_CTL, 0)]).failingLines 1 = [] ∧
     (∀ r ∈ State.reset.dmd.rx, r.stall = none) ∧ ((recv .head [(R.LGR_CTL, 1)] { rx with stall := some 0 }).dmd.rx.filter fun r => r.stall.isSome).length = 1 ∧
     (after (exec .ledgerDisable (recv .head [(R.LGR_CTL, 1)] { rx with stall := some 0 }))).dmd.rx = []) := by decide +kernel

/-- Stall 0 holds the record of address 5, ACTIVE; commands on it, on an address without a record, and an image to import. -/
theorem test_hyp_LedgerCommands :
    (let s := ledger .head [(R.LGR_CMD_ADDR, 5)];
     let n := ledger .head [(R.LGR_CMD_ADDR, 6), (R.LGR_CMD_BUF, 0x10140000)];
     let m := n.setBytes 0x10140000 [9, 0, 0, 0, 1];
     let w := ({ m with lgr := { m.lgr with hot := [(0, ⟨0, false, false⟩), (1, { c := 1, dirty := false, waiting := true })] } } : State).setBytes (stallBase 1) [9];
     let old := (ledger .head [(R.LGR_CMD_ADDR, 5), (R.LGR_CMD_BUF, 0x10140000)]).setBytes 0x10140000 [5, 0, 0, 0, 1];
     let pin := s.setStallState 0 2;
     let lost := s.setStallState 0 3;
     let held : State := { s with dmd := { s.dmd with rx := [{ rx with stall := some 0 }] } };
     s.sys.mode ≠ .dormant ∧ s.lgr.cmd = none ∧ (s.recordOf 5).2 = some (0, true) ∧ (n.recordOf 6).2 = none ∧ (∀ p ∈ n.lgr.pages, p.addr ≠ 6) ∧
     s.hotFind 5 = some 0 ∧ s.stallFlag 0 5 = false ∧ s.hotInfo 0 = some ⟨0, false, false⟩ ∧ s.coreLocked 0 = false ∧ s.commitLocked 0 = false ∧
     s.stallState 0 = 1 ∧ s.pinned < s.pinMax ∧ pin.stallState 0 = 2 ∧ lost.stallState 0 = 3 ∧ held.stallHeld 0 = true ∧
     { rx with stall := some 0, decision := some .new }.stall = some 0 ∧
     ({ s with dmd := { s.dmd with rx := [{ rx with stall := some 0, decision := some .new }] } } : State).commitLocked 0 = true ∧
     s.stallHeld 0 = false ∧ (∀ d ∈ s.mac.store, d.addr ≠ 5) ∧ s.coldOn = false ∧ s.sys.mramFrozen = false ∧
     inFirmware 0x18400000 = true ∧ inFirmware 0x10140000 = false ∧
     (n.unitData [] 0x10140000 128).2.getD 4 0 = 0 ∧ (old.unitData [] 0x10140000 128).2.take 5 = [5, 0, 0, 0, 1] ∧
     m.hotFind 9 = none ∧ (w.recordOf 9).2 = some (1, false) ∧ w.hotFind 9 = none ∧ (w.marksRead 1 []).2 = true ∧ w.coldOn = false ∧
     (w.marksRead 1 [(0x18000004, .uncorrectable)]).2 = false ∧ (after (exec (.lgrImport (.core 0) []) w)).hotFind 9 = some 1 ∧
     (∀ x ∈ s.memu.mramPend, x.writer ≠ .command) ∧
     (m.recordOf 9).2 = none ∧ m.takeStall.2 = some 1 ∧ (m.newRecord 9 1).2 = some 1 ∧
     (after (exec (.lgrImport (.core 0) []) m)).hotFind 9 = some 1 ∧ (after (exec (.lgrFree (.core 0)) s)).hotInfo 0 = none ∧
     (let d : State := { s with lgr := { s.lgr with cmd := some (15, 4095) } };
      (after (exec .lgrCmdComplete d)).fld F.LGR_CMD_STAT_STALL = 4095)) := by decide +kernel

/-- Every stall pinned up to the limit of LGR_CTL or its reset value: the limit 0 of R276 is met by no pinned stall. -/
theorem test_hyp_PinLimit : (let s := ledger .head [(R.LGR_PIN_MAX, 0)]; s.stallState 0 ≤ 1 ∧ s.pinMax ≤ s.pinned) := by decide +kernel

theorem test_hyp_ColdStoreRegistersLocked :
    (st [(R.LGR_CTL, 1)]).on F.LGR_CTL_EN = true ∧ State.reset.on F.LGR_CTL_EN = false ∧ State.reset.sys.mode ≠ .dormant ∧
    (after (exec (.registerWrite (.core 0) 0x400B0014 0xFFFFFFFF) State.reset)).reg R.LGR_COLD_BASE = 0xFFFFFF80 := by decide +kernel

/-- A superframe in HEAD with a beacon on port 0, lots 0 to 2, under named slot 0. -/
theorem test_hyp_SuperframesAndBeacons :
    (let b := inMode .head [(R.MAC_CTL, 0xFFFFFFFF), (R.MAC_BCN_CTL, 1), (R.MAC_BCN_LOTSn 0, 7), (R.MAC_SF_CTL, 0xFFFFFFFF)];
     let k : KeySlot := ⟨2, 0, true, true, 1, List.replicate 16 0, 0, 0, 0⟩;
     let s : State := { b with key := { b.key with named := [(0, k)] }, time := 452984832 - 626688 };
     let early : State := { s with time := 452984832 - 626689 };
     let v := inMode .survey [];
     s.sys.phase = .running ∧ s.sys.mode ≠ .survey ∧ s.mac.offGrid = false ∧ s.mac.built = none ∧ usDticks (100 * max 10 (s.fld F.MAC_SF_CTL_BCN_LEAD)) = 626688 ∧ s.nextStart ≤ s.now + 626688 ∧
     early.now + 626688 < early.nextStart ∧ s.sys.pend = none ∧
     s.on F.MAC_CTL_BCN_EN = true ∧ (∀ m : Port, (s.sampleSf.bcn.getLsbD m && s.txPort m == m) = (m == 0)) ∧
     s.beaconPort s.sampleSf 0 = true ∧ s.mac.store = [] ∧ s.namedKey (natBits s.sampleSf.bcn.toNat 15 8) = some k ∧
     v.sys.mode = .survey ∧ 0 < v.sfDticks ∧ (after (exec .beaconBuild s)).mac.ops.length = 1 ∧
     answers (exec .superframeStart s) = true ∧ answers (exec (.sfOriginWrite (.core 0) 5) v) = true) := by decide +kernel

/-- A slot's list is read from SRAM; windows, closed and not, of the record at address 5; an EVENT action. -/
theorem test_hyp_WakesAndEventActions :
    (let s := ledger .head [(R.MAC_CTL, 0xFFFFFFFF), (R.MAC_ALM_BASE, 0x10140000)];
     let one := s.setBytes 0x10140008 [0, 2, 0x14, 0x10, 1];
     let two := s.setBytes 0x10140008 [0, 2, 0x14, 0x10, 2];
     let m : State := { s with mac := { s.mac with walked := [1] } };
     let w : Window := ⟨3, 5, 0, 0, [1], 0, 0, 0, 0, 0, true, true, false, false⟩;
     let win := fun (w : Window) (s : State) => ({ s with mac := { s.mac with windows := [w] } } : State);
     s.on F.MAC_CTL_WALK_EN = true ∧ modeWalks s.sys.mode = true ∧ s.walkOf 1 = some s.mac.cur ∧ s.mac.cur.bsn.toNat * 64 + 1 = 1 ∧
     1 ∈ m.mac.walked ∧ 1 ∉ s.mac.walked ∧ (s.reg R.MAC_ALM_BASE).toNat / 8 * 8 + 8 = 0x10140008 ∧
     ((s.unitRead 0x10140008 8).2.map fun d => leNat ((d.drop 4).take 2)) = some 0 ∧
     ((one.unitRead 0x10140008 8).2.map fun d => (leNat ((d.drop 4).take 2), leNat (d.take 4))) = some (1, 0x10140200) ∧
     ((one.unitRead 0x10140200 8).2.isSome) = true ∧ s.now + max 16 (s.fld F.MAC_SF_CTL_WALK_LEAD) * 18432 < 384 * 18432 ∧
     ¬ ({ s with time := 384 * 18432 } : State).now + max 16 (s.fld F.MAC_SF_CTL_WALK_LEAD) * 18432 < 384 * 18432 ∧
     1 ∈ (after (exec (.almanacWalk 1) { two with time := 384 * 18432 })).mac.walked ∧
     ((two.unitRead 0x10140008 8).2.map fun d => leNat ((d.drop 4).take 2)) = some 2 ∧ ((two.unitRead 0x10140208 8).2.isSome) = true ∧
     ((win w s).mac.windows.find? fun w => w.id == 3) = some w ∧
     (win { w with closed := false } s).mac.windows.length = 1 ∧ (win w s).windowBusy w = false ∧ w.done = false ∧ (s.pageInNow 5).2 = some 0 ∧
     ((after (exec (.wakeSettled 3) (win { w with hit := true } s))).mac.windows.all fun w => w.done) = true ∧
     max 1 (s.fld F.MAC_SEARCH_SEARCH_LIMIT) = 4 ∧ s.stallState 0 ≠ 3 ∧
     ((after (exec (.wakeSettled 3) (win w (s.setEph 0 { s.ephOf 0 with searches := 3 })))).stallState 0 = 3) ∧
     ((after (exec (.wakeSettled 3) (win w (s.setEph 0 { s.ephOf 0 with searches := 2 })))).stallState 0 = 1) ∧
     (let e : EvAction := ⟨126, 5, 0, 1, 7, none⟩;
      let g : State := { s with mac := { s.mac with events := [e] } };
      (g.mac.events.find? fun e => e.index == 126 && e.gate.isNone) = some e ∧ (after (exec (.tqExpired 126) g)).mac.events = [])) := by
  decide +kernel

/-! ### The master, host submissions and keys -/

namespace Tests

/-- A decoded header of a frame type and length. -/
def hdrOf (ft len : Nat) : Hdr := ⟨false, ft, 0, false, false, 2, len, 0, 0, 0, 0, 0, 0, List.replicate 12 0⟩

/-- The beacon payload of a master whose SLOTLEN is 384 or 400, under the key of zeros. -/
def masterPayload (n : Nat) : List Byte :=
  if n = 384 then [0, 0, 3, 0, 128, 1, 232, 3, 0, 0, 0, 0, 0, 0, 2, 1, 0, 0, 0, 0, 0, 0, 0, 0, 0, 195, 47, 7, 157, 126, 199, 0, 148]
  else [0, 0, 3, 0, 144, 1, 232, 3, 0, 0, 0, 0, 0, 0, 2, 1, 0, 0, 0, 0, 0, 0, 0, 0, 0, 191, 137, 66, 127, 250, 143, 145, 174]

/-- A device that follows, with the key of zeros in slot 0, and the master's beacon received. -/
def follower (m : Mode) (n : Nat) : State :=
  let s := recv m [] { rx with hdr := some (hdrOf 0 33), block := masterPayload n }
  { s with key := { s.key with named := [(0, ⟨2, 0, true, true, 1, List.replicate 16 0, 0, 0, 0⟩)] } }

/-- Ring 4 enabled with one entry submitted at host address 0x1000, the ledger holding address 5. -/
def submits (b : List (Nat × Byte)) : State :=
  let s := ledger .head [(R.HIF_CTL, 0xFFFFFFFF), (R.HIF_RINGr_CFG 4, 0x401), (R.HIF_RINGr_TAIL 4, 1), (R.HIF_RINGr_BASE_LO 4, 0x1000)]
  { s with hostMem := b, hif := { s.hif with pci := ⟨true, false⟩ } }

/-- Key-encryption keys of zeros, the bytes at 0x1014_0000 as the command's buffer, a data key's record as the MRAM holds it. -/
def keys (buf rec : List Byte) : State :=
  let s := ((ledger .head [(R.KEY_CMD_BUF, 0x10140000), (R.KEY_CMD_ADDR, 5), (R.KEY_STAT, 0xFFFFFFFF)]).setBytes 0x10140000 buf).setBytes (keyRecord 5) rec
  { s with key := { s.key with keks := some Keks.zero } }

/-- A key blob: POLICY 1, ALG 0, slot 5, KVER 1, a key of zeros, wrapped under the KEK of zeros. -/
def blob : List Byte :=
  [1, 1, 0, 16, 5, 3, 1, 0, 142, 187, 17, 189, 13, 49, 181, 206, 233, 217, 208, 44, 197, 75, 204, 55, 113, 190, 14, 30, 2, 203, 167, 22, 7, 163, 220, 47,
   106, 50, 195, 6]

/-- A stall key's blob for address 5, a key of zeros under the KEK of zeros. -/
def stallBlob : List Byte := [21, 47, 148, 137, 170, 162, 180, 112, 106, 198, 69, 93, 114, 106, 142, 250, 103, 102, 157, 8, 212, 99, 209, 246]

/-- The number of the result of the checks of the blob for a slot with a recorded KVER. -/
def checked (recorded slot : Nat) (b : List Byte) : Nat :=
  match Keks.zero.checkBlob slot recorded b with
  | .ok k => 100 + k.kver.toNat
  | .error e => e.1

/-- The stall of a command, or 100 more than its result. -/
def stalled (s : State) (a : Word) : Nat :=
  match (s.cmdStall a).2 with
  | .ok i => i
  | .error n => 100 + n

end Tests

theorem test_hyp_FollowingTheMaster :
    (let s := follower .follow 384;
     let r := { rx with hdr := some (hdrOf 0 33), block := masterPayload 384 };
     let d := follower .holdover 400;
     let m : State := { s with mac := { s.mac with follow := { s.mac.follow with slotlen := 384, ownAt := 0 } }, time := 64 * 384 * 18432 + 400 * 18432 };
     s.findRx 3 = some r ∧ r.hdr = some (hdrOf 0 33) ∧ r.snr ≠ [] ∧ (recv .follow [] r).masterBeacon r (hdrOf 0 33) = none ∧
     ((s.masterBeacon r (hdrOf 0 33)).map fun b => b.slotlen) = some s.mac.cur.slotlen ∧
     ((d.masterBeacon { r with block := masterPayload 400 } (hdrOf 0 33)).map fun b => b.slotlen) = some 400 ∧
     (let stale : State := { s with mac := { s.mac with follow := { s.mac.follow with epochs := [(natBits s.followWord.toNat 13 0, 1000)] } } };
      kget? stale.mac.follow.epochs (natBits stale.followWord.toNat 13 0) = some (parseBeacon r.payload).epoch ∧ stale.masterBeacon r (hdrOf 0 33) = none) ∧
     m.sys.mode = .follow ∧ m.masterPeriod ≠ 0 ∧ m.beaconOver 1 = true ∧ { m with time := 64 * 384 * 18432 }.beaconOver 1 = false ∧
     (((m.now : Rat) - m.masterStart) / m.masterPeriod).floor = 1 ∧ m.mac.follow.counted ≠ some (BitVec.ofInt 16 ((m.mac.follow.bsn.toNat : Int) + 1)) ∧
     (after (exec .masterBeaconMiss m)).fld F.MAC_MSTAT_MISSED = 1) := by decide +kernel

/-- Ring 4 in its turn with an entry of MODE 3, of MODE 2 to a record and to none, and of MODE 0; and one the DMA cannot read. -/
theorem test_hyp_SubmissionsAreFetched :
    (let three := submits [(0x1010, 3)];
     let two := submits [(0x1010, 2), (0x1011, 1), (0x1018, 5)];
     let none_ := submits [(0x1010, 2), (0x1011, 1), (0x1018, 6)];
     let zero := submits [(0x1011, 1), (0x101C, 2)];
     let desc := fun (s : State) => parseSub ((s.dmaRead (s.entryAddr 4 s.hif.rings[(4 : Fin 8)].idx) 64).2.getD []);
     State.reset.fetchTurn = none ∧ three.fetchTurn = some 4 ∧ two.fetchTurn = some 4 ∧ none_.fetchTurn = some 4 ∧ zero.fetchTurn = some 4 ∧
     ((three.setReg (R.HIF_RINGr_BASE_HI 4) 0xFFFFFFFF).dmaRead ((three.setReg (R.HIF_RINGr_BASE_HI 4) 0xFFFFFFFF).entryAddr 4 0) 64).2 = none ∧
     (desc three).mode = 3 ∧ (desc two).mode = 2 ∧ two.descBad (desc two) true = false ∧ (two.recordOf (netAddr two.domain 5)).2 = some (0, true) ∧
     (none_.recordOf (netAddr none_.domain 6)).2 = none ∧ (desc zero).mode = 0 ∧ zero.descBad (desc zero) false = false ∧
     (after (exec (.submissionFetch 4 true true) two)).mac.store.length = 1 ∧
     answers (exec (.submissionFetch 4 true true) zero) = true) := by decide +kernel

/-- The blob unwraps to its own header and the key. -/
theorem test_blob_unwraps :
    unwrapPad (Keks.zero.forPolicy 1) (((blob ++ List.replicate 48 0).drop 8).take (16 + 16)) =
      some ([1, 1, 0, 16, 5, 3, 1, 0] ++ List.replicate 16 0) := by decide +kernel

/-- What the checks of R314 answer for a blob with that header: WRONG_SLOT for slot 6, ROLLBACK below the record's KVER, else the key. -/
theorem test_blob_checks (recorded slot : Nat) (bl p : List Byte) (h : unwrapPad (Keks.zero.forPolicy 1) ((bl.drop 8).take (16 + 16)) = some p)
    (hb : bl.take 8 = [1, 1, 0, 16, 5, 3, 1, 0]) (hp : p.take 8 = [1, 1, 0, 16, 5, 3, 1, 0]) (hl : p.length = 24) :
    checked recorded slot bl = if 5 ≠ slot then 3 else if 1 < recorded then 4 else 101 := by
  unfold checked Keks.checkBlob
  rw [hb]
  have h' : unwrapPad (Keks.zero.forPolicy ((([1, 1, 0, 16, 5, 3, 1, 0] : List Byte).getD 1 0).toNat))
      ((bl.drop 8).take (((([1, 1, 0, 16, 5, 3, 1, 0] : List Byte).getD 3 0).toNat) + 16)) = some p := h
  simp only [h', hp, hl]
  by_cases h5 : 5 = slot
  · subst h5
    by_cases hr : 1 < recorded <;> simp [hr, Kr.rollback, policyAllows, leNat]
  · simp [h5, Kr.wrongSlot, policyAllows]

/-- Slot 5, in which that blob loads: without a record, and under a record with an equal or a higher KVER; and slot 6. -/
theorem test_hyp_KeyCommands :
    (let s := keys blob [];
     let e := keys blob [1, 0, 0, 0, 7];
     s.key.cmd = none ∧ State.reset.key.keks = none ∧ s.key.keks = some Keks.zero ∧ s.memoryInUse 5 = false ∧ s.noCopy 5 = false ∧
     (s.readBlob 0x10140000 []).2 = blob ∧ checked 0 5 [] = 2 ∧ (s.keyRecordRead 5 []).2 = (0, 0) ∧
     (e.keyRecordRead 5 []).2 = (1, 7) ∧ ((keys blob [2]).keyRecordRead 5 []).2.1 = 2) := by decide +kernel

/-- The stall's blob unwraps under the address 5, and so not under another. -/
theorem test_stall_blob_unwraps : (unwrap Keks.zero.slot stallBlob).1 = [0xA6, 0xA6, 0xA6, 0xA6] ++ leBytes 4 5 := by decide +kernel

theorem test_hyp_KeyCommandsOfStalls :
    (let s := keys blob [];
     let t := keys stallBlob [];
     let l : State := { s with key := { s.key with loading := some (5, ⟨1, 0, true, true, 1, [], 0, 0, 0⟩), cmd := some (5, 0) } };
     let i : State := { s with key := { s.key with named := [(5, ⟨1, 0, true, true, 1, [], 9, 9, 0⟩)] } };
     stalled s 6 = 101 ∧ stalled t 5 = 0 ∧
     (t.unitData [] 0x10140000 24).2 = stallBlob ∧ t.noCopy 256 = false ∧ (4351 : BitVec 13).toNat < 4352 ∧
     s.on F.KEY_STAT_RNG_OK = true ∧ State.reset.on F.KEY_STAT_RNG_OK = false ∧ s.dmd.rx = [] ∧ s.mac.ops = [] ∧
     i.namedKey 5 = some ⟨1, 0, true, true, 1, [], 9, 9, 0⟩ ∧ (after (exec (.keyInfo 5) i)).reg R.KEY_SLOT_TXFC = 9 ∧
     l.key.cmd = some (5, 0) ∧ l.key.loading ≠ none ∧ (after (exec (.keyErase 255) s)).key.cmd = some (255, 0)) := by decide +kernel

/-- Cipher jobs: a descriptor of zeros is bad; AES-CTR over no data runs, under a bound key, none, or an erased one; a CMAC that does not verify. -/
theorem test_hyp_RandomJobsAndCheckValues :
    (let s := keys [] [];
     let b : Bound := ⟨5, 0, List.replicate 16 0⟩;
     let ctr : List Byte := [1, 0, 5, 0, 0, 0, 0, 0, 0, 0, 0, 0, 16, 0, 0, 0, 0, 1, 0x14, 0x10];
     let mac : List Byte := [0x14, 4, 5] ++ zeros 22 ++ [1, 0x14, 0x10];
     let full := fun (d : List Byte) => d ++ List.replicate (32 - d.length) 0;
     let desc := fun (d : List Byte) => parseJob (full d);
     let j : CipherJob := ⟨0, 0x10140000, some (full ctr), some b, false⟩;
     let q : State := { s with key := { s.key with jobs := [(2, j)] } };
     let lost : State := { s with key := { s.key with jobs := [(2, { j with words := none })] } };
     s.on F.KEY_STAT_RNG_OK = true ∧ kget? s.key.jobs 2 = none ∧ kget? q.key.jobs 2 = some j ∧
     (after (exec (.cjobDone 2) lost)).key.jobs = [] ∧ (desc []).valid = false ∧ (desc ctr).valid = true ∧
     ((s.jobInputs (desc ctr)).2.isSome) = true ∧ ((desc ctr).run b.key (List.replicate 16 0) [] []).2 = true ∧ (s.unitWrite 0 []).2 = true ∧
     (desc mac).valid = true ∧ ((s.jobInputs (desc mac)).2.isSome) = true ∧ ((desc mac).run b.key [] [] [0, 0, 0, 0]).2 = false ∧
     (after (exec (.cjobDone 2) q)).key.jobs = [] ∧ (0x80000010 : Word).getLsbD 31 = true ∧ (0x80000010 : Word).toNat / 16 % 8 = 1 ∧
     s.fld (F.CRC_CTXn_CTL_SRC 0) = 0 ∧ (st [(R.CRC_CTXn_CTL 0, 0x10)]).fld (F.CRC_CTXn_CTL_SRC 0) ≠ 0) := by decide +kernel

/-- The CRC worked example through the block: INIT of CRC-32C, then "1234". -/
theorem test_crc_steps :
    (after (exec (.crcDataWrite 0 0x34333231) (after (exec (.crcInit 0 0x80000001) State.reset)))).fld (F.CRC_CTXn_STAT_BYTES 0) = 4 := by
  decide +kernel

/-! ### Events, memories and external memory -/

theorem test_hyp_EventsAndTheTally :
    (let e : Event := ⟨0x100, 32, 0, 0, 5, 5, none⟩;
     let q := fun (l : List (Nat × Word)) => ({ st l with evc := { State.reset.evc with staged := [e] } } : State);
     let host : State := { q [(R.EVC_ROUTEr 1, 0x100), (R.EVC_CTL, 0x401), (R.EVC_HR_BASE_LO, 0x1000)] with
       hif := { State.reset.hif with pci := ⟨true, false⟩ } };
     let full := host.setReg R.EVC_HR_PROD (BitVec.ofNat 32 host.hostRingSize);
     let lost : State := { st [(R.EVC_LOSTd 0, 1)] with cycle := { State.reset.cycle with record := some e, went := 1, counts := [(R.EVC_LOSTd 0, 1)] } };
     lost.writtenTo 0 = some e ∧ (R.EVC_LOSTd 0, 1) ∈ lost.cycle.counts ∧ (after (exec (.evcQclr 1) lost)).reg (R.EVC_LOSTd 0) = 0 ∧
     State.reset.mac.line = [] ∧ (after (exec .tallyClear (st [(R.TAL_SQn 3, 2), (R.TAL_EVCNTc 9, 1)]))).reg (R.TAL_SQn 3) = 0 ∧
     State.reset.evc.staged = [] ∧ State.reset.evc.held = [] ∧ host.evc.staged = [e] ∧
     (let h : State := { State.reset with evc := { State.reset.evc with held := [{ e with raised := 0 }, { e with raised := 1 }] } };
      (h.evc.held.takeWhile fun x => decide (x.raised < h.cycle.no + 1)).length = 1) ∧
     (q [(R.EVC_ROUTEr 1, 1)]).on (F.EVC_ROUTEr_HOST e.area) = false ∧ host.on (F.EVC_ROUTEr_HOST e.area) = true ∧ host.eventCores e = 0 ∧
     host.on F.EVC_CTL_HR_EN = true ∧ host.evc.hostErr = false ∧ (full.fld F.EVC_HR_PROD_PROD + 0x10000 - full.fld F.EVC_HR_CONS_CONS) % 0x10000 = full.hostRingSize ∧
     (({ host with evc := { host.evc with staged := [], hostSeq := host.evc.hostSeq + 1 } } : State).dmaWrite 0x1000
       (Record.bytes ⟨e, host.evc.hostSeq, 0⟩)).2 = true ∧ (after (exec (.eventRecordWrite true) host)).fld F.EVC_HR_PROD_PROD = 1 ∧
     (after (exec (.eventRecordWrite true) (q [(R.EVC_ROUTEr 1, 1)]))).writtenTo 0 = some e ∧ host.writtenTo 0 = none ∧
     (0x401 : Word).getLsbD 0 = true ∧ (0x401 : Word).toNat / 2 ^ 16 % 256 = 0 ∧ State.reset.on F.EVC_CTL_HR_EN = false) := by decide +kernel

theorem test_hyp_MarchRunsMramWritesAndWipes :
    (let v : Word := 0x80010210;
     let run : State := { State.reset with memu := { State.reset.memu with march := some ⟨true, 2, 0x10⟩ } };
     let keep : State := { State.reset with memu := { State.reset.memu with march := some ⟨false, 2, 0x10⟩ } };
     let w : MramWrite := ⟨0x18400000, [(0x18400000, 7)], .core 0, false⟩;
     let wait : State := { State.reset with memu := { State.reset.memu with mramPend := [w] } };
     let go : State := { State.reset with memu := { State.reset.memu with mramPend := [{ w with started := true }] } };
     let scrub := st [(R.MEM_MSCRUB, 0xFFFFFFFF)];
     let wiped : State := { State.reset with memu := { State.reset.memu with wipe := some 1 } };
     State.reset.memu.march = none ∧ (v.setWidth 8 : BitVec 8) ≠ 0 ∧ v.getLsbD 16 = true ∧ v.getLsbD 31 = true ∧
     (∀ i : Fin 8, (v.setWidth 8 : BitVec 8).getLsbD i = true → 20 ≤ 8 * (v.toNat / 2 ^ 8 % 8) + i.val ∧ 8 * (v.toNat / 2 ^ 8 % 8) + i.val ≤ 35) ∧
     (after (exec (.marchRequest v) State.reset)).memu.march = some ⟨true, 2, 0x10⟩ ∧ sharedBanks 2 0x10 = true ∧ run.fills = [] ∧ (after (exec (.marchDone []) run)).memu.march = none ∧
     keep.sys.mramFrozen = false ∧ (after (exec (.marchDone [⟨20, [(3, 1022)], false⟩]) keep)).fld F.MEM_MARCH_STAT_RESULT = 2 ∧
     wait.mramOpen 0x18400000 = true ∧ takeFirst (fun x => x.addr == 0x18400000 && x.started) go.memu.mramPend = some ({ w with started := true }, []) ∧
     (let c : MramWrite := { w with writer := .commit [3], started := true };
      takeFirst (fun x => x.addr == 0x18400000 && x.started) [c] = some (c, [])) ∧ (after (exec (.mramWriteComplete 0x18400000 .verified) go)).byte 0x18400000 = 7 ∧
     (kget? go.memu.spares 4).getD 0 < 1024 ∧ scrub.on F.MEM_MSCRUB_EN = true ∧ (st [(R.MEM_MSCRUB, 0)]).on F.MEM_MSCRUB_EN = false ∧
     (let t := after (exec (.partitionWiped []) { wiped with lgr := { wiped.lgr with hot := [(0, ⟨0, false, false⟩)] }, dmd := { wiped.dmd with rx := [{ rx with stall := some 0 }] } });
      t.memu.wipe = none ∧ t.lgr.hot = [] ∧ (t.dmd.rx.map (·.stall)) = []) ∧ (st [(R.LGR_CTL, 1)]).on F.LGR_CTL_EN = true) := by decide +kernel

/-- Region 2 over 4 KiB at the start of external memory, encrypted (MODE 1) and authenticated (MODE 2) under a memory key in slot 0. -/
theorem test_hyp_ExternalMemoryControl :
    (let m := fun (alg : Nat) (l : List (Nat × Word)) =>
       ({ st (l ++ [(R.DDR_STAT, 0xFFFFFFFF), (R.DDR_RrBASE 2, 0x80000000), (R.DDR_RrSIZE 2, 0x1000), (R.DDR_RrTAG 2, 0x80002000)]) with
          key := { State.reset.key with named := [(0, ⟨3, alg, true, true, 0, List.replicate 32 0, 0, 0, 0⟩)] } } : State);
     let en := st [(R.DDR_RrCTL 2, 0x21)];
     let fill := { m 1 [(R.DDR_RrCTL 2, 0x21)] with memu := { State.reset.memu with ddrFill := [2] } };
     let swept : State := { en with memu := { en.memu with ddrSweep := [2] } };
     (m 1 []).on F.DDR_STAT_TRAINING = true ∧ (m 1 []).sys.mode ≠ .lastgasp ∧ (inMode .lastgasp []).sys.mode = .lastgasp ∧ State.reset.on F.DDR_STAT_TRAINING = false ∧ (m 1 []).on F.DDR_STAT_READY = true ∧
     en.on (F.DDR_RrCTL_EN 2) = true ∧ (m 1 []).on (F.DDR_RrCTL_EN 2) = false ∧
     (m 2 [(R.DDR_RrCTL 2, 0x10)]).regionAllowed 2 = true ∧ (m 1 [(R.DDR_RrCTL 2, 0x20)]).regionAllowed 2 = true ∧
     (m 1 [(R.DDR_RrCTL 2, 0x10)]).regionAllowed 2 = false ∧ 2 ∈ fill.memu.ddrFill ∧ (fill.regionSeal 2).isSome ∧
     fill.on (F.DDR_RrCTL_EN 2) = true ∧ en.fld (F.DDR_RrCTL_MODE 2) = 2 ∧ en.on (F.DDR_RrCTL_SWEEPING 2) = false ∧ 2 ∈ swept.memu.ddrSweep ∧
     (2 : Fin 8) ∉ en.memu.ddrFill ∧ (after (exec (.ddrRegionEnable 2 0x11) (m 2 []))).on (F.DDR_RrCTL_READY 2) = true ∧
     (after (exec (.ddrRegionEnable 2 0x21) (m 1 []))).memu.ddrFill = [2]) := by decide +kernel

/-! ### Security, the ring, ageing, serial ports and the host -/

namespace Tests

/-- The device in a life-cycle step, its command buffers in SRAM, an identity key (the number 1). -/
def secured (steps : Nat) (l : List (Nat × Word)) : State :=
  let s := inMode .head (l ++ [(R.SEC_CMD_BUF, 0x10140000), (R.SEC_CMD_OUT, 0x10150000)])
  { s with otp := { s.otp with lcSteps := steps }, sec := { s.sec with idk := some (List.replicate 47 0 ++ [1]) } }

def withSec (s : State) (f : Sec → Sec) : State := { s with sec := f s.sec }

/-- The ring on, as member c. -/
def member (c : BitVec 5) (l : List (Nat × Word)) : State :=
  let s := inMode .head (l ++ [(R.DMD_CTL, 0), (R.TXP_CTL, 0)])
  { s with sys := { s.sys with straps := ⟨0, false, c⟩ } }

/-- Receiving on UART 0, 8 data bits. -/
def serial (l : List (Nat × Word)) : State := st (l ++ [(R.UARTn_CTL 0, 7)])

end Tests

/-- A stage with no nonce; one whose token's bytes are zeros; life-cycle commands in each state; reports with and without a leaf key. That a
token is genuine (two signatures that verify) is shown by no small closed state. -/
theorem test_hyp_SecurityCommands :
    (let s := secured 1 [];
     let n := withSec s fun x => { x with nonce := some (List.replicate 16 0) };
     let p := withSec (secured 0 []) fun x => { x with windowEnd := some 5 };
     let g := withSec s fun x => { x with staged := some ⟨.provisioned, .deployed, [], []⟩ };
     s.sys.mode ≠ .dormant ∧ (inMode .dormant []).sys.mode = .dormant ∧ s.sec.cmd = none ∧ s.sec.nonce = none ∧ s.otp.lc = .provisioned ∧ n.sec.nonce = some (List.replicate 16 0) ∧
     ((n.secIn 3088).2.map fun t => t.length) = some 3088 ∧ ((n.secIn 3088).2.map fun t => n.tokenGenuine [1, 2, 3] t) = some false ∧
     s.mayStage .deployed = 0 ∧ s.mayStage .returned ≠ 0 ∧ g.sec.staged ≠ none ∧ s.otp.lcSteps < 32 ∧
     (secured 94 []).otp.lc = .provisioned ∧ 32 ≤ (secured 94 []).otp.lcSteps ∧ p.otp.lc = .maker ∧ p.present = true ∧
     (secured 0 []).present = false ∧ (s.reg R.SEC_CMD_BUF).toNat % 4 = s.fld F.SEC_BOOT_KEYIDX ∧
     (1 ≠ s.fld F.SEC_BOOT_KEYIDX ∧ ∃ i < 4, i ≠ 1 ∧ s.otp.revoke.getLsbD i = false) ∧ State.reset.sec.idk = none ∧ s.sec.idk.isSome ∧
     ((s.secIn 32).2.isSome) = true ∧ secRegion s.secOut 2960 = true ∧ (s.takeLeaf []).2 = none ∧ (s.lmsRead []).2 = (0, false) ∧ (s.secPut (List.replicate 159 0)).2 = true ∧
     ((s.secIn 48).2.isSome) = true) := by decide +kernel

/-- Memory that lists nothing holds the deleted record. -/
theorem test_hyp_RecordDeleted (s : State) (hm : s.mem = []) (hf : s.fills = []) : s.bytes 0x18310000 3089 = pendingBytes none := by
  have h : ∀ i, i < 3089 → s.byte (0x18310000 + i) = 0 := by
    intro i hi
    have d : memDefault [] (0x18310000 + i) = 0 := by
      simp only [memDefault]
      rw [if_neg (by omega)]
      rfl
    simp only [State.byte, hm, hf]
    exact d
  show (List.range 3089).map (fun i => s.byte (0x18310000 + i)) = List.replicate 3089 0
  rw [List.eq_replicate_iff]
  refine ⟨by simp, fun b hb => ?_⟩
  obtain ⟨i, hi, rfl⟩ := List.mem_map.1 hb
  exact h i (List.mem_range.1 hi)

/-- Ends of a command: by its result; staged, its record written and, a word having failed, neither written nor left; burnt; while its words
are on their way. -/
theorem test_hyp_SecurityCommandsEnd :
    (let s := secured 1 [];
     let x : Pending := ⟨.provisioned, .deployed, List.replicate 16 0, List.replicate 3088 0⟩;
     let c := fun (q : SecCmd) => withSec s fun y => { y with cmd := some q };
     let done := c ⟨0, some (some x), [], none, false⟩;
     let half := (c ⟨0, some none, [], none, true⟩).setBytes 0x18310000 [1];
     let busy : State := { done with memu := { done.memu with mramPend := [⟨0x18310000, [], .record .security, true⟩] } };
     (after (exec .secCmdComplete (c ⟨4, none, [], none, false⟩))).fld F.SEC_CMD_STAT_RESULT = 4 ∧
     half.bytes 0x18310000 3089 ≠ pendingBytes none ∧ (after (exec .secCmdComplete half)).fld F.SEC_CMD_STAT_RESULT = 7 ∧
     (∃ w ∈ busy.memu.mramPend, w.writer = .record .security) ∧ (after (exec .secCmdComplete busy)).sec.cmd.isSome ∧
     (after (exec .secCmdComplete (c ⟨0, none, [.revoke 1], none, false⟩))).otp.revoke = 2 ∧
     (after (exec (.deploy .host) s)).sec.cmd.isSome ∧
     ((c ⟨0, none, [], some (0x10150000, [1]), false⟩).secPutAt 0x10150000 [1]).2 = true) := by decide +kernel

theorem test_hyp_PresenceSealAndTamper :
    (let s := inMode .head [];
     let f := fun (g : Sec → Sec) => withSec { s with otp := { s.otp with sealFitted := true } } g;
     let open_ := f fun x => { x with sealHit := 7 };
     let shut := f fun x => { x with sealOk := true, sealMiss := 1 };
     let wipes := inMode .head [(R.SEC_TAMP_CFG, 0xFFFFFFFF)];
     let keep := inMode .head [(R.SEC_TAMP_CFG, 0)];
     let frozen : State := { keep with sys := { s.sys with mramFrozen := true } };
     let w := withSec s fun x => { x with windowEnd := some 5 };
     let fired := after (exec (.tamperFire (.mesh false)) keep);
     s.sealIntact = true ∧ open_.sealIntact = false ∧ w.sec.windowEnd = some 5 ∧ w.now < 5 ∧ s.sys.mode ≠ .service ∧ s.sys.mode ≠ .dormant ∧
     (after (exec .presenceWindowExpire { w with time := 5 })).sec.windowEnd = none ∧
     (withSec (inMode .service []) fun x => { x with windowEnd := some 0 }).sys.mode = .service ∧ s.otp.sealFitted = false ∧
     open_.sec.sealOk = false ∧ shut.sec.sealOk = true ∧ (after (exec (.sealPulse 3 3) open_)).sec.sealOk = true ∧
     (after (exec (.sealPulse 3 4) shut)).sec.sealOk = false ∧ keep.tamperArmed 4 = true ∧ keep.tamperBit 4 = false ∧ wipes.tamperBit 4 = true ∧
     frozen.tamperArmed 4 = true ∧ frozen.tamperBit 4 = false ∧ s.tamperArmed 0 = false ∧ shut.tamperArmed 0 = true ∧ wipes.dmd.rx = [] ∧
     wipes.mac.ops = [] ∧ wipes.memu.wipe = none ∧ wipes.fills = [] ∧ (after (exec (.tamperFire (.mesh false)) wipes)).memu.wipe = some 1 ∧
     fired.mramBytes 0x1831A006 1 = [5] ∧ fired.sec.away = [.mesh] ∧ (after (exec (.tamperFire (.mesh false)) fired)).sec.logCount = 1 ∧
     (after (exec (.tamperFire (.mesh true)) fired)).sec.away = [] ∧ (after (exec (.tamperFire (.supply false 619999 2)) keep)).sec.away = [.vddCore] ∧
     (after (exec (.tamperFire (.supply false 620000 2)) keep)).sec.away = [] ∧ s.tempOutside 125 = false ∧ s.tempOutside 126 = true ∧
     (after (exec (.presenceRelease 2000) s)).sec.windowEnd.isSome) := by decide +kernel

/-- The master of a ring of two, and a member; a TIME packet of a ring of three that agrees, and one that is late. -/
theorem test_hyp_RingDiscoveryTimeAndFaults :
    (let m := member 0 [(R.ULK_CTL, 1)];
     let u := (member 0 [(R.ULK_CTL, 1)]).setFld F.ULK_STAT_RING_UP 1 |>.setFld F.ULK_STAT_N 2;
     let k := member 1 [(R.ULK_CTL, 1)];
     let w := k.setFld F.ULK_STAT_LOAD_WAIT 1;
     let pl : List Byte := List.replicate 28 0 ++ [3];
     let e : Rat := (0 - k.hopDelay 0 3) * mkRat 78125 192;
     let late : State := { k with ulk := { k.ulk with timeSeen := some 0 }, time := 49152 };
     let soon : State := { late with time := 49151 };
     let sent : State := { m with ulk := { m.ulk with discAt := some 0, laneEnd := 1 } };
     let body : List Byte := [0x11, 0, 0, 0, 0, 0, 0, 0];
     let good := { (member 1 [(R.ULK_CTL, 3)]) with ulk := { k.ulk with calOk := true, good := 4 } };
     let near : State := { k with ulk := { k.ulk with good := 3 } };
     let lost := { near.setFld F.ULK_STAT_ALIGNED 1 with ulk := { k.ulk with bad := 1 } };
     let two : List Byte := List.replicate 24 0 ++ [1, 0, 0, 0, 1];
     let e1 : Rat := (0 - k.hopDelay 1 1) * mkRat 78125 192;
     let ev : EvAction := ⟨126, 5, 0, 1, 7, none⟩;
     let act : State := { w with mac := { w.mac with ops := [{ TxOp.blank with kind := .core 0 0, inQueue := true }], events := [ev] } };
     let step := after (exec .alignmentStep act);
     12 ≤ (body ++ crcStored .crc32c body).length ∧
     crcStored .crc32c ((body ++ crcStored .crc32c body).take 8) = (body ++ crcStored .crc32c body).drop 8 ∧
     (after (exec (.ulirBadPacket body) m)).on F.ULK_FLAGS_CRC_ERR = true ∧
     good.on F.ULK_CTL_REF = true ∧ (after (exec .refLock good)).on F.ULK_STAT_ALIGNED = true ∧
     -500 ≤ e1 ∧ e1 ≤ 500 ∧ hopSum 1 1 = 1 ∧ (after (exec (.ulirTime 0 two) near)).on F.ULK_STAT_ALIGNED = true ∧
     1000 < (10 - k.hopDelay 1 1) * mkRat 78125 192 ∧ (10 - k.hopDelay 1 1) * mkRat 78125 192 ≤ 10000 ∧
     (after (exec (.ulirTime 10 two) lost)).on F.ULK_FLAGS_RING_FAULT = true ∧
     act.mac.ops.length = 1 ∧ step.mac.ops = [] ∧ step.mac.events = [] ∧ step.reg (R.TAL_EVCNTc 0x102) = 2 ∧
     State.reset.on F.ULK_CTL_EN = false ∧ m.on F.ULK_CTL_EN = true ∧ m.sys.straps.cid = 0 ∧ k.sys.straps.cid ≠ 0 ∧ m.on F.ULK_STAT_RING_UP = false ∧
     u.on F.ULK_STAT_RING_UP = true ∧ firstOffender 1 [1, 3] = some 3 ∧ (after (exec (.ulirDisc 0 [1, 2]) m)).fld F.ULK_STAT_N = 3 ∧
     u.fld F.ULK_STAT_N = 2 ∧ (0 : Int) ≤ (1600 : Int) - (2 - 1) * 1600 ∧ (after (exec (.ulirCal 2600) u)).on F.ULK_STAT_ALIGNED = true ∧
     (after (exec (.ulirCal 2601) u)).on F.ULK_FLAGS_CAL_FAIL = true ∧ m.ulk.copies = [] ∧ m.ulk.queries = [] ∧ k.on F.ULK_CTL_REF = false ∧
     m.ulk.waiting = [] ∧ m.ulk.laneEnd ≤ 15625 * m.now ∧ ¬ (sent.ulk.laneEnd ≤ 15625 * sent.now) ∧ m.ulk.discAt = none ∧ m.ulk.calAt = none ∧
     sent.ulk.discAt = some 0 ∧ sent.now < (0 : Time).toNat + 245760 ∧ ({ u with time := 24576 } : State).ulk.timeK < 24576 / 24576 ∧
     (after (exec (.laneFault false 15) u)).on F.ULK_STAT_RING_UP = true ∧ (after (exec (.laneFault false 16) u)).on F.ULK_STAT_RING_UP = false ∧
     (member 1 [(R.ULK_CTL, 0xFFFFFFFF)]).on F.ULK_CTL_REF = true ∧ k.on F.ULK_STAT_ALIGNED = false ∧ leNat ((pl.drop 28).take 1) = 3 ∧
     k.fld F.DMD_CTL_PORT_EN = 0 ∧ k.fld F.TXP_CTL_PORT_EN = 0 ∧ k.mac.ops = [] ∧ k.mac.events = [] ∧ -10000 ≤ e ∧ e ≤ 10000 ∧
     10000 < (100 - k.hopDelay 0 3) * mkRat 78125 192 ∧ w.on F.ULK_STAT_LOAD_WAIT = true ∧
     (after (exec .alignmentStep w)).on F.ULK_STAT_LOAD_WAIT = false ∧ (member 1 [(R.ULK_CTL, 1)]).sys.mode ≠ .subordinate ∧
     (after (exec .timePacketTimeout late)).on F.ULK_FLAGS_RING_FAULT = true ∧ (after (exec .timePacketTimeout soon)).on F.ULK_FLAGS_RING_FAULT = false) := by decide +kernel

theorem test_hyp_RingLookupsCopiesAndBeacons :
    (let m := member 0 [(R.ULK_CTL, 0xFFFFFFFF)];
     let o := { ledger .head [(R.ULK_CTL, 1)] with sys := m.sys };
     let q := fun (x : Query) => ({ m with ulk := { m.ulk with queries := [x] } } : State);
     let c : Copy := ⟨1, 9, none, List.replicate 16 0, []⟩;
     let g : State := { m with ulk := { m.ulk with copies := [c], lastSeq := [(1, 4)] } };
     let b := member 0 [(R.ULK_CTL, 1), (R.ULK_MEMBERk 1, 0xFFFFFFFF)];
     let msg : List Byte := List.replicate 11 0 ++ leBytes 2 (b.fld (F.ULK_MEMBERk_DOMAIN 1));
     let k : State := { b with key := { b.key with named := [(b.fld (F.ULK_MEMBERk_KEYSLOT 1), ⟨2, 0, true, true, 0, List.replicate 16 0, 0, 0, 0⟩)] } };
     let bc := { TxOp.blank with kind := .beacon, encr := .waiting, time := 24576 };
     let w : State := { m with mac := { m.mac with ops := [bc] } };
     State.reset.on F.ULK_CTL_EN = false ∧ m.on F.ULK_CTL_EN = true ∧ ((o.checkSeq 1 0).ownsRecord 5).2 = true ∧ ((o.checkSeq 1 0).ownsRecord 6).2 = false ∧
     (o.checkSeq 1 0).hotFind 6 = none ∧ (∀ x ∈ o.ulk.queries, x.addr ≠ 6) ∧ (∃ x ∈ (q ⟨7, 6, none, 0⟩).ulk.queries, x.addr = 6) ∧
     ((q ⟨7, 6, none, 0⟩).ulk.queries.find? fun x => x.tag == 7) = some ⟨7, 6, none, 0⟩ ∧
     (after (exec (.lookupTimeout 7) { q ⟨7, 6, none, 0⟩ with time := 491 })).ulk.queries = [⟨7, 6, none, 0⟩] ∧
     (after (exec (.lookupTimeout 7) { q ⟨7, 6, none, 0⟩ with time := 492 })).ulk.queries = [] ∧ (some 3 : Option Rxid) ≠ none ∧
     (∀ x ∈ m.ulk.queries, x.tag ≠ 7) ∧ m.gathers = true ∧ State.reset.gathers = false ∧ kget? g.ulk.lastSeq 1 = some 4 ∧ (6 : Byte) ≠ 4 + 1 ∧
     (g.ulk.copies.find? fun c => c.src == 1 && c.rxid == 9) = some c ∧
     (∀ c ∈ m.ulk.copies, ¬ (c.src = 1 ∧ c.rxid = 9)) ∧ (after (exec (.ulirVoid 1 9 6 0) g)).ulk.copies = [] ∧
     (let h : State := { m with ulk := { m.ulk with copies := [{ c with ring := some 2, rxid := 8 }], lastSeq := [(1, 4)] } };
      let v := after (exec (.ulirVoid 1 9 6 0) h);
      (v.ulk.copies.map fun c => (c.rxid, c.ring)) = [(8, none)] ∧ v.reg (R.TAL_SQn 17) = 1 ∧ (after (exec (.ulirCommit 1 8 7 0) v)).reg (R.TAL_SQn 17) = 1) ∧
     (after (exec (.ulirSeg 1 9 5 [1]) g)).ulk.copies = [{ c with data := [1] }] ∧ ((k.checkSeq 1 0).memberKey 1 msg).isSome ∧
     (m.checkSeq 1 0).memberKey 0 msg = none ∧ (after (exec (.lookupQuery 6) m)).on F.ULK_LKUP_STAT_TIMEOUT = true ∧
     (after (exec (.ulirBcnTag 0 none) w)).mac.ops = [] ∧ (after (exec .bcnTagDeadline w)).on F.MAC_FLAGS_SF_CFG_ERR = true) := by decide +kernel

/-- Runs asked for and due at this instant; a table whose place is wrong and one in SRAM; an interval at its limit; a code that steps. -/
theorem test_hyp_AgeingRunsAndCodes :
    (let s := inMode .head [(R.AGE_CTL, 0xFFFFFFFF), (R.AGE_TBL_ADDR, 0x10140000)];
     let r : State := { s with age := { s.age with running := some 0 } };
     let bad := r.setReg R.AGE_TBL_ADDR 0;
     let p : State := { s with age := { s.age with ppsLast := some 0 }, time := 24576000 - 2458 };
     let z : AgeRaw := ⟨List.replicate 8 (1, 1), [], none, 0, []⟩;
     let held : State := { s with age := { s.age with hold := some 5 } };
     let on := inMode .head [(R.AGE_VID, 5)];
     let step := usDticks (max 1 ((st [(R.AGE_VID, 5)]).fld F.AGE_VID_STEP_US));
     s.age.running = none ∧ s.sys.mode ≠ .lastgasp ∧ s.sys.mode ≠ .dormant ∧ (inMode .lastgasp []).sys.mode = .lastgasp ∧ s.on F.AGE_CTL_EN = true ∧
     s.fld F.AGE_CTL_PERIOD_H ≠ 0 ∧ s.age.lastStart = none ∧ s.age.hold = none ∧ r.age.running = some 0 ∧ r.age.closing = none ∧ r.memu.mramPend = [] ∧
     (after (exec .ageRunDue held)).age.running = none ∧ (after (exec .ageRunDue { held with time := 5 })).age.running = some 5 ∧
     tableOk ((r.reg R.AGE_TBL_ADDR).toNat / 512 * 512) = true ∧ tableOk 0x18400000 = true ∧
     tableOk ((bad.reg R.AGE_TBL_ADDR).toNat / 512 * 512) = false ∧ prevTable (r.portBytes true 0x10140000 512).2 = none ∧
     answers (exec (.replan z) r) = true ∧ (after (exec .ppsEdge p)).age.ppsCount = 1 ∧
     (after (exec .ppsEdge { p with time := 24576000 - 2459 })).on F.AGE_FLAGS_PPS_REJ = true ∧
     (after (exec .vidStep { on with time := BitVec.ofNat 64 step })).fld F.AGE_VID_CUR = 1 ∧
     (after (exec .vidStep { on with time := BitVec.ofNat 64 (step - 1) })).fld F.AGE_VID_CUR = 0 ∧
     State.reset.sys.phase = .reset ∧ State.reset.sys.kind = .powerOn ∧ (after (exec (.ageVidWrite 5) on)).fld F.AGE_VID_CODE = 5 ∧
     answers (exec (.replan z) { r with regs := (r.setReg R.AGE_TBL_ADDR 0x18400000).regs }) = true ∧
     (after (exec (.replan z) { r with regs := (r.setReg R.AGE_TBL_ADDR 0x18400000).regs })).age.closing ≠ none) := by decide +kernel

/-- A previous table is found: a header that AGT1 opens, with its CRC. -/
theorem test_hyp_AgeingFindsItsTable :
    (let t : List Byte := [0x41, 0x47, 0x54, 0x31, 1, 0] ++ List.replicate 246 0;
     (prevTable (t ++ crcStored .crc32c t ++ List.replicate 256 0)).map (·.1) = some 0) := by decide +kernel

/-- The character 0x41 and the false start of a 1; a break; a line low for its limit and one cycle less; a character sent in its time. -/
theorem test_hyp_SerialPorts :
    (let s := serial [];
     let u := s.uart[(0 : Fin 2)];
     let put := fun (x : Uart) (t : Time) => ({ s with uart := s.uart.set 0 x, time := t } : State);
     let line := fun (l : List Bool) => l.map fun b => (b, (mkRat u.rxLine.bitCycles 1));
     let a := line [false, true, false, false, false, false, false, true, false, true];
     let ir := st [(R.UARTn_CTL 0, 0x17)];
     let off := st [(R.UARTn_CTL 0, 0x6)];
     let t := put { u with tx := [1], shifter := some 2 };
     let char := u.rxLine.charCycles;
     let low := (64 * max 2 (s.fld (F.UARTn_FIFO_CTL_BREAK_LIMIT 0)) * char + 124) / 125;
     s.on (F.UARTn_CTL_EN 0) = true ∧ s.on (F.UARTn_CTL_RXEN 0) = true ∧ s.on (F.UARTn_CTL_TXEN 0) = true ∧ u.stuck = false ∧ u.shifter = none ∧
     s.asleep = false ∧ u.sirEnd = none ∧ (State.reset.on (F.UARTn_CTL_EN 0)) = false ∧ (s.reg (R.UARTn_FMT 0)).toNat % 16 = 0 ∧
     u.rx = [] ∧ u.tx = [] ∧ u.idleHeld = false ∧ u.emptied = false ∧ (s.uartAt 0 0).parity = 0 ∧ (s.uartAt 0 0).dbits = 8 ∧
     (after (exec (.uartCharReceived 0 0 a) s)).uart[(0 : Fin 2)].rx = [0x41] ∧
     (after (exec (.uartCharReceived 0 0 (line [true])) s)).uart[(0 : Fin 2)].rx = [] ∧
     (after (exec (.uartCharReceived 0 0 [(false, 100000)]) s)).uart[(0 : Fin 2)].rx = [0x800] ∧
     (after (exec (.uartRxRead 0) (put { u with rx := [0x41] } 0))).busOut = 0x41 ∧
     (after (exec (.uartTxWrite 0 9) s)).uart[(0 : Fin 2)].shifter = some 9 ∧
     64 * char ≤ 125 * ((64 * char + 124) / 125) ∧
     (after (exec (.uartCharSent 0) (t (BitVec.ofNat 64 ((64 * char + 124) / 125))))).uart[(0 : Fin 2)].shifter = some 1 ∧
     (after (exec (.uartCharSent 0) (t 0))).uart[(0 : Fin 2)].shifter = some 2 ∧
     (after (exec (.lineStuck 0) (put { u with lowAt := some 0 } (BitVec.ofNat 64 low)))).uart[(0 : Fin 2)].stuck = true ∧
     (after (exec (.lineStuck 0) (put { u with lowAt := some 0 } (BitVec.ofNat 64 (low - 1))))).uart[(0 : Fin 2)].stuck = false ∧
     (after (exec (.uartCharReceived 0 0 [(false, 100), (true, 1), (false, 100000)]) s)).uart[(0 : Fin 2)].rx = [0x800] ∧
     (after (exec (.uartCharReceived 0 0 [(false, 1)]) s)).uart[(0 : Fin 2)].rx = [] ∧ (s.uartAt 0 0).sirOn = false ∧
     (ir.uartAt 0 0).sirOn = true ∧ (ir.uartAt 0 0).sirLow = false ∧ (after (exec (.uartCharReceived 0 0 [(true, 5)]) ir)).uart[(0 : Fin 2)].rx = [0xFF] ∧
     (after (exec (.uartCharReceived 0 0 [(true, 1)]) ir)).uart[(0 : Fin 2)].rx = [] ∧ ir.txd 0 = false ∧ s.txd 0 = true ∧
     off.on (F.UARTn_CTL_EN 0) = false ∧ (after (exec (.stuckClear 0) off)).uart = off.uart ∧ s.sys.mode ≠ .dormant ∧ (0x6 : Word).getLsbD 0 = false ∧
     (after (exec (.registerWrite .host (BitVec.ofNat 32 (R.UARTn_CTL 0)) 6) (t 0))).uart[(0 : Fin 2)].shifter = none ∧
     (after (exec (.fifoCtlWrite 0 0x00400000) State.reset)).reg (R.UARTn_FIFO_CTL 0) = 0x00400000 ∧
     (after (exec (.fifoCtlWrite 0 0x00410000) State.reset)).on (F.UARTn_FLAGS_CFG_ERR 0) = true ∧
     (inMode .dormant []).asleep = true ∧ (after (exec (.uartBreak 0 0) s)).uart[(0 : Fin 2)].rx = [0x800]) := by decide +kernel

theorem test_hyp_HostRingsAndInterrupts :
    (let s := st [];
     let spi : State := { s with sys := { s.sys with straps := ⟨0, true, 0⟩ } };
     let on := st [(R.HIF_RINGr_CFG 4, 1), (R.EVC_CTL, 1), (R.HIF_CTL, 1)];
     let busy : State := { s with hif := { s.hif with rings := s.hif.rings.set 4 ⟨[], [⟨0, false, false⟩], 1⟩ } };
     let boot : State := { st [(R.HIF_BOOT_LEN, 0x100001)] with hif := { s.hif with bootWait := true } };
     let irq : State := { st [(R.HIF_IRQc 0, 0xFFFFFFFF), (R.HIF_IER, 1)] with hif := { s.hif with irq := s.hif.irq.set 0 ⟨1, some 0⟩ }, time := 2 ^ 40 };
     let d : Deferred := ⟨0, 4, 0, parseSub [], 5, 0, none, 0, false⟩;
     let store : State := { s with mac := { s.mac with store := [d] } };
     spi.sys.straps.hostSel = true ∧ s.sys.straps.hostSel = false ∧ on.on (F.HIF_RINGr_CFG_EN 4) = true ∧ s.on (F.HIF_RINGr_CFG_EN 4) = false ∧
     s.ringIdle 4 = true ∧ busy.ringIdle 4 = false ∧ on.on F.EVC_CTL_HR_EN = true ∧ on.evc.hostErr = false ∧ on.ringOn 4 = true ∧ s.ringOn 4 = false ∧
     store.unread 4 = some d ∧ s.mac.store = [] ∧ irq.hif.irq[(0 : Fin 11)].first = some 0 ∧ irq.fld (F.HIF_IRQc_USEC 0) ≠ 0 ∧
     usDticks (irq.fld (F.HIF_IRQc_USEC 0)) ≤ irq.now ∧ irq.fldBit F.HIF_IER_EN 0 = true ∧ s.fld (F.HIF_IRQc_USEC 0) = 0 ∧ boot.hif.bootWait = true ∧
     0x100000 < boot.fld F.HIF_BOOT_LEN_LEN ∧ (after (exec (.hostBootGo 0x100) boot)).fld F.SEC_BOOT_CODE = 4 ∧
     (let p : State := { s.setReg R.MSIX_PBA 2 with hif := { s.hif with pci := ⟨true, true⟩ } };
      (after (exec (.linkUp true 1 2 ⟨true, true⟩) p)).hif.msi = [] ∧ (after (exec (.linkUp true 1 2 ⟨true, false⟩) (p.setReg (R.MSIX_CTL 1) 0))).hif.msi = [1] ∧
      (after (exec .hostReset p)).hif.pci = ⟨false, false⟩) ∧
     (after (exec (.ringEnable 4 0x401) s)).on (F.HIF_RINGr_CFG_EN 4) = true ∧ (after (exec (.ringTailWrite 4 16) s)).fld (F.HIF_RINGr_TAIL_COUNT 4) = 16 ∧
     (after (exec (.ringTailWrite 4 17) s)).fld (F.HIF_RINGr_TAIL_COUNT 4) = 0 ∧ answers (exec (.irqModerationTimer 0) irq) = true) := by decide +kernel

/-- Chapter 19: HIF_ID reads 0x64060100 over SPI; debug of a stopped core in MAKER. -/
theorem test_hyp_HostAndDebugAccess :
    (let s := st [];
     let spi : State := { s with sys := { s.sys with straps := ⟨0, true, 0⟩ } };
     let shut := secured 2 [];
     let latched : State := { s with mac := { s.mac with latches := [(R.MAC_SF_ORIGIN_HI, 5)] } };
     (after (exec (.spiRead 0x4016000C 1 6 []) spi)).spiOut = [0, 0xA5, 0x00, 0x01, 0x06, 0x64] ∧
     (after (exec (.spiWrite 0x10140000 [1, 2]) spi)).bytes 0x10140000 2 = [1, 2] ∧ (∀ b < 36, 8 ≤ b → s.bankDown b = false) ∧
     ({ s with memu := { s.memu with dual := [⟨true, 0x10140000 / 4, 0x10140000, 2, [0, 0, 0, 0]⟩] } } : State).dualNow.length = 1 ∧
     s.dualNow = [] ∧ s.sys.mode ≠ .dormant ∧ (inMode .dormant []).sys.mode = .dormant ∧
     (after (exec (.bar2Write 0 [1, 2]) s)).bytes 0x10140000 2 = [1, 2] ∧ (∀ i < 2, inDtcm (0x110000 + i - 0x100000 + 0x20000000) = true) ∧
     (after (exec (.bar2Write 0x110000 [1, 2]) s)).bytes 0x20010000 2 = [1, 2] ∧
     (after (exec (.bar2Write 0x1000000 [1]) s)).on F.MEM_FLAGS_MRAM_WP = true ∧ inRegs 0x4016000C = true ∧ inRegs 0x10140000 = false ∧
     (after (exec (.spiStatus 0x9F) spi)).on F.HIF_FLAGS_SPI_ERR = true ∧ (after (exec (.spiStatus 0x0B) spi)).on F.HIF_FLAGS_SPI_ERR = false ∧
     (after (exec (.regLoRead 0x401A0000 []) s)).busOut = 0 ∧ (after (exec (.regLoRead 0x18400000 [(0x18400000, .uncorrectable)]) s)).on F.MEM_FLAGS_MRAM_ERR = true ∧
     inBar0 0x401A0000 = true ∧ inRegs 0x401A0000 = false ∧ inBar0 0x18400000 = false ∧
     (after (exec (.regLoRead 0x10140000 []) (s.setBytes 0x10140000 [1, 2, 3, 4]))).busOut = 0x04030201 ∧
     kget? latched.mac.latches R.MAC_SF_ORIGIN_HI = some 5 ∧ R.MAC_SF_ORIGIN_HI ∉ [R.MAC_SF_ORIGIN_LO, R.MAC_SF_START_LO, R.MAC_OPENMAP_LO, R.MAC_MEPH_XLO, R.TMR_TIME_LO, R.TMR_WAKE_LO] ∧
     s.debugOpen 0 = true ∧ s.debugOpen 1 = true ∧ shut.debugOpen 0 = false ∧ shut.debugOpen 1 = false ∧ s.cores[(0 : Fin 8)].run = .running ∧
     s.cores[(0 : Fin 8)].load = none ∧ s.cores[(1 : Fin 8)].run = .stopped ∧ inShared 0x10140000 = true ∧
     (after (exec (.debugAccess (.pcWrite 1 0x47)) s)).cores[(1 : Fin 8)].pc = 0x44) := by decide +kernel

end SliceTests
end

section
/-! The idle step (R3, R19, R451, R457, R529, R532, R536). -/

namespace Sys2Proof.Machine

/-! ### Held, asleep -/

theorem State.inPowerOn_iff (s : State) : s.inPowerOn = true ↔ s.sys.phase = .reset ∧ s.sys.kind = .powerOn := by
  simp [State.inPowerOn]

theorem State.asleep_iff (s : State) : s.asleep = true ↔ s.sys.mode = .dormant ∧ s.sys.phase = .running := by
  simp [State.asleep]

/-! ### The counter of AO ticks in DORMANT (R536) -/

/-- Counting a tick of DORMANT changes registers alone. -/
theorem State.countDorm_eq (s : State) : s.countDorm = { s with regs := s.countDorm.regs } := by
  simp only [State.countDorm]
  split <;> rfl

theorem State.countDorm_of_not_asleep {s : State} (h : ¬ s.asleep = true) : s.countDorm = s := by
  simp [State.countDorm, h]

theorem State.reg_countDorm_ne (s : State) {a : Nat} (h : a ≠ R.TMR_DORM) : s.countDorm.reg a = s.reg a := by
  simp only [State.countDorm]
  split
  · exact State.reg_setReg_ne s _ h
  · rfl

/-- TMR_DORM counts a tick spent asleep, up to its last value. -/
theorem State.reg_countDorm (s : State) : s.countDorm.reg R.TMR_DORM =
    if (s.sys.mode = .dormant ∧ s.sys.phase = .running) ∧ s.reg R.TMR_DORM ≠ 0xFFFFFFFF then s.reg R.TMR_DORM + 1
    else s.reg R.TMR_DORM := by
  have hlast : (s.reg R.TMR_DORM).toNat + 1 < 2 ^ 32 ↔ s.reg R.TMR_DORM ≠ 0xFFFFFFFF := by bv_omega
  simp only [State.countDorm, Bool.and_eq_true, decide_eq_true_eq, hlast, State.asleep_iff]
  split
  · rw [State.reg_setReg_same]
    bv_omega
  · rfl

/-! ### The lane as time passes (R451) -/

theorem Ulk.drain_nil {u : Ulk} (cid : BitVec 5) (t : Nat) (h : u.waiting = []) : u.drain cid t u.waiting = u := by
  rw [h, Ulk.drain, ← h]

/-- A lane that is busy changes nothing. -/
theorem Ulk.drain_of_busy {u : Ulk} {t : Nat} (cid : BitVec 5) (h : t < u.laneEnd) : u.drain cid t u.waiting = u := by
  cases hw : u.waiting with
  | nil => rw [← hw, Ulk.drain_nil cid t hw]
  | cons w ws => rw [Ulk.drain, if_neg (by omega), ← hw]

/-- A packet that waits alone leaves when the lane is idle. -/
theorem Ulk.drain_singleton_of_idle {u : Ulk} {t : Nat} (cid : BitVec 5) (w : Waiting) (h : u.laneEnd ≤ t) :
    u.drain cid t [w] = { u.depart cid w u.laneEnd with waiting := [] } := by
  rw [Ulk.drain, if_pos h, Ulk.drain]

theorem State.laneTick_of_none_waiting {s : State} (h : s.ulk.waiting = []) : s.laneTick = s := by
  have hrun : s.laneRun = s := by rw [State.laneRun, Ulk.drain_nil _ _ h]
  have hids : (s.dmd.used.filter fun id => s.ulk.waiting.any (·.marks id)) = [] := by
    rw [h]
    exact List.filter_eq_nil_iff.2 fun _ _ => Bool.false_ne_true
  rw [State.laneTick, hids, hrun, List.foldl_nil]

theorem State.freeRxid_time (s : State) (id : Rxid) : (s.freeRxid id).time = s.time := by
  unfold State.freeRxid
  split <;> rfl

theorem State.freeRxid_ulk (s : State) (id : Rxid) : (s.freeRxid id).ulk = s.ulk := by
  unfold State.freeRxid
  split <;> rfl

/-- Freeing RXIDs changes neither time nor the lane. -/
theorem State.foldl_freeRxid_frame (ids : List Rxid) (s : State) :
    (ids.foldl (fun (s : State) id => s.freeRxid id) s).time = s.time ∧
    (ids.foldl (fun (s : State) id => s.freeRxid id) s).ulk = s.ulk := by
  induction ids generalizing s with
  | nil => exact ⟨rfl, rfl⟩
  | cons id ids ih => simpa only [List.foldl_cons, State.freeRxid_time, State.freeRxid_ulk] using ih (s.freeRxid id)

theorem State.laneTick_time (s : State) : s.laneTick.time = s.time := (State.foldl_freeRxid_frame _ s.laneRun).1

theorem State.laneTick_ulk (s : State) :
    s.laneTick.ulk = s.ulk.drain s.sys.straps.cid (laneDtick * s.now) s.ulk.waiting := (State.foldl_freeRxid_frame _ s.laneRun).2

/-! ### A tick of the reference (R457) -/

theorem Ulk.slewed_of_no_error {u : Ulk} (h : u.slew = 0) (hp : u.phase.natAbs < 10000000) : u.slewed = (u, 1) := by
  have hsize : dtickSlew = 10000000 := rfl
  have hlo : ¬ dtickSlew ≤ u.phase := by omega
  have hhi : ¬ u.phase ≤ -dtickSlew := by omega
  have hstill : max (-10) (min 10 u.slew) = 0 := by omega
  simp only [Ulk.slewed, hstill, Int.add_zero, Int.sub_zero, if_neg hlo, if_neg hhi]

/-- A tick takes at most 10 units off the error, into the phase; a phase that has moved by a whole dtick goes back by one, and that dtick is held
or passed besides. -/
theorem Ulk.slewed_cases (u : Ulk) : ∃ (d p : Int) (n : Nat), d = max (-10) (min 10 u.slew) ∧ n ≤ 2 ∧
    p = u.phase + d + 10000000 * ((n : Int) - 1) ∧ u.slewed = ({ u with slew := u.slew - d, phase := p }, n) := by
  have hsize : dtickSlew = 10000000 := rfl
  simp only [Ulk.slewed]
  by_cases hlo : dtickSlew ≤ u.phase + max (-10) (min 10 u.slew)
  · exact ⟨_, _, 0, rfl, by omega, by omega, if_pos hlo⟩
  by_cases hhi : u.phase + max (-10) (min 10 u.slew) ≤ -dtickSlew
  · exact ⟨_, _, 2, rfl, by omega, by omega, (if_neg hlo).trans (if_pos hhi)⟩
  · exact ⟨_, _, 1, rfl, by omega, by omega, (if_neg hlo).trans (if_neg hhi)⟩

/-! ### The idle step, one equation a case -/

/-- `n` dticks pass, and a new cycle begins. -/
def State.passed (s : State) (n : Nat) : State := { s.newCycle with time := s.time + BitVec.ofNat 64 n }

theorem State.now_passed_one {s : State} (h : s.now + 1 < 2 ^ 64) : (s.passed 1).now = s.now + 1 := by
  unfold State.now at *
  show (s.time + 1).toNat = s.time.toNat + 1
  bv_omega

theorem step_of_none_pending {s : State} (h : s.pending = []) : step s = .next s.idle := by
  rw [step, h]

theorem State.idle_of_held {s : State} (h : s.inPowerOn = true) : s.idle = s.countDorm.passed 0 := by
  have hheld : s.countDorm.newCycle.inPowerOn = true := by rw [State.countDorm_eq]; exact h
  simp only [State.idle, hheld, if_true, State.passed]
  simp [State.newCycle]

theorem State.idle_of_ao {s : State} (h : ¬ s.inPowerOn = true) (hao : s.sys.onAo = true ∨ s.sys.mode = .dormant) :
    s.idle = (s.countDorm.passed 750).laneTick := by
  have hheld : ¬ s.countDorm.newCycle.inPowerOn = true := by rw [State.countDorm_eq]; exact h
  have hao' : (s.countDorm.newCycle.sys.onAo || s.countDorm.newCycle.sys.mode == .dormant) = true := by
    rw [State.countDorm_eq]
    simpa [State.newCycle] using hao
  simp only [State.idle, if_neg hheld, if_pos hao']
  rfl

theorem State.idle_of_reference {s : State} (h : ¬ s.inPowerOn = true) (hao : ¬ (s.sys.onAo = true ∨ s.sys.mode = .dormant)) :
    s.idle = { s.passed s.ulk.slewed.2 with ulk := s.ulk.slewed.1 }.laneTick := by
  have hawake : s.countDorm = s := State.countDorm_of_not_asleep fun ha => hao (.inr (s.asleep_iff.1 ha).1)
  have hao' : ¬ (s.newCycle.sys.onAo || s.newCycle.sys.mode == .dormant) = true := by simpa [State.newCycle] using hao
  simp only [State.idle, hawake, if_neg hao']
  exact if_neg h

theorem State.idle_of_no_error {s : State} (h : ¬ s.inPowerOn = true) (hao : ¬ (s.sys.onAo = true ∨ s.sys.mode = .dormant))
    (hslew : s.ulk.slew = 0) (hphase : s.ulk.phase.natAbs < 10000000) : s.idle = (s.passed 1).laneTick := by
  rw [State.idle_of_reference h hao, Ulk.slewed_of_no_error hslew hphase]
  rfl

/-! ### Time that passes and changes nothing else -/

/-- IdleStepPassesOneTick's `passes`: a step from `s` passes `n` dticks and, in DORMANT, counts the tick; nothing else changes but that a new
cycle begins. -/
def StepPasses (s : State) (n : Nat) : Prop :=
  ∃ t, step s = .next t ∧ t = { s.newCycle with time := s.time + BitVec.ofNat 64 n, regs := t.regs } ∧
    t.reg R.TMR_DORM = (if (s.sys.mode = .dormant ∧ s.sys.phase = .running) ∧ s.reg R.TMR_DORM ≠ 0xFFFFFFFF
      then s.reg R.TMR_DORM + 1 else s.reg R.TMR_DORM) ∧ RegsBut s t [R.TMR_DORM]

theorem stepPasses_of_idle {s : State} {n : Nat} (hp : s.pending = []) (h : s.idle = s.countDorm.passed n) : StepPasses s n := by
  refine ⟨_, step_of_none_pending hp, ?_, ?_, fun a ha => ?_⟩
  · rw [h, State.countDorm_eq]
    rfl
  · rw [h]
    exact s.reg_countDorm
  · rw [h]
    exact s.reg_countDorm_ne (by simpa using ha)

theorem State.passed_waiting {s : State} (n : Nat) (h : s.ulk.waiting = []) : (s.countDorm.passed n).ulk.waiting = [] := by
  rw [State.countDorm_eq]
  exact h

/-! ### Where something waits for the lane, and where an error is slewed -/

/-- A dtick by the reference: time goes on by one and the lane has what is due by then. -/
theorem State.laneTick_passed_one {s : State} (h : s.now + 1 < 2 ^ 64) : (s.passed 1).laneTick.now = s.now + 1 ∧
    (s.passed 1).laneTick.ulk = s.ulk.drain s.sys.straps.cid (15625 * (s.now + 1)) s.ulk.waiting := by
  have hnow := State.now_passed_one h
  constructor
  · rw [State.now, State.laneTick_time]
    exact hnow
  · rw [State.laneTick_ulk, hnow]
    rfl

/-- With nothing waiting for the lane, a tick of the reference changes time and the slewed error alone. -/
theorem State.idle_of_slewed {s : State} (h : ¬ s.inPowerOn = true) (hao : ¬ (s.sys.onAo = true ∨ s.sys.mode = .dormant))
    (hw : s.ulk.waiting = []) {d p : Int} {n : Nat} (hs : s.ulk.slewed = ({ s.ulk with slew := s.ulk.slew - d, phase := p }, n)) :
    s.idle = { s.passed n with ulk := { s.ulk with slew := s.ulk.slew - d, phase := p } } := by
  rw [State.idle_of_reference h hao, hs]
  exact State.laneTick_of_none_waiting hw

/-- Settles O4: one equation of the idle step for each way in which time passes, with the laws of the DORMANT counter, of the lane and of a
slewed tick. -/
theorem idleStepPassesOneTick : Obligations.IdleStepPassesOneTick := by
  unfold Obligations.IdleStepPassesOneTick
  intro s hp held ao dorm passes
  have hrun : ¬ held → ¬ s.inPowerOn = true := fun h hs => h (s.inPowerOn_iff.1 hs)
  refine ⟨fun h => ?held, fun h hao hw => ?ao,
    fun h hao hslew hphase => ⟨fun hw => ?reference, fun w hw hmax => ?waiting⟩, fun h hao hw => ?slewed⟩
  case held => exact stepPasses_of_idle hp (State.idle_of_held (s.inPowerOn_iff.2 h))
  case ao =>
    refine stepPasses_of_idle hp ?_
    rw [State.idle_of_ao (hrun h) hao, State.laneTick_of_none_waiting (State.passed_waiting 750 hw)]
  case reference =>
    have hawake : s.countDorm = s := State.countDorm_of_not_asleep fun hs => hao (.inr (s.asleep_iff.1 hs).1)
    refine stepPasses_of_idle hp ?_
    rw [State.idle_of_no_error (hrun h) hao hslew hphase, hawake]
    exact State.laneTick_of_none_waiting hw
  case waiting =>
    obtain ⟨hnow, hulk⟩ := State.laneTick_passed_one hmax
    rw [← State.idle_of_no_error (hrun h) hao hslew hphase] at hnow hulk
    refine ⟨_, step_of_none_pending hp, hnow, fun hend => ?_, fun hend => ?_⟩
    · rw [hulk, hw, Ulk.drain_singleton_of_idle _ _ hend]
      exact ⟨rfl, rfl, rfl⟩
    · rw [hulk, Ulk.drain_of_busy _ hend]
  case slewed =>
    obtain ⟨d, p, n, hd, hn, hphase, hs⟩ := s.ulk.slewed_cases
    refine ⟨_, n, hn, step_of_none_pending hp, ?_⟩
    rw [State.idle_of_slewed (hrun h) hao hw hs]
    refine ⟨?_, ?_, ?_, rfl⟩
    · show p + (s.ulk.slew - d) = _
      omega
    · show (s.ulk.slew - (s.ulk.slew - d)).natAbs ≤ 10
      omega
    · show (s.ulk.slew - d).natAbs ≤ _
      omega

end Sys2Proof.Machine
end

section
/-! The host's accesses: the reads outside the register region. -/

namespace Sys2Proof.Machine

/-! ### A read just past MRAM -/

/-- After reset every SRAM bank is in use. -/
theorem State.bankDown_reset (b : Nat) : State.reset.bankDown b = false := by
  have hlo : State.reset.reg R.MEM_BANK_FAIL_LO = 0 := by decide +kernel
  have hhi : State.reset.reg R.MEM_BANK_FAIL_HI = 0 := by decide +kernel
  have hmarch : State.reset.memu.march = none := rfl
  have hwipe : State.reset.memu.wipe = none := rfl
  simp [State.bankDown, hlo, hhi, hmarch, hwipe]

/-- A read of the word behind MRAM touches no byte of MRAM; an error listed at the last byte of MRAM, where no word begins, is reported all
the same, since three bytes more than MRAM holds are taken for its word. -/
theorem regLoRead_behind_mram_reports_error :
    Yields (.regLoRead 0x19000000 [(0x18FFFFFF, .uncorrectable)]) State.reset fun t => t.on F.MEM_FLAGS_MRAM_ERR = true :=
  ⟨_, rfl, by decide +kernel⟩

/-- Refutes O60: its clause on a read that no block answers is said of every list of MRAM errors, also of one that is not well formed
(`Instr.wf`). With an uncorrectable error listed at 0x18FFFFFF, an address no word has, the read at 0x19000000 from the state after reset sets
MEM_FLAGS.MRAM_ERR, where the clause has nothing but `busOut` change. -/
theorem not_hostAndDebugAccess : ¬ Obligations.HostAndDebugAccess := by
  unfold Obligations.HostAndDebugAccess
  intro h
  obtain ⟨-, hawake, -⟩ := h State.reset .host 0x19000000 0 [] 0 0 [(0x18FFFFFF, .uncorrectable)] 0 0 0
  obtain ⟨-, -, -, houtside, -⟩ := hawake (by decide)
  obtain ⟨-, -, -, -, hunanswered⟩ := houtside (by decide)
  have hsays := hunanswered (by decide) ⟨fun b _ _ => State.bankDown_reset b, by decide +kernel⟩
  obtain ⟨t, hdoes, herr⟩ := regLoRead_behind_mram_reports_error
  rw [Host.Outcome.next.inj (hdoes.symm.trans hsays)] at herr
  exact absurd herr (by decide +kernel)

end Sys2Proof.Machine
end
